-- ==== Sys2Proof/Word.lean ====
section
/-! DEFINITION. The word types of the LC340 model: a byte of a station line and a converter code. -/

namespace Sys2Proof

/-- One byte of a station line (chapter 08: eight data bits to a character). -/
abbrev Byte := BitVec 8

/-- One converter result, a code of 0..4095 (R26). -/
abbrev Code := BitVec 12

end Sys2Proof
end

