-- ==== Sys2Proof/Syntax.lean ====
section
/-! DEFINITION. The commands of the LC340: one constructor of `Instr` for each row of spec/opcode_table.json, with the row's operands. Operands of requests have the widths of their body fields in section 8.8. -/

namespace Sys2Proof

/-- The three stations, each on a port of its own (chapter 00, "The three stations"). -/
inductive Station where
  | cab | deck | office
  deriving DecidableEq, Repr

/-- A direction along the rail: fore lowers the position, aft raises it (R81). -/
inductive Direction where
  | fore | aft
  deriving DecidableEq, Repr

/-- The two consumers of the converter's deliveries and notices (R28). -/
inductive Consumer where
  | weigher | monitor
  deriving DecidableEq, Repr

/-- How far recovery has come when RESET_N is asserted during it (R174, R176): before the check, after the check, after the
booking of each account up to `last` (slot 0 to 15 in order, 16 for the unassigned account), after the step is HELD, after
the preact's clamp, and after COLD_START is raised (log entry 9). -/
inductive RecoveryPoint where
  | begun
  | checked
  | booked (last : Fin 17)
  | held
  | clamped
  | raised
  deriving DecidableEq, Repr

/-- A command to the part: a request of a station taken by its owner block, a field input, a timer's end, or an event
on a station line. One constructor for each row of spec/opcode_table.json. -/
inductive Instr where
  -- READ and EVENT requests (any station)
  | readStatus (st : Station)
  | readPlan (st : Station) (offset limit : BitVec 16)
  | readStep (st : Station) (stepId : BitVec 16)
  | readLot (st : Station) (slot : Byte) (offset limit : BitVec 16)
  | readHolds (st : Station)
  | readHatchMap (st : Station) (page : Byte) (offset limit : BitVec 16)
  | readBill (st : Station) (number : BitVec 32) (offset limit : BitVec 16)
  | readTransit (st : Station)
  | readSettings (st : Station) (offset limit : BitVec 16)
  | fetchEvent (st : Station)
  -- POUR requests of the Cab
  | startStep (revision : BitVec 16)
  | resume
  | stopStep
  | setFeedLevel (level : Byte)
  | presence (body : List Byte)
  | acknowledgeTrip
  | clearStop
  -- TRAVEL requests of the Cab
  | goToHold (hold : Byte)
  | goToPosition (position : BitVec 32)
  | referenceTravel
  | cancelTravel
  | clearTravelFault
  | setDiverter (value : Byte)
  -- HOLD POUR requests of the Deck
  | holdPour
  | releasePour
  -- PLAN requests of the Deck
  | openCall (callId : BitVec 32) (band : Option (BitVec 16))
  | closeCall
  | insertStep (position hold slot : Byte) (target : BitVec 16) (maxLevel : Byte)
  | modifyStep (stepId target : BitVec 16) (level : Byte)
  | deleteStep (stepId : BitVec 16)
  | cancelStep (stepId : BitVec 16)
  | closeStepShort (stepId : BitVec 16)
  | releaseHold (stepId : BitVec 16)
  | setTrimBand (band : BitVec 16)
  -- HATCH requests of the Deck
  | writeHatchEntry (page hold present : Byte) (fore aft : BitVec 32) (lever limit : BitVec 16)
  | requestSwap
  | cancelSwap
  -- LOT requests of the Office
  | openLot (number : BitVec 32) (grade refLength : Byte) (reference : List Byte) (declared : BitVec 32)
  | closeLot (number : BitVec 32)
  | releaseBill (number : BitVec 32)
  | setTime (seconds : BitVec 32)
  -- SETTINGS and CALIBRATION requests of the Office
  | writeSetting (identifier : BitVec 16) (value : BitVec 32)
  | acceptSettings
  | writeCalibration (zero span : BitVec 16) (band : Byte) (calUnlock : Bool)
  -- the station ports
  | frameComplete (port : Station) (chars : List Byte)
  | stopBitMissing (port : Station)
  | idleGap (port : Station)
  | lineBreak (port : Station)
  | takeRequest (port : Station) (calUnlock : Bool)
  | replySent (port : Station)
  -- the Measurement Converter and its consumers
  | conversionComplete (code : Code)
  | refOkFall
  | refOkRise
  | wGroupArrival
  | referenceFaultNotice (consumer : Consumer)
  | referenceGoodNotice (consumer : Consumer)
  | tachPulse
  | dGroupArrival
  | highHoldExpiry
  | referenceTimerExpiry
  -- the carriage
  | encoderCount (direction : Direction)
  | travelSpeedPeriodEnd
  | homeCloses (closed : Bool)
  | limitSwitchAsserted (switch : Direction) (asserted : Bool)
  | travelTimerExpiry
  | runOutTimerExpiry
  -- the governor's inputs and periods
  | estopAsserted
  | estopReleased
  | beltRunFall
  | beltRunRise
  | governorPeriodExpiry
  | feedRatePeriodEnd
  | presenceTimerExpiry
  -- the clock and the cold start
  | secondsTick
  | powerOn
  | resetNAsserted
  /-- The recovery, whole with `none`; `some p` is a recovery that RESET_N's assertion abandons at `p` (log entry 9). -/
  | coldStartRecovery (abandoned : Option RecoveryPoint := none)
  | characterReceived (port : Station) (char : Byte)
  deriving DecidableEq, Repr

end Sys2Proof
end

