-- ==== Sys2Proof/Config.lean ====
section
/-! DEFINITION. The values that the manual leaves open, each an opaque constant that no proof can see into, and the unit factors of the manual. -/

namespace Sys2Proof

/-- FREE VALUE (log entry 3): what a 64-bit mass holds after a sum of `a` and `b` that does not fit 64 bits. The manual holds masses in 64 bits (section 5.1, 7.1) and states no result beyond them. -/
opaque Config.massOverflow : Nat → Nat → BitVec 64

/-- FREE VALUE (log entry 3): what the signed 64-bit moment holds after a result that does not fit (R143). -/
opaque Config.momentOverflow : Int → BitVec 64

/-- FREE VALUE (log entry 4): the contents of the converter's group slots where R33 and R38 call them undefined. -/
opaque Config.slotContents : Nat → Code

/-- FREE VALUE (log entry 5): the bytes that the settings record holds for the setting with an identifier and a value. R173 forms the check word over the record in identifier order and does not give the record's bytes. -/
opaque Config.settingBytes : Nat → Nat → List Byte

/-- FREE VALUE (log entry 6): the hold limit, in tonnes, that R112 reads for a hold whose entry on the active page is absent. R112 states none; the model reaches it in no run from cold start. -/
opaque Config.absentHoldLimit : Nat → Nat

/-- Grams in a tonne. -/
def gramsPerTonne : Nat := 1000000

/-- Grams in 0.1 t, the step of the dribble band, the minimum pour and Pmax (R177). -/
def gramsPerTenth : Nat := 100000

/-- Gram-decimetres in a tonne-metre (chapter 00, "Units"). -/
def gdmPerTonneMetre : Int := 10000000

end Sys2Proof
end

