-- ==== Sys2Proof/Machine/Types.lean ====
section
/-! DEFINITION. The types of the LC340's blocks as plain data, one structure for each block of chapters 01 to 10. Enumerations list their constructors in the order of the owning chapter's state table, which is the order of their numbers on a station line (section 8.8). -/

namespace Sys2Proof.Machine

open Sys2Proof

/-! ### Names of the loader's parts -/

/-- A cargo hold; the hold numbered h of the manual (1..8) is `h - 1` here. -/
abbrev Hold := Fin 8

/-- A lot slot, 0..15. -/
abbrev Slot := Fin 16

/-- A dust channel; the channel numbered c of the manual (1..8) is `c - 1` here. -/
abbrev ChannelNo := Fin 8

/-- A page of the hatch map, 0 or 1. -/
abbrev Page := Fin 2

/-! ### Settings store (chapter 10) -/

/-- The five per-channel dust settings (R41). -/
structure ChannelSettings where
  offset : Nat
  gain : Nat
  warnLevel : Nat
  highLevel : Nat
  hysteresis : Nat
  deriving DecidableEq, Repr

/-- The settings record (R173, R177): each value a whole number in the setting's smallest step. -/
structure Settings where
  /-- N, transit line length in segments (R20). -/
  lineLength : Nat
  /-- Lseg, segment length in mm (R20). -/
  segmentLength : Nat
  /-- K, tachometer pulses per segment (R20). -/
  pulsesPerSegment : Nat
  /-- E, tail segments (R20). -/
  tailSegments : Nat
  /-- Dust channel enable mask, bit 0 for channel 1 (R30). -/
  mask : BitVec 8
  channels : Vector ChannelSettings 8
  /-- Q, qualification count (R41). -/
  qualification : Nat
  /-- High hold time in s (R41). -/
  highHoldTime : Nat
  railLength : Nat
  homePosition : Nat
  /-- M, pour margin in mm (R67). -/
  pourMargin : Nat
  cruiseDuty : Nat
  creepDuty : Nat
  creepDistance : Nat
  stopBand : Nat
  /-- Travel time limit in s (R67). -/
  travelTimeLimit : Nat
  /-- Run-out limit in s (R67). -/
  runOutLimit : Nat
  /-- Ramp rate in %/s (R134). -/
  rampRate : Nat
  warnFeedLevel : Nat
  dribbleLevel : Nat
  /-- D in 0.1 t (R134, R177). -/
  dribbleBand : Nat
  /-- Minimum pour in 0.1 t (R134, R177). -/
  minimumPour : Nat
  /-- Pmax in 0.1 t (R134, R177). -/
  preactMax : Nat
  /-- Presence window in s (R134). -/
  presenceWindow : Nat
  /-- Z, zero code. -/
  zero : Nat
  /-- S, span in g/m per code. -/
  span : Nat
  /-- B, blanking band in codes. -/
  band : Nat
  deriving DecidableEq, Repr

/-- The nonvolatile items that the settings store owns (section 10.1). -/
structure Store where
  settings : Settings
  /-- The check word of the settings record (R173). -/
  checkWord : BitVec 16
  defaulted : Bool
  calibrationCount : Nat
  deriving DecidableEq, Repr

/-! ### Measurement Converter (chapter 02) -/

inductive ConverterState where
  | running | halted
  deriving DecidableEq, Repr

/-- The four codes of a group, in slot order. -/
structure Quad where
  c0 : Code
  c1 : Code
  c2 : Code
  c3 : Code
  deriving DecidableEq, Repr

/-- The four positions of the group cycle, 1..4 (R29). -/
inductive CyclePosition where
  | p1 | p2 | p3 | p4
  deriving DecidableEq, Repr

/-- The three kinds of group (R26). -/
inductive GroupKind where
  | w | d1 | d2
  deriving DecidableEq, Repr

/-- What the converter hands to a consumer: a finished group or a reference notice (R27, R33, R34). -/
inductive Delivery where
  | group (kind : GroupKind) (codes : Quad)
  | referenceFault
  | referenceGood
  deriving DecidableEq, Repr

structure Converter where
  state : ConverterState
  position : CyclePosition
  slot : Fin 4
  slots : Quad
  latchW : Option Quad
  latchD1 : Option Quad
  latchD2 : Option Quad
  countW : Nat
  countD1 : Nat
  countD2 : Nat
  /-- Deliveries and notices made to the Belt Weigher and not yet taken by it, oldest first (R28). -/
  toWeigher : List Delivery
  /-- Deliveries and notices made to the Dust Monitor and not yet taken by it, oldest first (R28). -/
  toMonitor : List Delivery
  /-- MODEL'S OWN (log entry 4): how many undefined slot values have been used. -/
  freeCount : Nat
  deriving DecidableEq, Repr

/-! ### Belt Weigher (chapter 01) -/

inductive ScaleState where
  | normal | scaleFault
  deriving DecidableEq, Repr

inductive ScaleInput where
  | waiting | live | stuck | noReference
  deriving DecidableEq, Repr

/-- An account: a lot slot's, or the unassigned account. -/
inductive Account where
  | lot (slot : Slot)
  | unassigned
  deriving DecidableEq, Repr

/-- A transit line entry: mass in grams, and the tag, absent on an entry of mass 0 (section 1.1). -/
structure Entry where
  mass : Nat
  tag : Option Account
  deriving DecidableEq, Repr

/-- How the entering segment was weighed (R18). -/
inductive Weighing where
  | live | estimated | unweighed
  deriving DecidableEq, Repr

/-- Where a leaving entry goes (R15). -/
inductive Destination where
  | reject
  | spill
  | hold (h : Hold)
  deriving DecidableEq, Repr

structure Weigher where
  pulseCount : Nat
  segmentSum : Nat
  segmentCount : Nat
  lastMean : Nat
  holdLast : Nat
  scale : ScaleState
  input : ScaleInput
  /-- The transit line, position 1 (the discharge end) first (R14). -/
  line : List Entry
  lineTotal : Nat
  spillRun : Bool
  /-- The weighing lot, nonvolatile (R19). -/
  weighingLot : Option Slot
  deriving DecidableEq, Repr

/-! ### Dust Monitor (chapter 03) -/

inductive ChannelStage where
  | normal | warn | high | fault
  deriving DecidableEq, Repr

inductive LoaderStage where
  | clear | warn | high | trip
  deriving DecidableEq, Repr

inductive TripCause where
  | channel (c : ChannelNo)
  | holdTime
  | reference
  deriving DecidableEq, Repr

/-- The four latest values of a channel, oldest first (section 3.1). -/
structure Ring where
  v0 : Nat
  v1 : Nat
  v2 : Nat
  v3 : Nat
  deriving DecidableEq, Repr

structure Channel where
  lastCode : Option Code
  value : Nat
  ring : Ring
  refillPending : Bool
  filtered : Nat
  stage : ChannelStage
  warnRise : Nat
  highRise : Nat
  highFall : Nat
  warnFall : Nat
  faultCount : Nat
  recoveryCount : Nat
  deriving DecidableEq, Repr

inductive ReferenceState where
  | good | fault
  deriving DecidableEq, Repr

/-- The outputs SUPPRESS1 to SUPPRESS4, of the zones SPOUT, BOOM, TOWER and GALLERY. -/
structure Suppression where
  spout : Bool
  boom : Bool
  tower : Bool
  gallery : Bool
  deriving DecidableEq, Repr

/-- Elapsed times of timers are in milliseconds; `none` is a stopped timer. -/
structure Dust where
  channels : Vector Channel 8
  stage : LoaderStage
  tripLatch : Option TripCause
  highHold : Option Nat
  reference : ReferenceState
  referenceTimer : Option Nat
  suppress : Suppression
  deriving DecidableEq, Repr

/-! ### Travel Controller (chapter 04) -/

/-- A present hatch map entry (section 4.1): edges in mm, lever in dm, hold limit in t. -/
structure Hatch where
  fore : Nat
  aft : Nat
  lever : Int
  limit : Nat
  deriving DecidableEq, Repr

/-- One page of the hatch map: an entry for each hold, absent or present (R60). -/
abbrev HatchPage := Vector (Option Hatch) 8

inductive TravelState where
  | unreferenced | referencing | parked | pending | moving | creeping | fault | stopped
  deriving DecidableEq, Repr

inductive TravelRequest where
  | goToHold (h : Hold)
  | goToPosition (x : Nat)
  | reference
  deriving DecidableEq, Repr

inductive FaultCause where
  | timeout | hunting | limit
  deriving DecidableEq, Repr

/-- The output DIVERTER. -/
inductive Diverter where
  | normal | reject
  deriving DecidableEq, Repr

structure Travel where
  /-- Pages 0 and 1, nonvolatile (R60). -/
  pages : Vector HatchPage 2
  /-- The active page indicator, nonvolatile (R60). -/
  activePage : Page
  swapPending : Bool
  /-- The position counter, signed, in mm, increasing aft (R81). -/
  position : Int
  referenced : Bool
  spoutOver : Option Hold
  state : TravelState
  stopping : Bool
  request : Option TravelRequest
  target : Option Nat
  reversals : Nat
  travelTimer : Option Nat
  runOutTimer : Option Nat
  /-- The state before PENDING (section 4.1): PARKED or UNREFERENCED. -/
  beforePending : TravelState
  faultCause : Option FaultCause
  diverter : Diverter
  /-- The output TRAVEL_DIR; `none` is its value "none". -/
  direction : Option Direction
  dutyForce : Nat
  dutyStaged : Nat
  /-- The output BRAKE_RELEASE. -/
  brakeRelease : Bool
  deriving DecidableEq, Repr

/-! ### Plan Table (chapter 05) -/

inductive StepState where
  | pending | active | held | done | cancelled
  deriving DecidableEq, Repr

inductive HoldReason where
  | trim | holdFull | position | power | operator | scale
  deriving DecidableEq, Repr

inductive CutoffReason where
  | target | operator | position | trim | scale | deck
  deriving DecidableEq, Repr

/-- A step record (section 5.1); masses in grams. -/
structure Step where
  id : Nat
  hold : Hold
  slot : Slot
  target : Nat
  maxLevel : Option Nat
  state : StepState
  holdReason : Option HoldReason
  cutoffReason : Option CutoffReason
  placed : Nat
  effective : Option Nat
  shortClosed : Bool
  deriving DecidableEq, Repr

/-- The Plan Table, all of it nonvolatile (R87). -/
structure Plan where
  /-- The call state: `true` is OPEN, `false` is NONE. -/
  callOpen : Bool
  callId : Nat
  trimBand : Nat
  steps : List Step
  revision : Nat
  stepIdCounter : Nat
  deriving DecidableEq, Repr

/-! ### Feed Governor (chapter 06) -/

inductive GovernorState where
  | idle | ramping | running | dribble | paused | cutoff
  deriving DecidableEq, Repr

inductive PauseReason where
  | dust | cabSilent | deckHold | beltStopped | estop
  deriving DecidableEq, Repr

/-- The pause set: which reasons are in it. -/
structure PauseSet where
  dust : Bool
  cabSilent : Bool
  deckHold : Bool
  beltStopped : Bool
  estop : Bool
  deriving DecidableEq, Repr

structure Governor where
  state : GovernorState
  pauseSet : PauseSet
  requested : Nat
  ceiling : Nat
  level : Nat
  effective : Option Nat
  tail : Nat
  clean : Bool
  /-- The preact P in grams, nonvolatile (R134). -/
  preact : Nat
  presenceTimer : Option Nat
  presenceLive : Bool
  deckHold : Bool
  estopLatch : Bool
  /-- The output FEED_PERMIT. -/
  feedPermit : Bool
  /-- FEED_RATE: duty staged and duty in force. -/
  dutyStaged : Nat
  dutyForce : Nat
  /-- The output BELT_PERMIT. -/
  beltPermit : Bool
  /-- The governor period: stopped, or the part of it elapsed, in ms (R115). -/
  period : Option Nat
  deriving DecidableEq, Repr

/-! ### Account Store (chapter 07) -/

/-- The fields that every account has (section 7.1); masses in grams. -/
structure Ledger where
  weighed : Nat
  estimated : Nat
  overRange : Bool
  unweighed : Nat
  /-- Splits, a hold and its placed mass, in order of first placement (R141). -/
  splits : List (Hold × Nat)
  rejected : Nat
  spilled : Nat
  unplaced : Nat
  deriving DecidableEq, Repr

/-- A lot record (section 7.1). -/
structure Lot where
  /-- The slot's state: `true` is OPEN, `false` is FREE. -/
  isOpen : Bool
  number : Nat
  grade : Nat
  reference : List Byte
  declared : Option Nat
  opened : Option Nat
  ledger : Ledger
  deriving DecidableEq, Repr

/-- An issued bill (R146). -/
structure Bill where
  number : Nat
  slot : Slot
  lotNumber : Nat
  grade : Nat
  reference : List Byte
  declared : Option Nat
  ledger : Ledger
  net : Nat
  tonnage : Nat
  opened : Option Nat
  closed : Option Nat
  calibrationCount : Nat
  callId : Nat
  deriving DecidableEq, Repr

structure Accounts where
  lots : Vector Lot 16
  unassigned : Ledger
  /-- Credited mass of each hold, in grams (R142). -/
  credited : Vector Nat 8
  /-- The trim moment in g·dm (R143). -/
  moment : Int
  bills : List Bill
  /-- The bill number counter; `none` is EXHAUSTED (R148). -/
  billCounter : Option Nat
  seconds : Nat
  timeValid : Bool
  /-- The one-second clock: stopped, or the part of its second elapsed, in ms (R152, R156). -/
  second : Option Nat
  deriving DecidableEq, Repr

/-! ### Event Unit (chapter 09) -/

/-- The flag of STEP_DONE (R95). -/
inductive DoneFlag where
  | none | shortClosed | cancelled
  deriving DecidableEq, Repr

/-- The sixteen event kinds, in order of priority, each with its detail (R168). -/
inductive Event where
  | estop (released : Bool)
  | dustTrip (cause : TripCause)
  | spill (step : Option (Nat × Hold))
  | scaleFault
  | travelFault (cause : FaultCause)
  | feedPaused (reason : PauseReason)
  | stepHeld (stepId : Nat) (reason : HoldReason)
  | stepDone (stepId : Nat) (flag : DoneFlag) (placed : Nat)
  | dustStage (stage : LoaderStage)
  | travelDone (abandoned : Bool) (spoutOver : Option Hold)
  | planChanged (revision : Nat)
  | pageSwapped (page : Page)
  | billIssued (number : Nat)
  | rights (station : Station) (code : Byte)
  | settingsDefaulted
  | coldStart (booked : Nat)
  deriving DecidableEq, Repr

/-- An entry of a pending set: the kind with the detail of its latest raising, and the count (R169). -/
structure PendingEvent where
  event : Event
  count : Nat
  deriving DecidableEq, Repr

/-- One station's pending set, in order of priority, and its output ATTN. -/
structure EventSet where
  entries : List PendingEvent
  attn : Bool
  deriving DecidableEq, Repr

structure Events where
  cab : EventSet
  deck : EventSet
  office : EventSet
  deriving DecidableEq, Repr

/-! ### Station Ports (chapter 08) -/

inductive FramerState where
  | waitGap | ready | header | body | footer
  deriving DecidableEq, Repr

/-- A queue entry (section 8.1). -/
structure QueueEntry where
  code : Byte
  tag : Byte
  body : List Byte
  footerGood : Bool
  deriving DecidableEq, Repr

structure Port where
  framer : FramerState
  /-- The frame in progress. -/
  frame : List Byte
  queue : List QueueEntry
  discarded : Bool
  /-- The transmitter: `true` is SENDING, `false` is IDLE. -/
  sending : Bool
  /-- The bytes of the reply being sent; empty while IDLE. -/
  reply : List Byte
  /-- The output HOLDOFF. -/
  holdoff : Bool
  deriving DecidableEq, Repr

structure Ports where
  cab : Port
  deck : Port
  office : Port
  deriving DecidableEq, Repr

/-- The result of a request, in the order of the codes of section 8.8 (R163). -/
inductive Result where
  | ok | frameError | unknownRequest | badLength | badValue | notPermitted | busy | notReady | stalePlan | full
  | notFound | locked
  deriving DecidableEq, Repr

/-- The reasons of NOT_READY (section 8.8). -/
inductive NotReadyReason where
  | noCall | unreferenced | faulted | stopped | referenceFault | channelFault | channelHigh | noStep | heldForDeck
  | defaulted | estop | travelNotParked | notOverHold | diverterReject | lineNotClear | beltNotRunning | dust
  | deckHold | scaleFault | targetMet | noActiveStep
  deriving DecidableEq, Repr

/-- An owner's answer to a request: the result and the reply data (R162). -/
structure Answer where
  result : Result
  data : List Byte
  deriving DecidableEq, Repr

/-! ### The part -/

/-- Whether the part is held at its cold-start state or has completed cold-start recovery (R174, R176). -/
inductive Phase where
  | cold | running
  deriving DecidableEq, Repr

/-- The levels of the field inputs (chapter 00, "Field connections"); `true` is asserted, or closed for HOME. -/
structure Pins where
  refOk : Bool
  estop : Bool
  beltRun : Bool
  calUnlock : Bool
  home : Bool
  limFore : Bool
  limAft : Bool
  resetN : Bool
  deriving DecidableEq, Repr

end Sys2Proof.Machine
end

