-- ==== Sys2Proof/Machine/Cold.lean ====
section
/-! DEFINITION. What each block holds after cold start, as its chapter's cold-start table gives it. -/

namespace Sys2Proof.Machine

open Sys2Proof

/-- The empty transit line entry. -/
def Entry.empty : Entry := { mass := 0, tag := none }

/-- The ledger of an account with nothing in it (R137). -/
def Ledger.empty : Ledger :=
  { weighed := 0, estimated := 0, overRange := false, unweighed := 0, splits := [], rejected := 0, spilled := 0,
    unplaced := 0 }

/-- A FREE lot slot (R137). -/
def Lot.free : Lot :=
  { isOpen := false, number := 0, grade := 0, reference := [], declared := none, opened := none, ledger := Ledger.empty }

/-- A dust channel after cold start (R59). -/
def Channel.cold : Channel :=
  { lastCode := none, value := 0, ring := ⟨0, 0, 0, 0⟩, refillPending := true, filtered := 0, stage := .normal,
    warnRise := 0, highRise := 0, highFall := 0, warnFall := 0, faultCount := 0, recoveryCount := 0 }

/-- A station port after cold start (R167). -/
def Port.cold : Port :=
  { framer := .waitGap, frame := [], queue := [], discarded := false, sending := false, reply := [], holdoff := false }

/-- A pending set after cold start (R172). -/
def EventSet.cold : EventSet := { entries := [], attn := false }

/-- Four undefined slot values, the `n`-th draw (R33, R38). -/
def Quad.undefined (n : Nat) : Quad :=
  ⟨Config.slotContents (4 * n), Config.slotContents (4 * n + 1), Config.slotContents (4 * n + 2),
    Config.slotContents (4 * n + 3)⟩

/-- The converter after cold start (R38), its slots the `n`-th undefined draw. It makes no conversion before recovery
completes (R39), which is held here as HALTED. -/
def Converter.cold (n : Nat) : Converter :=
  { state := .halted, position := .p1, slot := 0, slots := Quad.undefined n, latchW := none, latchD1 := none,
    latchD2 := none, countW := 0, countD1 := 0, countD2 := 0, toWeigher := [], toMonitor := [], freeCount := n + 1 }

/-- The Belt Weigher after cold start (R24), with a line of `n` entries and the stored weighing lot. -/
def Weigher.cold (n : Nat) (lot : Option Slot) : Weigher :=
  { pulseCount := 0, segmentSum := 0, segmentCount := 0, lastMean := 0, holdLast := 0, scale := .normal,
    input := .waiting, line := List.replicate n Entry.empty, lineTotal := 0, spillRun := false, weighingLot := lot }

/-- The suppression outputs all off. -/
def Suppression.off : Suppression := { spout := false, boom := false, tower := false, gallery := false }

/-- The Dust Monitor after cold start (R59). -/
def Dust.cold : Dust :=
  { channels := Vector.replicate 8 Channel.cold, stage := .clear, tripLatch := none, highHold := none,
    reference := .good, referenceTimer := none, suppress := Suppression.off }

/-- The Travel Controller after cold start (R86), with the stored pages and active page indicator. -/
def Travel.cold (pages : Vector HatchPage 2) (active : Page) : Travel :=
  { pages := pages, activePage := active, swapPending := false, position := 0, referenced := false, spoutOver := none,
    state := .unreferenced, stopping := false, request := none, target := none, reversals := 0, travelTimer := none,
    runOutTimer := none, beforePending := .unreferenced, faultCause := none, diverter := .reject, direction := none,
    dutyForce := 0, dutyStaged := 0, brakeRelease := false }

/-- The empty pause set. -/
def PauseSet.empty : PauseSet :=
  { dust := false, cabSilent := false, deckHold := false, beltStopped := false, estop := false }

/-- The Feed Governor after cold start (R136), with the stored preact. -/
def Governor.cold (preact : Nat) : Governor :=
  { state := .idle, pauseSet := PauseSet.empty, requested := 100, ceiling := 0, level := 0, effective := none, tail := 0,
    clean := false, preact := preact, presenceTimer := none, presenceLive := false, deckHold := false,
    estopLatch := false, feedPermit := false, dutyStaged := 0, dutyForce := 0, beltPermit := false, period := none }

/-- A page with every entry absent (R60). -/
def HatchPage.empty : HatchPage := Vector.replicate 8 none

end Sys2Proof.Machine
end

