-- ==== Sys2Proof/Machine/Bytes.lean ====
section
/-! DEFINITION. Byte order and check sums of the station lines: multi-byte values low byte first (chapter 00, "Numbers"), the frame header check (R158) and the CRC-16 of footers and of the settings check word (R159). -/

namespace Sys2Proof.Machine

open Sys2Proof

/-- The low `n` bytes of `v`, low byte first. -/
def le : Nat → Nat → List Byte
  | 0, _ => []
  | n + 1, v => BitVec.ofNat 8 v :: le n (v / 256)

/-- The `n`-byte two's complement form of `v`, low byte first. -/
def leInt (n : Nat) (v : Int) : List Byte := le n (v % (256 ^ n : Nat)).toNat

/-- The number whose bytes are `bs`, low byte first. -/
def fromLE : List Byte → Nat
  | [] => 0
  | b :: bs => b.toNat + 256 * fromLE bs

/-- Yes or no, as 1 or 0 (section 8.8). -/
def yesNo (b : Bool) : Byte := if b then 1 else 0

/-- A bit set: the `i`-th flag in bit `i` (section 8.8). -/
def bitSet : List Bool → Nat
  | [] => 0
  | b :: bs => (if b then 1 else 0) + 2 * bitSet bs

/-- One bit of the CRC: generator x^16 + x^12 + x^5 + 1, most significant bit first (R159). -/
def crcBit (c : BitVec 16) : BitVec 16 := if c.msb then (c <<< 1) ^^^ 0x1021#16 else c <<< 1

/-- One byte of the CRC, most significant bit first (R159). -/
def crcByte (c : BitVec 16) (b : Byte) : BitVec 16 :=
  crcBit (crcBit (crcBit (crcBit (crcBit (crcBit (crcBit (crcBit (c ^^^ (b.setWidth 16 <<< 8)))))))))

/-- The CRC-16 of R159: initial value FFFFh, no final inversion. -/
def crc16 (bs : List Byte) : BitVec 16 := bs.foldl crcByte 0xFFFF#16

/-- The header check byte: 255 minus the sum of the bytes, modulo 256 (R158). -/
def headerCheck (bs : List Byte) : Byte := BitVec.ofNat 8 (255 - (bs.map BitVec.toNat).sum % 256)

/-- A frame (section 8.8): header of five bytes, body, and a footer when the body is not empty. -/
def frameBytes (code tag : Byte) (body : List Byte) : List Byte :=
  let h := [code, tag] ++ le 2 body.length
  h ++ [headerCheck h] ++ body ++ (if body.isEmpty then [] else le 2 (crc16 body).toNat)

end Sys2Proof.Machine
end

