-- ==== Sys2Proof/Machine/Settings.lean ====
section
/-! DEFINITION. The settings record: its defaults, the identifiers and ranges of the settings (R177 and the owners' tables), reading and writing one setting, and the check word (R173). -/

namespace Sys2Proof.Machine

open Sys2Proof

/-! ### Defaults -/

/-- The defaults of one dust channel's settings (R41). -/
def ChannelSettings.default : ChannelSettings :=
  { offset := 0, gain := 256, warnLevel := 1000, highLevel := 3000, hysteresis := 100 }

/-- The settings record with every setting at its default (R1, R20, R30, R41, R67, R134). -/
def Settings.default : Settings :=
  { lineLength := 160, segmentLength := 500, pulsesPerSegment := 50, tailSegments := 24, mask := 0xFF#8,
    channels := Vector.replicate 8 ChannelSettings.default, qualification := 4, highHoldTime := 30,
    railLength := 250000, homePosition := 0, pourMargin := 300, cruiseDuty := 200, creepDuty := 40,
    creepDistance := 1500, stopBand := 20, travelTimeLimit := 120, runOutLimit := 60,
    rampRate := 20, warnFeedLevel := 60, dribbleLevel := 20, dribbleBand := 50, minimumPour := 10, preactMax := 200,
    presenceWindow := 3, zero := 0, span := 1, band := 0 }

/-! ### Identifiers -/

/-- The per-channel dust settings, in the order of R177's k. -/
inductive ChannelKey where
  | offset | gain | warnLevel | highLevel | hysteresis
  deriving DecidableEq, Repr

/-- A setting of the table of R177. -/
inductive SettingKey where
  | lineLength | segmentLength | pulsesPerSegment | tailSegments
  | mask
  | channel (c : ChannelNo) (k : ChannelKey)
  | qualification | highHoldTime
  | railLength | homePosition | pourMargin | cruiseDuty | creepDuty | creepDistance | stopBand | travelTimeLimit
  | runOutLimit
  | rampRate | warnFeedLevel | dribbleLevel | dribbleBand | minimumPour | preactMax | presenceWindow | preact
  | zero | span | band
  deriving DecidableEq, Repr

/-- k of R177. -/
def ChannelKey.number : ChannelKey → Nat
  | .offset => 0
  | .gain => 1
  | .warnLevel => 2
  | .highLevel => 3
  | .hysteresis => 4

/-- The 2-byte identifier of a setting (R177). -/
def SettingKey.identifier : SettingKey → Nat
  | .lineLength => 0x0001
  | .segmentLength => 0x0002
  | .pulsesPerSegment => 0x0003
  | .tailSegments => 0x0004
  | .mask => 0x0010
  | .channel c k => 0x0100 + 8 * c.val + k.number
  | .qualification => 0x0180
  | .highHoldTime => 0x0181
  | .railLength => 0x0200
  | .homePosition => 0x0201
  | .pourMargin => 0x0202
  | .cruiseDuty => 0x0203
  | .creepDuty => 0x0204
  | .creepDistance => 0x0205
  | .stopBand => 0x0206
  | .travelTimeLimit => 0x0207
  | .runOutLimit => 0x0208
  | .rampRate => 0x0300
  | .warnFeedLevel => 0x0301
  | .dribbleLevel => 0x0302
  | .dribbleBand => 0x0303
  | .minimumPour => 0x0304
  | .preactMax => 0x0305
  | .presenceWindow => 0x0306
  | .preact => 0x0307
  | .zero => 0x0400
  | .span => 0x0401
  | .band => 0x0402

/-- The dust channels, in channel order. -/
def allChannels : List ChannelNo := [0, 1, 2, 3, 4, 5, 6, 7]

/-- The 67 settings of R178, in identifier order. -/
def allKeys : List SettingKey :=
  [.lineLength, .segmentLength, .pulsesPerSegment, .tailSegments, .mask] ++
  allChannels.flatMap (fun c =>
    [.channel c .offset, .channel c .gain, .channel c .warnLevel, .channel c .highLevel, .channel c .hysteresis]) ++
  [.qualification, .highHoldTime, .railLength, .homePosition, .pourMargin, .cruiseDuty, .creepDuty, .creepDistance,
   .stopBand, .travelTimeLimit, .runOutLimit, .rampRate, .warnFeedLevel, .dribbleLevel, .dribbleBand, .minimumPour,
   .preactMax, .presenceWindow, .preact, .zero, .span, .band]

/-- The setting that an identifier names, or none. -/
def keyOf (identifier : Nat) : Option SettingKey := allKeys.find? (fun k => k.identifier == identifier)

/-- The settings that Write Setting may not write: the calibration values, read only through the table (R177, R178). -/
def SettingKey.readOnly : SettingKey → Bool
  | .zero => true
  | .span => true
  | .band => true
  | _ => false

/-- Whether a value is in a setting's range and on its step (R20, R30, R41, R67, R134, R2). The range of the preact is
0..Pmax and its upper end is the governor's test (R134). -/
def SettingKey.inRange (v : Nat) : SettingKey → Bool
  | .lineLength => 8 ≤ v && v ≤ 256
  | .segmentLength => 100 ≤ v && v ≤ 2000
  | .pulsesPerSegment => 1 ≤ v && v ≤ 255
  | .tailSegments => 1 ≤ v && v ≤ 255
  | .mask => v ≤ 255
  | .channel _ .offset => v ≤ 4095
  | .channel _ .gain => 1 ≤ v && v ≤ 65535
  | .channel _ .warnLevel => 1 ≤ v && v ≤ 9999
  | .channel _ .highLevel => 1 ≤ v && v ≤ 9999
  | .channel _ .hysteresis => v ≤ 999
  | .qualification => 1 ≤ v && v ≤ 15
  | .highHoldTime => 5 ≤ v && v ≤ 120
  | .railLength => 1000 ≤ v && v ≤ 250000
  | .homePosition => v ≤ 250000
  | .pourMargin => v ≤ 2000
  | .cruiseDuty => 1 ≤ v && v ≤ 255
  | .creepDuty => 1 ≤ v && v ≤ 255
  | .creepDistance => 200 ≤ v && v ≤ 5000
  | .stopBand => 5 ≤ v && v ≤ 100
  | .travelTimeLimit => 10 ≤ v && v ≤ 600
  | .runOutLimit => 10 ≤ v && v ≤ 300
  | .rampRate => 10 ≤ v && v ≤ 100 && v % 10 == 0
  | .warnFeedLevel => 10 ≤ v && v ≤ 90
  | .dribbleLevel => 5 ≤ v && v ≤ 50
  | .dribbleBand => v ≤ 500
  | .minimumPour => 5 ≤ v && v ≤ 200
  | .preactMax => v ≤ 500
  | .presenceWindow => 1 ≤ v && v ≤ 10
  | .preact => true
  | .zero => v ≤ 4095
  | .span => 1 ≤ v && v ≤ 9999
  | .band => v ≤ 255

/-! ### Reading and writing one setting -/

/-- A channel's setting. -/
def ChannelSettings.value (s : ChannelSettings) : ChannelKey → Nat
  | .offset => s.offset
  | .gain => s.gain
  | .warnLevel => s.warnLevel
  | .highLevel => s.highLevel
  | .hysteresis => s.hysteresis

/-- A channel's settings with one of them written. -/
def ChannelSettings.write (s : ChannelSettings) (v : Nat) : ChannelKey → ChannelSettings
  | .offset => { s with offset := v }
  | .gain => { s with gain := v }
  | .warnLevel => { s with warnLevel := v }
  | .highLevel => { s with highLevel := v }
  | .hysteresis => { s with hysteresis := v }

/-- The value of a setting. The preact stands beside the record, in grams; it reads as kilograms, rounded to the nearest
with halves up (R178). -/
def settingValue (s : Settings) (preact : Nat) : SettingKey → Nat
  | .lineLength => s.lineLength
  | .segmentLength => s.segmentLength
  | .pulsesPerSegment => s.pulsesPerSegment
  | .tailSegments => s.tailSegments
  | .mask => s.mask.toNat
  | .channel c k => (s.channels.get c).value k
  | .qualification => s.qualification
  | .highHoldTime => s.highHoldTime
  | .railLength => s.railLength
  | .homePosition => s.homePosition
  | .pourMargin => s.pourMargin
  | .cruiseDuty => s.cruiseDuty
  | .creepDuty => s.creepDuty
  | .creepDistance => s.creepDistance
  | .stopBand => s.stopBand
  | .travelTimeLimit => s.travelTimeLimit
  | .runOutLimit => s.runOutLimit
  | .rampRate => s.rampRate
  | .warnFeedLevel => s.warnFeedLevel
  | .dribbleLevel => s.dribbleLevel
  | .dribbleBand => s.dribbleBand
  | .minimumPour => s.minimumPour
  | .preactMax => s.preactMax
  | .presenceWindow => s.presenceWindow
  | .preact => (preact + 500) / 1000
  | .zero => s.zero
  | .span => s.span
  | .band => s.band

/-- The settings record with one setting written. The preact is not in the record (R173). -/
def writeRecord (s : Settings) (v : Nat) : SettingKey → Settings
  | .lineLength => { s with lineLength := v }
  | .segmentLength => { s with segmentLength := v }
  | .pulsesPerSegment => { s with pulsesPerSegment := v }
  | .tailSegments => { s with tailSegments := v }
  | .mask => { s with mask := BitVec.ofNat 8 v }
  | .channel c k => { s with channels := s.channels.set c ((s.channels.get c).write v k) }
  | .qualification => { s with qualification := v }
  | .highHoldTime => { s with highHoldTime := v }
  | .railLength => { s with railLength := v }
  | .homePosition => { s with homePosition := v }
  | .pourMargin => { s with pourMargin := v }
  | .cruiseDuty => { s with cruiseDuty := v }
  | .creepDuty => { s with creepDuty := v }
  | .creepDistance => { s with creepDistance := v }
  | .stopBand => { s with stopBand := v }
  | .travelTimeLimit => { s with travelTimeLimit := v }
  | .runOutLimit => { s with runOutLimit := v }
  | .rampRate => { s with rampRate := v }
  | .warnFeedLevel => { s with warnFeedLevel := v }
  | .dribbleLevel => { s with dribbleLevel := v }
  | .dribbleBand => { s with dribbleBand := v }
  | .minimumPour => { s with minimumPour := v }
  | .preactMax => { s with preactMax := v }
  | .presenceWindow => { s with presenceWindow := v }
  | .preact => s
  | .zero => { s with zero := v }
  | .span => { s with span := v }
  | .band => { s with band := v }

/-! ### Check word -/

/-- The settings that the record holds: all but the preact, in identifier order (R173). -/
def recordKeys : List SettingKey := allKeys.filter (fun k => k != .preact)

/-- The check word of a settings record: the CRC-16 over its bytes in identifier order (R173). -/
def checkWord (s : Settings) : BitVec 16 :=
  crc16 (recordKeys.flatMap (fun k => Config.settingBytes k.identifier (settingValue s 0 k)))

end Sys2Proof.Machine
end

