-- ==== Sys2Proof/Machine/State.lean ====
section
/-! DEFINITION. The state of the LC340 as plain data: every block's state, the field input levels, and the queue of waiting commands; the stop reasons; and the state right after reset. -/

namespace Sys2Proof.Machine

open Sys2Proof

/-- The state of the part, and the commands that are waiting, first in, first out. -/
structure State where
  phase : Phase
  pins : Pins
  store : Store
  converter : Converter
  weigher : Weigher
  dust : Dust
  travel : Travel
  plan : Plan
  governor : Governor
  accounts : Accounts
  events : Events
  ports : Ports
  /-- MODEL'S OWN (log entry 1): the station and the owner's answer of the last request commanded directly. -/
  answer : Option (Station × Answer)
  pending : List Instr
  deriving DecidableEq, Repr

/-- Why the machine may stop with a fault. The manual gives every command an effect in every state, so no command
faults and the type has no constructor. Safe: there is no stop for a claim to hide behind. -/
inductive Fault where
  deriving DecidableEq, Repr

/-- Why a command may be refused. -/
inductive Refusal where
  /-- Raised by `exec` for a command that has no meaning in the model yet, with its mnemonic. Safe: it stops the run.
  Every command has its meaning, so no arm raises it. -/
  | notModelled (mnemonic : String)
  deriving DecidableEq, Repr

/-- The state of a part from manufacture, held at cold start (R3, R19, R24, R38, R59, R60, R86, R87, R134, R136, R137,
R156, R167, R172, R173). Log entry 2 names the values that the manual does not give. -/
def State.reset : State :=
  { phase := .cold
    pins := { refOk := false, estop := false, beltRun := false, calUnlock := false, home := false, limFore := false,
              limAft := false, resetN := false }
    store := { settings := Settings.default, checkWord := checkWord Settings.default, defaulted := false, calibrationCount := 0 }
    converter := Converter.cold 0
    weigher := Weigher.cold Settings.default.lineLength none
    dust := Dust.cold
    travel := Travel.cold (Vector.replicate 2 HatchPage.empty) 0
    plan := { callOpen := false, callId := 0, trimBand := 1000, steps := [], revision := 0, stepIdCounter := 1 }
    governor := Governor.cold 2000000
    accounts := { lots := Vector.replicate 16 Lot.free, unassigned := Ledger.empty, credited := Vector.replicate 8 0,
                  moment := 0, bills := [], billCounter := some 1, seconds := 0, timeValid := false, second := none }
    events := { cab := EventSet.cold, deck := EventSet.cold, office := EventSet.cold }
    ports := { cab := Port.cold, deck := Port.cold, office := Port.cold }
    answer := none
    pending := [] }

end Sys2Proof.Machine
end

