-- ==== Sys2Proof/Machine/Ops.lean ====
section
/-! DEFINITION. The operations that the blocks share: sums of masses, numbers of holds, the ledgers of accounts, raising an event (R168, R169), the plan's current and ACTIVE step (R92), the plan revision (R94), the spout-over hold (R66), the trim moment (R143, R144) and the page swap (R63). -/

namespace Sys2Proof.Machine

open Sys2Proof

/-! ### Masses and numbers -/

/-- The sum of two masses, held in 64 bits; a sum that does not fit is a FREE VALUE (log entry 3). -/
def massAdd (a b : Nat) : Nat := if a + b < 2 ^ 64 then a + b else (Config.massOverflow a b).toNat

/-- A moment, held in signed 64 bits; a value that does not fit is a FREE VALUE (log entry 3). -/
def momentOf (m : Int) : Int := if -2 ^ 63 ≤ m ∧ m < 2 ^ 63 then m else (Config.momentOverflow m).toInt

/-- The greatest value of a 32-bit count. -/
def max32 : Nat := 4294967295

/-- The manual's number of a hold, 1..8. -/
def holdNumber (h : Hold) : Nat := h.val + 1

/-- The hold of a number, none outside 1..8. -/
def holdOf (n : Nat) : Option Hold := if h : 1 ≤ n ∧ n ≤ 8 then some ⟨n - 1, by omega⟩ else none

/-- The lot slot of a number, none outside 0..15. -/
def slotOf (n : Nat) : Option Slot := if h : n < 16 then some ⟨n, h⟩ else none

/-- The holds, in hold order. -/
def allHolds : List Hold := [0, 1, 2, 3, 4, 5, 6, 7]

/-- The lot slots, in slot order. -/
def allSlots : List Slot := [0, 1, 2, 3, 4, 5, 6, 7, 8, 9, 10, 11, 12, 13, 14, 15]

/-- The part accepts arrivals: cold-start recovery is complete (R25, R39, R86, R136, R167, R176). -/
def State.isRunning (s : State) : Bool := s.phase == .running

/-! ### Accounts -/

/-- The ledger of an account. -/
def Accounts.ledger (a : Accounts) : Account → Ledger
  | .lot slot => (a.lots.get slot).ledger
  | .unassigned => a.unassigned

/-- The accounts with one ledger replaced. -/
def Accounts.setLedger (a : Accounts) (l : Ledger) : Account → Accounts
  | .lot slot => { a with lots := a.lots.set slot { a.lots.get slot with ledger := l } }
  | .unassigned => { a with unassigned := l }

/-- The state with one ledger changed. -/
def updateLedger (acc : Account) (f : Ledger → Ledger) (s : State) : State :=
  { s with accounts := s.accounts.setLedger (f (s.accounts.ledger acc)) acc }

/-- The account that the weighing lot names: its lot's, or the unassigned account when it is NONE (R5, R11, R13). -/
def weighingAccount (s : State) : Account :=
  match s.weigher.weighingLot with
  | some slot => .lot slot
  | none => .unassigned

/-! ### Events -/

/-- The priority number of an event's kind, 1..16 (R168). -/
def Event.kind : Event → Nat
  | .estop _ => 1
  | .dustTrip _ => 2
  | .spill _ => 3
  | .scaleFault => 4
  | .travelFault _ => 5
  | .feedPaused _ => 6
  | .stepHeld _ _ => 7
  | .stepDone _ _ _ => 8
  | .dustStage _ => 9
  | .travelDone _ _ => 10
  | .planChanged _ => 11
  | .pageSwapped _ => 12
  | .billIssued _ => 13
  | .rights _ _ => 14
  | .settingsDefaulted => 15
  | .coldStart _ => 16

/-- Whether a station subscribes to an event's kind (R168). -/
def Event.goesTo : Event → Station → Bool
  | .estop _, _ => true
  | .dustTrip _, _ => true
  | .spill _, _ => true
  | .scaleFault, st => st != .deck
  | .travelFault _, st => st == .cab
  | .feedPaused _, st => st != .office
  | .stepHeld _ _, st => st != .office
  | .stepDone _ _ _, _ => true
  | .dustStage _, st => st != .office
  | .travelDone _ _, st => st == .cab
  | .planChanged _, st => st != .deck
  | .pageSwapped _, st => st != .office
  | .billIssued _, st => st != .cab
  | .rights _ _, st => st == .office
  | .settingsDefaulted, st => st == .office
  | .coldStart _, _ => true

/-- Entering a kind in a pending set, kept in order of priority (R169). -/
def enterEvent (e : Event) : List PendingEvent → List PendingEvent
  | [] => [{ event := e, count := 1 }]
  | p :: ps =>
    if e.kind = p.event.kind then { event := e, count := min (p.count + 1) 255 } :: ps
    else if e.kind < p.event.kind then { event := e, count := 1 } :: p :: ps
    else p :: enterEvent e ps

/-- A station's set after an event is entered; ATTN is asserted (R171). -/
def EventSet.enter (e : Event) (x : EventSet) : EventSet := { entries := enterEvent e x.entries, attn := true }

/-- The pending set of a station. -/
def Events.get (x : Events) : Station → EventSet
  | .cab => x.cab
  | .deck => x.deck
  | .office => x.office

/-- The sets with one station's replaced. -/
def Events.set (x : Events) (v : EventSet) : Station → Events
  | .cab => { x with cab := v }
  | .deck => { x with deck := v }
  | .office => { x with office := v }

/-- Entering an event in the set of each subscribing station (R168). -/
def Events.raise (e : Event) (x : Events) : Events :=
  { cab := if e.goesTo .cab then x.cab.enter e else x.cab
    deck := if e.goesTo .deck then x.deck.enter e else x.deck
    office := if e.goesTo .office then x.office.enter e else x.office }

/-- A block raises an event (R168). -/
def raise (e : Event) (s : State) : State := { s with events := s.events.raise e }

/-! ### The plan -/

/-- A step that is PENDING, ACTIVE or HELD (R92). -/
def Step.unfinished (st : Step) : Bool :=
  match st.state with
  | .pending => true
  | .active => true
  | .held => true
  | .done => false
  | .cancelled => false

/-- A step that is ACTIVE. -/
def Step.isActive (st : Step) : Bool := st.state == .active

/-- The current step: the first unfinished step in plan order (R92). -/
def currentStep (p : Plan) : Option Step := p.steps.find? Step.unfinished

/-- The position of the current step, counted from 1; the number of steps plus 1 when there is none. -/
def currentPosition (p : Plan) : Nat := p.steps.findIdx Step.unfinished + 1

/-- The ACTIVE step, if any. -/
def activeStep (p : Plan) : Option Step := p.steps.find? Step.isActive

/-- Whether a step is ACTIVE. -/
def stepActive (s : State) : Bool := (activeStep s.plan).isSome

/-- The step that carries an id. -/
def stepOf (p : Plan) (id : Nat) : Option Step := p.steps.find? (fun st => st.id == id)

/-- The plan with the ACTIVE step changed. -/
def Plan.updateActive (p : Plan) (f : Step → Step) : Plan :=
  { p with steps := p.steps.map (fun st => if st.isActive then f st else st) }

/-- The plan with the step of an id changed. -/
def Plan.updateId (p : Plan) (id : Nat) (f : Step → Step) : Plan :=
  { p with steps := p.steps.map (fun st => if st.id == id then f st else st) }

/-- A change of the plan: the revision is incremented, wrapping from 65535 to 0, and PLAN_CHANGED is raised (R94). -/
def bumpRevision (s : State) : State :=
  raise (.planChanged ((s.plan.revision + 1) % 65536))
    { s with plan := { s.plan with revision := (s.plan.revision + 1) % 65536 } }

/-! ### Pour windows and the spout-over hold -/

/-- The pour window of an entry under margin `m`: its first and last position (R66). -/
def Hatch.window (e : Hatch) (m : Nat) : Int × Int := ((e.fore : Int) + m, (e.aft : Int) - m)

/-- Whether a position lies inside an entry's pour window (R66). -/
def Hatch.covers (e : Hatch) (m : Nat) (x : Int) : Bool := (e.window m).1 ≤ x && x ≤ (e.window m).2

/-- The hold whose window on a page contains a position. DESIGN CHOICE (log entry 29): where a margin defaulted by R175 lets
stored windows share a position, the lowest-numbered hold. -/
def HatchPage.over (page : HatchPage) (m : Nat) (x : Int) : Option Hold :=
  allHolds.find? (fun h =>
    match page.get h with
    | some e => e.covers m x
    | none => false)

/-- The active page of the hatch map. -/
def Travel.activeMap (t : Travel) : HatchPage := t.pages.get t.activePage

/-- The hold that the spout is over, as the flag, the position and the active page stand (R66). -/
def spoutOverNow (t : Travel) (m : Nat) : Option Hold :=
  if t.referenced then t.activeMap.over m t.position else none

/-- Recomputing the spout-over hold (R66). -/
def recomputeSpout (s : State) : State :=
  { s with travel := { s.travel with spoutOver := spoutOverNow s.travel s.store.settings.pourMargin } }

/-- The distance of the position from a target. -/
def Travel.distance (t : Travel) (x : Nat) : Nat := (t.position - x).natAbs

/-! ### The trim moment -/

/-- The lever of a hold on a page, 0 when its entry is absent (R143). -/
def leverOn (page : HatchPage) (h : Hold) : Int :=
  match page.get h with
  | some e => e.lever
  | none => 0

/-- The moment of the credited masses under a page's levers (R143). -/
def momentOn (page : HatchPage) (credited : Vector Nat 8) : Int :=
  (allHolds.map (fun h => (credited.get h : Int) * leverOn page h)).sum

/-- The Account Store recomputes the moment under the active page (R144). -/
def recomputeMoment (s : State) : State :=
  { s with accounts := { s.accounts with moment := momentOf (momentOn s.travel.activeMap s.accounts.credited) } }

/-! ### The page swap -/

/-- The carriage is in motion: MOVING, CREEPING or REFERENCING (R63). -/
def TravelState.inMotion : TravelState → Bool
  | .moving => true
  | .creeping => true
  | .referencing => true
  | .unreferenced => false
  | .parked => false
  | .pending => false
  | .fault => false
  | .stopped => false

/-- The other page. -/
def otherPage (p : Page) : Page := if p = 0 then 1 else 0

/-- A pending swap is taken (R63): the flag, the active page, the moment, the spout-over hold and PAGE_SWAPPED. -/
def takeSwap (s : State) : State :=
  let s1 := { s with travel := { s.travel with swapPending := false, activePage := otherPage s.travel.activePage } }
  raise (.pageSwapped s1.travel.activePage) (recomputeSpout (recomputeMoment s1))

/-- The three swap conditions hold together (R63). -/
def swapReady (s : State) : Bool :=
  !s.travel.state.inMotion && !stepActive s && s.weigher.lineTotal == 0

/-- The test of a pending swap (R63). -/
def swapTest (s : State) : State := if s.travel.swapPending && swapReady s then takeSwap s else s

/-! ### Changes of a step's state (R93, R95, R105, R106) -/

/-- The final state and hold reason that a cutoff reason gives at completion (R106). -/
def completionState : Option CutoffReason → StepState × Option HoldReason
  | some .target => (.done, none)
  | some .operator => (.held, some .operator)
  | some .position => (.held, some .position)
  | some .trim => (.held, some .trim)
  | some .scale => (.held, some .scale)
  | some .deck => (.cancelled, none)
  | none => (.held, none)

/-- The step record after completion: the cutoff reason becomes absent, and the effective target too unless the step
is HELD (R106). -/
def Step.complete (st : Step) : Step :=
  { st with
    state := (completionState st.cutoffReason).1
    holdReason := (completionState st.cutoffReason).2
    cutoffReason := none
    effective := if (completionState st.cutoffReason).1 = .held then st.effective else none }

/-- The step event of a completion (R95). -/
def completionEvent (st : Step) (s : State) : State :=
  match completionState st.cutoffReason with
  | (.done, _) => raise (.stepDone st.id .none st.placed) s
  | (.cancelled, _) => raise (.stepDone st.id .cancelled st.placed) s
  | (_, some r) => raise (.stepHeld st.id r) s
  | (_, none) => s

/-- The Plan Table takes the completion notice of the ACTIVE step (R106): state, revision, event, and the
step-left-ACTIVE notice to the Travel Controller (R96). -/
def completeStep (s : State) : State :=
  match activeStep s.plan with
  | none => s
  | some st =>
    swapTest (completionEvent st (bumpRevision { s with plan := s.plan.updateActive Step.complete }))

/-- The Plan Table takes the step-started notice of the current step (R105). -/
def stepStarted (id eff : Nat) (s : State) : State :=
  bumpRevision { s with plan := s.plan.updateId id (fun st =>
    { st with state := .active, holdReason := none, cutoffReason := none, effective := some eff }) }

/-- The Plan Table takes the held-at-start notice of the current step (R105). -/
def heldAtStart (id eff : Nat) (r : HoldReason) (s : State) : State :=
  raise (.stepHeld id r) (bumpRevision { s with plan := s.plan.updateId id (fun st =>
    { st with state := .held, holdReason := some r, effective := some eff }) })

/-- The Feed Governor records a cutoff reason in the ACTIVE step, which increments the revision (R106). -/
def recordCutoff (r : CutoffReason) (s : State) : State :=
  bumpRevision { s with plan := s.plan.updateActive (fun st => { st with cutoffReason := some r }) }

end Sys2Proof.Machine
end

