-- ==== Sys2Proof/Machine/Converter.lean ====
section
/-! DEFINITION. The Measurement Converter's operations (chapter 02): the group cycle, delivery, the mask restart and reference supervision. -/

namespace Sys2Proof.Machine

open Sys2Proof

/-- The kind of group that a cycle position makes (R29). -/
def CyclePosition.kind : CyclePosition → GroupKind
  | .p1 => .w
  | .p2 => .d1
  | .p3 => .w
  | .p4 => .d2

/-- The position after one. -/
def CyclePosition.after : CyclePosition → CyclePosition
  | .p1 => .p2
  | .p2 => .p3
  | .p3 => .p4
  | .p4 => .p1

/-- A position is skipped when the mask has all four channels of its D group disabled (R29). -/
def CyclePosition.skipped (mask : BitVec 8) : CyclePosition → Bool
  | .p2 => (mask &&& 0x0F#8) == 0#8
  | .p4 => (mask &&& 0xF0#8) == 0#8
  | .p1 => false
  | .p3 => false

/-- The advance on completing a group, past one skipped position (R29). -/
def CyclePosition.advance (mask : BitVec 8) (p : CyclePosition) : CyclePosition :=
  if p.after.skipped mask then p.after.after else p.after

/-- The slots with one of them written (R26). -/
def Quad.write (q : Quad) (slot : Fin 4) (code : Code) : Quad :=
  match slot with
  | 0 => { q with c0 := code }
  | 1 => { q with c1 := code }
  | 2 => { q with c2 := code }
  | 3 => { q with c3 := code }

/-- A delivery count raised by one, wrapping from 65535 to 0 (R27). -/
def wrap16 (n : Nat) : Nat := (n + 1) % 65536

/-- The group is latched, counted and delivered to its consumer (R27, R28). -/
def Converter.deliver (c : Converter) (k : GroupKind) (q : Quad) : Converter :=
  match k with
  | .w => { c with latchW := some q, countW := wrap16 c.countW, toWeigher := c.toWeigher ++ [.group .w q] }
  | .d1 => { c with latchD1 := some q, countD1 := wrap16 c.countD1, toMonitor := c.toMonitor ++ [.group .d1 q] }
  | .d2 => { c with latchD2 := some q, countD2 := wrap16 c.countD2, toMonitor := c.toMonitor ++ [.group .d2 q] }

/-- A conversion ends: its code enters the next slot, and slot 3 completes the group (R26, R27, R29). -/
def Converter.convert (c : Converter) (mask : BitVec 8) (code : Code) : Converter :=
  let q := c.slots.write c.slot code
  if c.slot = 3 then
    { (c.deliver c.position.kind q) with slots := q, slot := 0, position := c.position.advance mask }
  else { c with slots := q, slot := c.slot + 1 }

/-- The converter begins again at position 1, slot 0 (R31, R34). -/
def Converter.restart (c : Converter) : Converter := { c with position := .p1, slot := 0 }

/-- A notice given to both consumers (R33, R34). -/
def Converter.notify (c : Converter) (n : Delivery) : Converter :=
  { c with toWeigher := c.toWeigher ++ [n], toMonitor := c.toMonitor ++ [n] }

/-- The fall of REF_OK while RUNNING (R33): the slots become undefined. -/
def Converter.halt (c : Converter) : Converter :=
  { c.restart.notify .referenceFault with
    state := .halted, slots := Quad.undefined c.freeCount, freeCount := c.freeCount + 1 }

/-- The rise of REF_OK while HALTED (R34). -/
def Converter.resume (c : Converter) : Converter := { c.restart.notify .referenceGood with state := .running }

/-- The mask restart of a RUNNING converter (R31). -/
def Converter.maskRestart (c : Converter) : Converter := if c.state = .running then c.restart else c

end Sys2Proof.Machine
end

