-- ==== Sys2Proof/Machine/Flags.lean ====
section
/-! DEFINITION. The numbers of states, reasons and causes on a station line, from 0 in the order of the owning chapter's state table; results and NOT_READY reasons; bit sets; and the duty of a feed level (section 8.8, R110). -/

namespace Sys2Proof.Machine

open Sys2Proof

/-! ### Results -/

/-- The code of a result (section 8.8). -/
def Result.code : Result → Byte
  | .ok => 0x00
  | .frameError => 0x01
  | .unknownRequest => 0x02
  | .badLength => 0x03
  | .badValue => 0x04
  | .notPermitted => 0x05
  | .busy => 0x06
  | .notReady => 0x07
  | .stalePlan => 0x08
  | .full => 0x09
  | .notFound => 0x0A
  | .locked => 0x0B

/-- The code of a NOT_READY reason (section 8.8). -/
def NotReadyReason.code : NotReadyReason → Byte
  | .noCall => 0x01
  | .unreferenced => 0x02
  | .faulted => 0x03
  | .stopped => 0x04
  | .referenceFault => 0x05
  | .channelFault => 0x06
  | .channelHigh => 0x07
  | .noStep => 0x08
  | .heldForDeck => 0x09
  | .defaulted => 0x0B
  | .estop => 0x0C
  | .travelNotParked => 0x0D
  | .notOverHold => 0x0E
  | .diverterReject => 0x0F
  | .lineNotClear => 0x10
  | .beltNotRunning => 0x11
  | .dust => 0x12
  | .deckHold => 0x13
  | .scaleFault => 0x14
  | .targetMet => 0x16
  | .noActiveStep => 0x17

/-- The answer OK with data. -/
def answerOk (data : List Byte) : Answer := { result := .ok, data := data }

/-- An answer without data. -/
def answerOnly (r : Result) : Answer := { result := r, data := [] }

/-- The answer NOT_READY with its reason byte (R162). -/
def answerNotReady (r : NotReadyReason) : Answer := { result := .notReady, data := [r.code] }

/-! ### Numbers of states, reasons and causes -/

def ConverterState.number : ConverterState → Byte
  | .running => 0
  | .halted => 1

/-- The cycle position, 1..4. -/
def CyclePosition.number : CyclePosition → Byte
  | .p1 => 1
  | .p2 => 2
  | .p3 => 3
  | .p4 => 4

def ScaleState.number : ScaleState → Byte
  | .normal => 0
  | .scaleFault => 1

def ScaleInput.number : ScaleInput → Byte
  | .waiting => 0
  | .live => 1
  | .stuck => 2
  | .noReference => 3

def ChannelStage.number : ChannelStage → Byte
  | .normal => 0
  | .warn => 1
  | .high => 2
  | .fault => 3

def LoaderStage.number : LoaderStage → Byte
  | .clear => 0
  | .warn => 1
  | .high => 2
  | .trip => 3

def ReferenceState.number : ReferenceState → Byte
  | .good => 0
  | .fault => 1

def TravelState.number : TravelState → Byte
  | .unreferenced => 0
  | .referencing => 1
  | .parked => 2
  | .pending => 3
  | .moving => 4
  | .creeping => 5
  | .fault => 6
  | .stopped => 7

def FaultCause.number : FaultCause → Byte
  | .timeout => 0
  | .hunting => 1
  | .limit => 2

/-- The fault cause of the status record: "none" is the fourth value of section 4.1's list. -/
def faultCauseByte : Option FaultCause → Byte
  | some c => c.number
  | none => 3

def Diverter.number : Diverter → Byte
  | .normal => 0
  | .reject => 1

/-- TRAVEL_DIR: fore, aft or none. -/
def directionByte : Option Direction → Byte
  | some .fore => 0
  | some .aft => 1
  | none => 2

def StepState.number : StepState → Byte
  | .pending => 0
  | .active => 1
  | .held => 2
  | .done => 3
  | .cancelled => 4

def HoldReason.number : HoldReason → Byte
  | .trim => 0
  | .holdFull => 1
  | .position => 2
  | .power => 3
  | .operator => 4
  | .scale => 5

def CutoffReason.number : CutoffReason → Byte
  | .target => 0
  | .operator => 1
  | .position => 2
  | .trim => 3
  | .scale => 4
  | .deck => 5

def GovernorState.number : GovernorState → Byte
  | .idle => 0
  | .ramping => 1
  | .running => 2
  | .dribble => 3
  | .paused => 4
  | .cutoff => 5

def PauseReason.number : PauseReason → Byte
  | .dust => 0
  | .cabSilent => 1
  | .deckHold => 2
  | .beltStopped => 3
  | .estop => 4

def DoneFlag.number : DoneFlag → Byte
  | .none => 0
  | .shortClosed => 1
  | .cancelled => 2

/-- The number of a station (section 8.8, RIGHTS). -/
def stationNumber : Station → Byte
  | .cab => 0
  | .deck => 1
  | .office => 2

/-- The hold byte: the hold's number, 0 for none (section 8.8). -/
def holdByte : Option Hold → Byte
  | some h => BitVec.ofNat 8 (holdNumber h)
  | none => 0

/-- The slot byte: FFh is NONE or the unassigned account (section 8.8). -/
def slotByte : Option Slot → Byte
  | some i => BitVec.ofNat 8 i.val
  | none => 0xFF

/-! ### Sets and duties -/

/-- The pause set as a bit set, in the order of section 6.1. -/
def PauseSet.bits (p : PauseSet) : Nat := bitSet [p.dust, p.cabSilent, p.deckHold, p.beltStopped, p.estop]

/-- Whether a reason is in the pause set. -/
def PauseSet.has (p : PauseSet) : PauseReason → Bool
  | .dust => p.dust
  | .cabSilent => p.cabSilent
  | .deckHold => p.deckHold
  | .beltStopped => p.beltStopped
  | .estop => p.estop

/-- The pause set with a reason put in. -/
def PauseSet.add (p : PauseSet) : PauseReason → PauseSet
  | .dust => { p with dust := true }
  | .cabSilent => { p with cabSilent := true }
  | .deckHold => { p with deckHold := true }
  | .beltStopped => { p with beltStopped := true }
  | .estop => { p with estop := true }

/-- The FEED_RATE duty of a commanded level (R110). -/
def duty (level : Nat) : Nat := (level * 255 + 50) / 100

/-- The port status byte: discarded flag, pending events, Cab presence live, DEFAULTED (section 8.8). -/
def portStatus (discarded pendingEvents presence defaulted : Bool) : Byte :=
  BitVec.ofNat 8 (bitSet [discarded, pendingEvents, presence, defaulted])

end Sys2Proof.Machine
end

