-- ==== Sys2Proof/Machine/Travel.lean ====
section
/-! DEFINITION. The Travel Controller's operations (chapter 04): coming to rest, faults, the home switch, starting and ending a motion, the stop judgement, and what the controller does at a segment close, at ESTOP and at the stop-cleared notice. -/

namespace Sys2Proof.Machine

open Sys2Proof

/-- The carriage comes to rest: TRAVEL_DIR none, BRAKE_RELEASE deasserted, a duty of 0 staged (R68). -/
def Travel.atRest (t : Travel) : Travel := { t with direction := none, brakeRelease := false, dutyStaged := 0 }

/-- TRAVEL_DONE is raised with the spout-over hold as it stands (R85). -/
def raiseTravelDone (abandoned : Bool) (s : State) : State := raise (.travelDone abandoned s.travel.spoutOver) s

/-- PARKED if the position is referenced, UNREFERENCED otherwise (R78, R79, R80). -/
def Travel.restState (t : Travel) : TravelState := if t.referenced then .parked else .unreferenced

/-- Entry into FAULT (R77). -/
def enterFault (c : FaultCause) (s : State) : State :=
  swapTest (raise (.travelFault c) { s with travel :=
    { s.travel.atRest with
      stopping := false, travelTimer := none, request := none, faultCause := some c, state := .fault } })

/-- The position is set at the home switch (R74). -/
def homeSet (s : State) : State :=
  swapTest (raiseTravelDone false (recomputeSpout { s with travel :=
    { s.travel.atRest with
      position := s.store.settings.homePosition, referenced := true, travelTimer := none, request := none,
      state := .parked } }))

/-- A PENDING request is abandoned: at the run-out limit, or at motion start for a vanished hold (R70, R71). -/
def abandonPending (s : State) : State :=
  raiseTravelDone true { s with travel :=
    { s.travel with request := none, runOutTimer := none, state := s.travel.beforePending } }

/-- The limit switch of a direction is asserted (R71, R77). -/
def Pins.limit (p : Pins) : Direction → Bool
  | .fore => p.limFore
  | .aft => p.limAft

/-- The opposite direction (R75). -/
def oppositeOf : Direction → Direction
  | .fore => .aft
  | .aft => .fore

/-- The direction from the position toward a target: aft if the target is above it (R71). -/
def Travel.toward (t : Travel) (x : Nat) : Direction := if t.position < x then .aft else .fore

/-- Steps 3, 4 and 6 of a motion start, for a Go To with target `x` (R71). -/
def startGoTo (x : Nat) (s : State) : State :=
  let t := { s.travel with target := some x }
  if t.distance x ≤ s.store.settings.stopBand then
    raiseTravelDone false { s with travel := { t with state := .parked, request := none } }
  else if s.pins.limit (t.toward x) then
    enterFault .limit { s with travel := t }
  else if s.store.settings.creepDistance < t.distance x then
    { s with travel :=
      { t with travelTimer := some 0, direction := some (t.toward x), brakeRelease := true,
               dutyStaged := s.store.settings.cruiseDuty, state := .moving } }
  else
    { s with travel :=
      { t with travelTimer := some 0, direction := some (t.toward x), brakeRelease := true,
               dutyStaged := s.store.settings.creepDuty, state := .creeping } }

/-- Steps 4, 5 and 6 of a motion start, for Reference Travel, which has no target (R71). -/
def startReference (s : State) : State :=
  let t := { s.travel with target := none }
  if s.pins.limAft then
    enterFault .limit { s with travel := t }
  else if s.pins.home then
    homeSet { s with travel := t }
  else
    { s with travel :=
      { t with travelTimer := some 0, direction := some .aft, brakeRelease := true, referenced := false,
               spoutOver := none, dutyStaged := s.store.settings.creepDuty, state := .referencing } }

/-- A motion starts for the travel request, accepted at once or leaving PENDING (R71). -/
def startMotion (s : State) : State :=
  let s1 := { s with travel := { s.travel with runOutTimer := none, reversals := 0, stopping := false } }
  match s.travel.request with
  | some (.goToHold h) =>
    match s.travel.activeMap.get h with
    | some e => startGoTo ((e.fore + e.aft) / 2) s1
    | none => abandonPending s1
  | some (.goToPosition x) => startGoTo x s1
  | some .reference => startReference s1
  | none => s1

/-- A carriage judged in position (R73). -/
def inPosition (s : State) : State :=
  swapTest (raiseTravelDone false { s with travel :=
    { s.travel with state := .parked, travelTimer := none, request := none } })

/-- The carriage runs on at creep duty in a direction (R72, R75). -/
def creepOn (d : Direction) (s : State) : State :=
  { s with travel :=
    { s.travel with direction := some d, brakeRelease := true, dutyStaged := s.store.settings.creepDuty } }

/-- A reversal from direction `d`, or the fault of a third one (R75). -/
def reversal (d : Direction) (s : State) : State :=
  if s.travel.reversals < 2 then
    let s1 := { s with travel := { s.travel with reversals := s.travel.reversals + 1 } }
    if s.pins.limit (oppositeOf d) then enterFault .limit s1 else creepOn (oppositeOf d) s1
  else enterFault .hunting s

/-- Whether the position lies past a target in the direction of motion (R72). -/
def Travel.past (t : Travel) (d : Direction) (x : Nat) : Bool :=
  match d with
  | .aft => decide ((x : Int) < t.position)
  | .fore => decide (t.position < (x : Int))

/-- The judgement at the end of the period in which a stop was begun (R72). -/
def stopJudgement (s : State) : State :=
  let s1 := { s with travel := { s.travel with direction := none, brakeRelease := false, stopping := false } }
  match s.travel.target, s.travel.direction with
  | some x, some d =>
    if s.travel.distance x ≤ s.store.settings.stopBand then inPosition s1
    else if s.travel.past d x then reversal d s1
    else creepOn d s1
  | _, _ => s1

/-- The profile test at an encoder count in MOVING or CREEPING (R72). -/
def profileTest (s : State) : State :=
  match s.travel.target with
  | none => s
  | some x =>
    if s.travel.state = .moving ∧ s.travel.distance x ≤ s.store.settings.creepDistance then
      { s with travel := { s.travel with dutyStaged := s.store.settings.creepDuty, state := .creeping } }
    else if s.travel.state = .creeping ∧ s.travel.stopping = false ∧
        s.travel.distance x ≤ s.store.settings.stopBand then
      { s with travel := { s.travel with dutyStaged := 0, stopping := true } }
    else s

/-- The run-out timer expires (R70); a stopped timer does not. -/
def runOutExpiry (s : State) : State := if s.travel.runOutTimer.isSome then abandonPending s else s

/-- The travel timer expires (R76); a stopped timer does not. -/
def travelExpiry (s : State) : State := if s.travel.travelTimer.isSome then enterFault .timeout s else s

/-- The controller's handling of a segment close: a pending swap first, then a request waiting in PENDING (R63, R70), and
DIVERTER to REJECT when grain enters the line during motion (R83). -/
def travelSegmentClosed (s : State) : State :=
  let s1 := swapTest s
  if s1.travel.state = .pending ∧ s1.weigher.lineTotal = 0 then startMotion s1
  else if s1.travel.state.inMotion = true ∧ s1.travel.diverter = .normal ∧ s1.weigher.lineTotal ≠ 0 then
    { s1 with travel := { s1.travel with diverter := .reject } }
  else s1

/-- The assertion of ESTOP at the Travel Controller (R80). -/
def travelStop (s : State) : State :=
  if s.travel.state = .stopped then s
  else
    let waiting := s.travel.state.inMotion || s.travel.state == .pending
    let s1 := { s with travel :=
      { s.travel.atRest with
        stopping := false, travelTimer := none, runOutTimer := none, faultCause := none, request := none,
        state := .stopped } }
    swapTest (if waiting then raiseTravelDone true s1 else s1)

/-- The governor's stop-cleared notice (R80). -/
def stopCleared (s : State) : State :=
  if s.travel.state = .stopped then
    swapTest { s with travel := { s.travel with state := s.travel.restState } }
  else s

/-- The refusals that the three travel requests share, in R69's order; `goTo` is false for Reference Travel. -/
def travelRefusal (goTo : Bool) (s : State) : Option Answer :=
  if stepActive s then some (answerOnly .busy)
  else match s.travel.state with
    | .moving => some (answerOnly .busy)
    | .creeping => some (answerOnly .busy)
    | .referencing => some (answerOnly .busy)
    | .pending => some (answerOnly .busy)
    | .fault => some (answerNotReady .faulted)
    | .stopped => some (answerNotReady .stopped)
    | .unreferenced => if goTo then some (answerNotReady .unreferenced) else none
    | .parked => none

/-- A travel request becomes PENDING behind a loaded belt (R70). -/
def waitPending (s : State) : State :=
  { s with travel :=
    { s.travel with beforePending := s.travel.state, state := .pending, runOutTimer := some 0 } }

/-- An accepted travel request starts its motion or waits in PENDING, and is answered with the travel state (R70). -/
def acceptTravel (r : TravelRequest) (s : State) : State × Answer :=
  let s1 := { s with travel := { s.travel with request := some r } }
  let s2 := if s.weigher.lineTotal = 0 ∨ s.travel.diverter = .reject then startMotion s1 else waitPending s1
  (s2, answerOk [s2.travel.state.number])

/-- The carriage is brought to rest by Cancel Travel from a motion (R79). -/
def cancelMotion (s : State) : State :=
  swapTest { s with travel :=
    { s.travel.atRest with
      stopping := false, travelTimer := none, request := none, state := s.travel.restState } }

end Sys2Proof.Machine
end

