-- ==== Sys2Proof/Machine/Governor.lean ====
section
/-! DEFINITION. The Feed Governor's operations (chapter 06): the effective target, the ceiling and the commanded level, pausing, cutoff and completion, the notices that reach it, presence and the permits. -/

namespace Sys2Proof.Machine

open Sys2Proof

/-- The feeding states (R109). -/
def GovernorState.feeding : GovernorState → Bool
  | .ramping => true
  | .running => true
  | .dribble => true
  | .idle => false
  | .paused => false
  | .cutoff => false

/-! ### Masses -/

/-- D in grams (R134). -/
def dribbleGrams (s : State) : Nat := s.store.settings.dribbleBand * gramsPerTenth

/-- The minimum pour in grams (R134). -/
def minimumPourGrams (s : State) : Nat := s.store.settings.minimumPour * gramsPerTenth

/-- Pmax in grams (R134). -/
def preactMaxGrams (s : State) : Nat := s.store.settings.preactMax * gramsPerTenth

/-- The placed mass of the ACTIVE step, 0 when there is none. -/
def activePlaced (s : State) : Nat :=
  match activeStep s.plan with
  | some st => st.placed
  | none => 0

/-- The committed mass: placed mass of the ACTIVE step plus the line total (R109). -/
def committed (s : State) : Nat := activePlaced s + s.weigher.lineTotal

/-- The effective target that the governor holds. -/
def effectiveHeld (s : State) : Nat := s.governor.effective.getD 0

/-- The committed mass is not below the effective target less the preact (R117, R124, R128). A threshold below 0 is met
by a committed mass of 0, so the test is made on sums. -/
def reachedCutoff (s : State) : Bool := effectiveHeld s ≤ committed s + s.governor.preact

/-- The committed mass is not below the effective target less the preact and the dribble band (R117, R124, R128). -/
def reachedDribble (s : State) : Bool := effectiveHeld s ≤ committed s + s.governor.preact + dribbleGrams s

/-! ### The effective target (R112) -/

/-- The three terms of the effective target, the trim term absent for a lever of 0. -/
structure TargetTerms where
  target : Nat
  room : Nat
  trim : Option Nat
  deriving DecidableEq, Repr

/-- The room of a hold: hold limit less credited mass, 0 if negative. An absent entry has no limit of the manual's (log
entry 6). -/
def holdRoom (s : State) (h : Hold) : Nat :=
  let limit := match s.travel.activeMap.get h with
    | some e => e.limit
    | none => Config.absentHoldLimit h.val
  limit * gramsPerTonne - s.accounts.credited.get h

/-- The most that the trim band allows beyond the moment, for a lever that is not 0; a negative value is taken as 0. -/
def trimAllowance (band : Nat) (moment lever : Int) : Nat :=
  if 0 < lever then ((band * gdmPerTonneMetre - moment) / lever).toNat
  else ((band * gdmPerTonneMetre + moment) / (-lever)).toNat

/-- The terms of a step's effective target, from the state as it stands. -/
def targetTerms (s : State) (st : Step) : TargetTerms :=
  let lever := leverOn s.travel.activeMap st.hold
  { target := st.target
    room := st.placed + holdRoom s st.hold
    trim := if lever = 0 then none
            else some (st.placed + trimAllowance s.plan.trimBand s.accounts.moment lever) }

/-- The effective target: the least of the terms formed. -/
def TargetTerms.least (t : TargetTerms) : Nat :=
  match t.trim with
  | some m => min (min t.target t.room) m
  | none => min t.target t.room

/-- The effective target of a step, from the state as it stands (R112). -/
def effectiveTarget (s : State) (st : Step) : Nat := (targetTerms s st).least

/-- What a start finds (R113). -/
inductive StartJudgement where
  | start
  | targetMet
  | heldFor (r : HoldReason)
  deriving DecidableEq, Repr

/-- The target term is above neither limit term (R113). -/
def TargetTerms.targetLeast (t : TargetTerms) : Bool :=
  decide (t.target ≤ t.room) && (match t.trim with
    | some m => decide (t.target ≤ m)
    | none => true)

/-- The room term is not above the trim term, or there is no trim term (R113). -/
def TargetTerms.roomFirst (t : TargetTerms) : Bool :=
  match t.trim with
  | some m => decide (t.room ≤ m)
  | none => true

/-- The judgement of the remainder against the minimum pour (R113). -/
def judgeStart (t : TargetTerms) (placed minimum : Nat) : StartJudgement :=
  if placed + minimum ≤ t.least then .start
  else if t.targetLeast then .targetMet
  else if t.roomFirst then .heldFor .holdFull
  else .heldFor .trim

/-! ### Ceiling and commanded level -/

/-- The commanded level changes and its duty is staged (R110). -/
def setLevel (level : Nat) (s : State) : State :=
  { s with governor := { s.governor with level := level, dutyStaged := duty level } }

/-- The maximum feed level of the ACTIVE step, if its record has one. -/
def activeMaximum (s : State) : Option Nat :=
  match activeStep s.plan with
  | some st => st.maxLevel
  | none => none

/-- The ceiling: the least of the terms that apply (R115). -/
def ceilingNow (s : State) : Nat :=
  let a := match activeMaximum s with
    | some m => min s.governor.requested m
    | none => s.governor.requested
  let b := if s.dust.stage = .warn then min a s.store.settings.warnFeedLevel else a
  if s.governor.state = .dribble then min b s.store.settings.dribbleLevel else b

/-- Recomputing the ceiling: a level above it falls to it at once, and RUNNING below it becomes RAMPING (R115). -/
def recomputeCeiling (s : State) : State :=
  let c := ceilingNow s
  let s1 := { s with governor := { s.governor with ceiling := c } }
  if c < s.governor.level then setLevel c s1
  else if s.governor.level < c ∧ s.governor.state = .running then
    { s1 with governor := { s1.governor with state := .ramping } }
  else s1

/-- Feed stops: FEED_PERMIT deasserted, level 0, a duty of 0 staged (R110). -/
def shutGate (s : State) : State :=
  { s with governor := { s.governor with feedPermit := false, level := 0, dutyStaged := 0 } }

/-- The governor leaves DRIBBLE: the ceiling is recomputed (R115). -/
def leftDribble (was : GovernorState) (s : State) : State := if was = .dribble then recomputeCeiling s else s

/-- The governor enters DRIBBLE and the ceiling is recomputed (R115, R117). -/
def enterDribble (s : State) : State :=
  recomputeCeiling { s with governor := { s.governor with state := .dribble } }

/-! ### Completion and cutoff -/

/-- The preact after a clean finish on target: P plus a quarter of the overshoot, dropped toward zero, clamped to
0..Pmax (R121). -/
def adaptedPreact (preact pmax placed effective : Nat) : Nat :=
  min (((preact : Int) + Int.tdiv ((placed : Int) - effective) 4).toNat) pmax

/-- The preact is adapted when the cutoff reason is TARGET and clean is set (R120, R121). -/
def adaptPreact (s : State) : State :=
  match activeStep s.plan with
  | some st =>
    if st.cutoffReason = some .target ∧ s.governor.clean = true then
      { s with governor :=
        { s.governor with
          preact := adaptedPreact s.governor.preact (preactMaxGrams s) st.placed (effectiveHeld s) } }
    else s
  | none => s

/-- The completion of a step in CUTOFF (R120). -/
def complete (s : State) : State :=
  let s1 := completeStep (adaptPreact s)
  { s1 with governor := { s1.governor with effective := none, state := .idle } }

/-- The run-out test: line total 0 and the tail count not below E (R119). -/
def runOutTest (s : State) : Bool :=
  s.weigher.lineTotal == 0 && decide (s.store.settings.tailSegments ≤ s.governor.tail)

/-- Steps 1 to 3 of a cutoff (R118). -/
def enterCutoff (s : State) : State :=
  let s1 := shutGate s
  leftDribble s.governor.state
    { s1 with governor :=
      { s1.governor with
        tail := if s.governor.state.feeding then 0 else s.governor.tail
        pauseSet := PauseSet.empty
        state := .cutoff } }

/-- A cutoff from a feeding state or from PAUSED (R118). For DECK the table has recorded the reason already. -/
def cutoff (r : CutoffReason) (s : State) : State :=
  let s1 := if r = .deck then enterCutoff s else recordCutoff r (enterCutoff s)
  if s.governor.state = .paused ∧ runOutTest s1 = true then complete s1 else s1

/-! ### Pausing (R123) -/

/-- A pause cause. -/
def pauseCause (r : PauseReason) (s : State) : State :=
  match s.governor.state with
  | .idle => s
  | .cutoff => { s with governor := { s.governor with clean := false } }
  | .paused =>
    if s.governor.pauseSet.has r then s
    else raise (.feedPaused r) { s with governor := { s.governor with pauseSet := s.governor.pauseSet.add r } }
  | _ =>
    let s1 := shutGate s
    raise (.feedPaused r) (leftDribble s.governor.state
      { s1 with governor :=
        { s1.governor with tail := 0, pauseSet := s1.governor.pauseSet.add r, state := .paused } })

/-! ### Notices -/

/-- BELT_PERMIT is asserted unless the loader stage is TRIP or ESTOP is asserted (R132). -/
def setBeltPermit (s : State) : State :=
  { s with governor := { s.governor with beltPermit := s.dust.stage != .trip && !s.pins.estop } }

/-- The Dust Monitor's stage notice, of the loader stage as it stands (R122). -/
def stageNotice (s : State) : State :=
  setBeltPermit (recomputeCeiling
    (if s.dust.stage = .high ∨ s.dust.stage = .trip then pauseCause .dust s else s))

/-- The tail count after a close that entered `entering` grams (R119). -/
def nextTail (tail entering : Nat) : Nat := if entering = 0 then min (tail + 1) 255 else 0

/-- The leaving entry went to the ACTIVE step's hold. -/
def toActiveHold (dest : Destination) (s : State) : Bool :=
  match activeStep s.plan with
  | some st => dest == .hold st.hold
  | none => false

/-- The segment's effect on clean: lost by a discharge away from the step's hold and by an ESTIMATED segment (R117,
R119). -/
def staysClean (entering : Nat) (w : Weighing) (leaving : Nat) (atHold : Bool) : Bool :=
  !(leaving != 0 && !atHold) && !(entering != 0 && w == .estimated)

/-- The bookings of a segment-closed notice in every state but IDLE: placed mass, tail count and clean (R117, R119). -/
def bookSegment (entering : Nat) (w : Weighing) (leaving : Nat) (dest : Destination) (s : State) : State :=
  { s with
    plan := if toActiveHold dest s then
        s.plan.updateActive (fun st => { st with placed := massAdd st.placed leaving })
      else s.plan
    governor :=
      { s.governor with
        tail := nextTail s.governor.tail entering
        clean := s.governor.clean && staysClean entering w leaving (toActiveHold dest s) } }

/-- The tests of dribble and cutoff at a close in a feeding state (R117). -/
def feedTests (s : State) : State :=
  if reachedCutoff s then cutoff .target s
  else if s.governor.state ≠ .dribble ∧ reachedDribble s = true then enterDribble s
  else s

/-- The Belt Weigher's segment-closed notice (R117, R119). -/
def segmentClosedNotice (entering : Nat) (w : Weighing) (leaving : Nat) (dest : Destination) (s : State) : State :=
  match s.governor.state with
  | .idle => s
  | .paused => bookSegment entering w leaving dest s
  | .cutoff =>
    let s1 := bookSegment entering w leaving dest s
    if runOutTest s1 then complete s1 else s1
  | _ => feedTests (bookSegment entering w leaving dest s)

/-- The effective target is recomputed, and written to the governor and to the step record (R112, R128, R129). -/
def recomputeEffective (s : State) : State :=
  match activeStep s.plan with
  | none => s
  | some st =>
    { s with
      governor := { s.governor with effective := some (effectiveTarget s st) }
      plan := s.plan.updateActive (fun x => { x with effective := some (effectiveTarget s st) }) }

/-- The cutoff reason of the ACTIVE step. -/
def activeCutoff (s : State) : Option CutoffReason :=
  match activeStep s.plan with
  | some st => st.cutoffReason
  | none => none

/-- The Plan Table's re-evaluation notice (R128). -/
def reEvaluate (s : State) : State :=
  let s1 := recomputeCeiling (recomputeEffective s)
  match s1.governor.state with
  | .idle => s
  | .cutoff =>
    if activeCutoff s1 = some .target ∧ s1.governor.effective ≠ s.governor.effective then recordCutoff .trim s1 else s1
  | .paused => if reachedCutoff s1 then cutoff .trim s1 else s1
  | .dribble =>
    if reachedCutoff s1 then cutoff .trim s1
    else if reachedDribble s1 then s1
    else recomputeCeiling { s1 with governor := { s1.governor with state := .ramping } }
  | _ =>
    if reachedCutoff s1 then cutoff .trim s1
    else if reachedDribble s1 then enterDribble s1
    else s1

/-- The Belt Weigher's scale-fault notice (R129). -/
def scaleFaultNotice (s : State) : State :=
  match s.governor.state with
  | .idle => s
  | .cutoff =>
    let s1 := recomputeEffective s
    { s1 with governor := { s1.governor with clean := false } }
  | _ => cutoff .scale (recomputeEffective s)

/-- The Travel Controller's position-lost notice (R130). -/
def positionLost (s : State) : State :=
  match s.governor.state with
  | .idle => s
  | .cutoff => s
  | _ => cutoff .position s

/-- The Plan Table's cancel notice (R131). -/
def cancelNotice (s : State) : State :=
  match s.governor.state with
  | .idle => s
  | .cutoff => s
  | _ => cutoff .deck s

/-! ### Presence (R126) -/

/-- The CAB port's notice of a well-formed frame. -/
def presenceNotice (s : State) : State :=
  { s with governor := { s.governor with presenceTimer := some 0, presenceLive := true } }

/-- The presence timer expires; a stopped timer does not. -/
def presenceExpiry (s : State) : State :=
  if s.governor.presenceTimer.isSome then
    let s1 := { s with governor := { s.governor with presenceTimer := none, presenceLive := false } }
    if s.governor.state.feeding then pauseCause .cabSilent s1 else s1
  else s

/-- Feed starts from level 0 in a feeding state, FEED_PERMIT asserted, and the ceiling is computed (R114, R124). -/
def openGate (g : GovernorState) (s : State) : State :=
  recomputeCeiling { s with governor :=
    { s.governor with state := g, feedPermit := true, level := 0, dutyStaged := 0 } }

end Sys2Proof.Machine
end

