-- ==== Sys2Proof/Machine/Dust.lean ====
section
/-! DEFINITION. The Dust Monitor's operations (chapter 03): from code to filtered value, the level counts and the channel stage, sensor faults, the loader stage with its latch and timers, and the suppression outputs. -/

namespace Sys2Proof.Machine

open Sys2Proof

/-! ### One sample of one channel -/

/-- A code in range: 17..4078 (R44). -/
def codeInRange (c : Code) : Bool := 17 ≤ c.toNat && c.toNat ≤ 4078

/-- The value of an in-range code in mg/m³ (R44). -/
def dustValue (code offset gain : Nat) : Nat :=
  if code ≤ offset then 0 else min (((code - offset) * gain + 128) / 256) 9999

/-- A value enters the ring: it fills a ring whose refill is pending, otherwise the oldest is dropped (R45). -/
def Ring.push (r : Ring) (refill : Bool) (v : Nat) : Ring := if refill then ⟨v, v, v, v⟩ else ⟨r.v1, r.v2, r.v3, v⟩

/-- The rounded mean of the ring (R45). -/
def Ring.mean (r : Ring) : Nat := (r.v0 + r.v1 + r.v2 + r.v3 + 2) / 4

/-- A count moved by its condition, stopping at 15 (R46). -/
def countWhile (condition : Bool) (n : Nat) : Nat := if condition then min (n + 1) 15 else 0

/-- The four level counts restarted at 0 (R43, R48, R49). -/
def Channel.restartLevels (ch : Channel) : Channel :=
  { ch with warnRise := 0, highRise := 0, highFall := 0, warnFall := 0 }

/-- The value of an in-range code taken into the ring, with the filtered value (R45). -/
def Channel.take (ch : Channel) (v : Nat) : Channel :=
  { ch with
    value := v, ring := ch.ring.push ch.refillPending v, refillPending := false,
    filtered := (ch.ring.push ch.refillPending v).mean }

/-- The four level counts updated against the filtered value (R46). -/
def Channel.countLevels (ch : Channel) (k : ChannelSettings) : Channel :=
  { ch with
    warnRise := countWhile (k.warnLevel ≤ ch.filtered) ch.warnRise
    highRise := countWhile (k.highLevel ≤ ch.filtered) ch.highRise
    highFall := countWhile (ch.filtered < k.highLevel - k.hysteresis) ch.highFall
    warnFall := countWhile (ch.filtered < k.warnLevel - k.hysteresis) ch.warnFall }

/-- The stage that the counts give, by at most one step (R47). -/
def Channel.nextStage (ch : Channel) (q : Nat) : ChannelStage :=
  match ch.stage with
  | .normal => if q ≤ ch.highRise then .high else if q ≤ ch.warnRise then .warn else .normal
  | .warn => if q ≤ ch.highRise then .high else if q ≤ ch.warnFall then .normal else .warn
  | .high => if q ≤ ch.highFall then .warn else .high
  | .fault => .fault

/-- An in-range sample outside FAULT (R45 to R48). -/
def Channel.goodSample (ch : Channel) (k : ChannelSettings) (q : Nat) (code : Code) : Channel :=
  let c1 := ({ ch with faultCount := 0 }.take (dustValue code.toNat k.offset k.gain)).countLevels k
  { c1 with stage := c1.nextStage q }

/-- An out-of-range sample outside FAULT: the fault count, and entry into FAULT at Q (R48). -/
def Channel.badSample (ch : Channel) (q : Nat) : Channel :=
  if q ≤ min (ch.faultCount + 1) 15 then
    { ch.restartLevels with stage := .fault, faultCount := 0, recoveryCount := 0 }
  else { ch with faultCount := min (ch.faultCount + 1) 15 }

/-- A sample in FAULT: the recovery count, and the return to NORMAL at Q (R49). DESIGN CHOICE (log entry 28): no code taken in
FAULT is turned into a value, neither the completing one nor an in-range one before it. -/
def Channel.faultSample (ch : Channel) (q : Nat) (good : Bool) : Channel :=
  if good then
    if q ≤ min (ch.recoveryCount + 1) 15 then
      { ch.restartLevels with stage := .normal, recoveryCount := 0, refillPending := true }
    else { ch with recoveryCount := min (ch.recoveryCount + 1) 15 }
  else { ch with recoveryCount := 0 }

/-- A sample of an enabled channel (R44 to R49). -/
def Channel.sample (ch : Channel) (k : ChannelSettings) (q : Nat) (code : Code) : Channel :=
  if ch.stage = .fault then ch.faultSample q (codeInRange code)
  else if codeInRange code then ch.goodSample k q code
  else ch.badSample q

/-! ### The loader stage -/

/-- Whether a channel is enabled: its flag in the mask (R30, R40). -/
def enabled (mask : BitVec 8) (c : ChannelNo) : Bool := mask.getLsbD c.val

/-- What a channel stage counts as in the loader stage (R51). -/
def ChannelStage.asLoader : ChannelStage → LoaderStage
  | .normal => .clear
  | .warn => .warn
  | .high => .high
  | .fault => .trip

/-- The order of the loader stages. -/
def LoaderStage.rank : LoaderStage → Nat
  | .clear => 0
  | .warn => 1
  | .high => 2
  | .trip => 3

/-- The higher of two loader stages. -/
def LoaderStage.higher (a b : LoaderStage) : LoaderStage := if a.rank < b.rank then b else a

/-- The enabled channels, in channel order. -/
def enabledChannels (mask : BitVec 8) : List ChannelNo := allChannels.filter (enabled mask)

/-- The highest of the enabled channels' stages, CLEAR with none enabled (R51). -/
def Dust.channelsStage (d : Dust) (mask : BitVec 8) : LoaderStage :=
  (enabledChannels mask).foldl (fun a c => a.higher (d.channels.get c).stage.asLoader) .clear

/-- The first enabled channel in a stage. -/
def Dust.firstIn (d : Dust) (mask : BitVec 8) (stage : ChannelStage) : Option ChannelNo :=
  (enabledChannels mask).find? (fun c => (d.channels.get c).stage == stage)

/-- A computed stage of TRIP sets a clear latch (R51, R54). -/
def Dust.latchOnTrip (d : Dust) (mask : BitVec 8) : Dust :=
  if d.tripLatch.isNone then
    match d.firstIn mask .fault with
    | some c => { d with tripLatch := some (.channel c) }
    | none => d
  else d

/-- The loader stage as the latch and the channels give it (R51). -/
def Dust.computedStage (d : Dust) (mask : BitVec 8) : LoaderStage :=
  if d.tripLatch.isSome then .trip else d.channelsStage mask

/-- A zone's output while the latch is clear: an enabled channel of the zone is not NORMAL (R56). -/
def Dust.zoneOn (d : Dust) (mask : BitVec 8) (zone : List ChannelNo) : Bool :=
  zone.any (fun c => enabled mask c && (d.channels.get c).stage != .normal)

/-- The suppression outputs (R56). -/
def Dust.outputs (d : Dust) (mask : BitVec 8) : Suppression :=
  { spout := d.tripLatch.isSome || d.zoneOn mask [0, 1, 2, 3]
    boom := d.tripLatch.isSome || d.zoneOn mask [4]
    tower := d.tripLatch.isSome || d.zoneOn mask [5, 6]
    gallery := d.tripLatch.isSome || d.zoneOn mask [7] }

/-- The high-hold timer at a change of the loader stage: it starts at the change into HIGH from CLEAR or WARN and stops at
the change out of HIGH (R52). -/
def nextHighHold (was now : LoaderStage) (timer : Option Nat) : Option Nat :=
  if now = .high ∧ (was = .clear ∨ was = .warn) then some 0
  else if was = .high ∧ now ≠ .high then none
  else timer

/-- The monitor's own part of the recomputation: latch, outputs, stage and high-hold timer (R51, R52, R54, R56). -/
def Dust.recompute (d : Dust) (mask : BitVec 8) : Dust :=
  let d1 := d.latchOnTrip mask
  { d1 with
    suppress := d1.outputs mask
    stage := d1.computedStage mask
    highHold := nextHighHold d.stage (d1.computedStage mask) d1.highHold }

/-- The loader stage is recomputed; a change gives the stage notice and raises DUST_STAGE (R51). -/
def recomputeStage (s : State) : State :=
  let d := s.dust.recompute s.store.settings.mask
  let s1 := { s with dust := d }
  if d.stage = s.dust.stage then s1 else raise (.dustStage d.stage) (stageNotice s1)

/-- A trip cause: a clear latch records it, and DUST_TRIP is raised with it (R54). -/
def setTrip (cause : TripCause) (s : State) : State :=
  raise (.dustTrip cause) { s with dust :=
    { s.dust with tripLatch := if s.dust.tripLatch.isSome then s.dust.tripLatch else some cause } }

/-- The high-hold timer expires (R52); a stopped timer does not. -/
def highHoldExpires (s : State) : State :=
  if s.dust.highHold.isSome then
    recomputeStage (setTrip .holdTime { s with dust := { s.dust with highHold := none } })
  else s

/-- The reference timer expires (R53); a stopped timer does not. -/
def referenceTimerExpires (s : State) : State :=
  if s.dust.referenceTimer.isSome then
    recomputeStage (setTrip .reference { s with dust := { s.dust with referenceTimer := none } })
  else s

/-- The state with one channel replaced. -/
def setChannel (c : ChannelNo) (ch : Channel) (s : State) : State :=
  { s with dust := { s.dust with channels := s.dust.channels.set c ch } }

/-- One channel's code of a D group: the last code of every channel, and a sample of an enabled one; entry into FAULT is
a trip cause within the sample (R40, R48). -/
def takeCode (c : ChannelNo) (code : Code) (s : State) : State :=
  let ch := { s.dust.channels.get c with lastCode := some code }
  if enabled s.store.settings.mask c then
    let ch1 := ch.sample (s.store.settings.channels.get c) s.store.settings.qualification code
    let s1 := setChannel c ch1 s
    if ch.stage ≠ .fault ∧ ch1.stage = .fault then setTrip (.channel c) s1 else s1
  else setChannel c ch s

/-- The four codes of a group, in channel order from channel `c0` (R40). -/
def takeGroup (c0 c1 c2 c3 : ChannelNo) (q : Quad) (s : State) : State :=
  takeCode c3 q.c3 (takeCode c2 q.c2 (takeCode c1 q.c1 (takeCode c0 q.c0 s)))

/-- A D1 or D2 group at the monitor (R40). A W group is never delivered to it. -/
def dustGroup (k : GroupKind) (q : Quad) (s : State) : State :=
  match k with
  | .d1 => recomputeStage (takeGroup 0 1 2 3 q s)
  | .d2 => recomputeStage (takeGroup 4 5 6 7 q s)
  | .w => s

/-! ### Settings of the monitor -/

/-- A channel whose enable flag has changed: NORMAL, all six counts 0, refill pending (R50). -/
def Channel.reenable (ch : Channel) : Channel :=
  { ch.restartLevels with stage := .normal, faultCount := 0, recoveryCount := 0, refillPending := true }

/-- The channels after the mask has changed from `was` to `now` (R50). -/
def applyMaskTo (was now : BitVec 8) (c : ChannelNo) (s : State) : State :=
  if enabled was c = enabled now c then s else setChannel c (s.dust.channels.get c).reenable s

/-- The monitor's response to a changed enable mask (R50). -/
def applyMask (was now : BitVec 8) (s : State) : State :=
  recomputeStage (allChannels.foldl (fun s c => applyMaskTo was now c s) s)

end Sys2Proof.Machine
end

