-- ==== Sys2Proof/Machine/Weigher.lean ====
section
/-! DEFINITION. The Belt Weigher's operations (chapter 01): the load of a W group, the segment close, the transit line and discharge. -/

namespace Sys2Proof.Machine

open Sys2Proof

/-! ### Load groups -/

/-- The sum of a group's codes, 0..16380 (R5). -/
def Quad.sum (q : Quad) : Nat := q.c0.toNat + q.c1.toNat + q.c2.toNat + q.c3.toNat

/-- All four codes are 0, or all four are 4095 (R4). -/
def Quad.stuck (q : Quad) : Bool := q.sum == 0 || q.sum == 16380

/-- The greatest load of a group in g/m (R5). -/
def maxLoad : Nat := 999999

/-- The load of a group before saturation, in g/m: blanked up to 4 × B above 4 × Z (R5). -/
def rawLoad (st : Settings) (q : Quad) : Nat :=
  if q.sum ≤ 4 * st.zero + 4 * st.band then 0 else ((q.sum - 4 * st.zero) * st.span + 2) / 4

/-- A load enters the segment; at the greatest count the group is dropped whole (R6). -/
def Weigher.addLoad (w : Weigher) (load : Nat) : Weigher :=
  if w.segmentCount < max32 then
    { w with segmentSum := w.segmentSum + load, segmentCount := w.segmentCount + 1 }
  else w

/-- The over-range flag of the account that the weighing lot names is set (R5). -/
def markOverRange (s : State) : State := updateLedger (weighingAccount s) (fun l => { l with overRange := true }) s

/-- A W group at the weigher (R4, R5, R6). DESIGN CHOICE (log entry 27): a saturated group sets the over-range flag also where
R6 drops it from the segment at the greatest count. -/
def weighGroup (q : Quad) (s : State) : State :=
  if q.stuck then { s with weigher := { s.weigher with input := .stuck } }
  else
    let load := rawLoad s.store.settings q
    let s1 := if maxLoad < load then markOverRange s else s
    { s1 with weigher := ({ s1.weigher with input := .live }).addLoad (min load maxLoad) }

/-! ### Weighing a segment -/

/-- The mean load of a segment with loads, rounded to the nearest with halves up (R9). -/
def segmentMean (sum count : Nat) : Nat := (sum + count / 2) / count

/-- The mass of a segment in grams (R12). -/
def segmentMass (mean length : Nat) : Nat := (mean * length + 500) / 1000

/-- A 16-bit count raised by one, saturating at 65535 (R11). -/
def saturate16 (n : Nat) : Nat := min (n + 1) 65535

/-- An unweighed segment: the count of the account that the weighing lot names (R11). -/
def countUnweighed (s : State) : State :=
  updateLedger (weighingAccount s) (fun l => { l with unweighed := saturate16 l.unweighed }) s

/-- Entry into SCALE FAULT: the event, and the scale-fault notice before anything else of the close (R10). -/
def enterScaleFault (s : State) : State :=
  scaleFaultNotice (raise .scaleFault { s with weigher := { s.weigher with scale := .scaleFault } })

/-- What a close finds of the segment's mean load: the state, the mass and how it was weighed (R9 to R12). -/
structure Weighed where
  state : State
  mass : Nat
  how : Weighing

/-- Weighing the segment at a close (R9 to R12). -/
def weighSegment (s : State) : Weighed :=
  let w := s.weigher
  let length := s.store.settings.segmentLength
  if 0 < w.segmentCount then
    let mean := segmentMean w.segmentSum w.segmentCount
    { state := { s with weigher := { w with lastMean := mean, holdLast := 0, scale := .normal } }
      mass := segmentMass mean length, how := .live }
  else if w.scale = .normal then
    if w.holdLast < 4 then
      { state := { s with weigher := { w with holdLast := w.holdLast + 1 } }
        mass := segmentMass w.lastMean length, how := .estimated }
    else { state := countUnweighed (enterScaleFault s), mass := 0, how := .unweighed }
  else { state := countUnweighed s, mass := 0, how := .unweighed }

/-- The ledger billed with a segment (R13). -/
def Ledger.bill (l : Ledger) (mass : Nat) (how : Weighing) : Ledger :=
  { l with
    weighed := massAdd l.weighed mass
    estimated := if how = .estimated then massAdd l.estimated mass else l.estimated }

/-- A segment of non-zero mass is billed to the account that the weighing lot names (R13). -/
def billSegment (mass : Nat) (how : Weighing) (s : State) : State :=
  if mass = 0 then s else updateLedger (weighingAccount s) (fun l => l.bill mass how) s

/-- The entry of a segment: tagged when its mass is not 0 (R13). -/
def segmentEntry (mass : Nat) (s : State) : Entry :=
  if mass = 0 then Entry.empty else { mass := mass, tag := some (weighingAccount s) }

/-! ### The transit line -/

/-- The entry at the discharge end. -/
def leavingEntry (s : State) : Entry := s.weigher.line.headD Entry.empty

/-- The line shifts by one place: the new entry enters at position N and the oldest leaves (R14). -/
def shiftLine (e : Entry) (s : State) : State :=
  { s with weigher :=
    { s.weigher with
      line := s.weigher.line.tail ++ [e]
      lineTotal := s.weigher.lineTotal + e.mass - (leavingEntry s).mass } }

/-- Where the leaving entry goes, from DIVERTER and the spout-over hold (R15). -/
def destination (s : State) : Destination :=
  match s.travel.diverter with
  | .reject => .reject
  | .normal =>
    match s.travel.spoutOver with
    | some h => .hold h
    | none => .spill

/-- A split list with mass placed in a hold: its split grows, or a split is appended (R16, R141). -/
def addSplit (h : Hold) (mass : Nat) : List (Hold × Nat) → List (Hold × Nat)
  | [] => [(h, mass)]
  | (k, m) :: rest => if k = h then (k, massAdd m mass) :: rest else (k, m) :: addSplit h mass rest

/-- The three credits of a discharge to a hold (R16, R142, R143). -/
def creditHold (h : Hold) (mass : Nat) (acc : Account) (s : State) : State :=
  let s1 := updateLedger acc (fun l => { l with splits := addSplit h mass l.splits }) s
  { s1 with accounts :=
    { s1.accounts with
      credited := s1.accounts.credited.set h (massAdd (s1.accounts.credited.get h) mass)
      moment := momentOf (s1.accounts.moment + (mass : Int) * leverOn s.travel.activeMap h) } }

/-- The detail of SPILL: the ACTIVE step and its hold, if any (R17). -/
def spillDetail (s : State) : Option (Nat × Hold) := (activeStep s.plan).map (fun st => (st.id, st.hold))

/-- The spill run (R16, R17). -/
def setSpillRun (b : Bool) (s : State) : State := { s with weigher := { s.weigher with spillRun := b } }

/-- A discharge of non-zero mass to spill: credit, and SPILL at the first of a run (R17). -/
def dischargeSpill (mass : Nat) (acc : Account) (s : State) : State :=
  let s1 := updateLedger acc (fun l => { l with spilled := massAdd l.spilled mass }) s
  if s.weigher.spillRun then s1 else setSpillRun true (raise (.spill (spillDetail s)) s1)

/-- The discharge of the leaving entry; an entry of mass 0 credits nothing (R15, R16, R17). -/
def discharge (e : Entry) (d : Destination) (s : State) : State :=
  match e.tag with
  | none => s
  | some acc =>
    if e.mass = 0 then s
    else match d with
      | .reject =>
        setSpillRun false (updateLedger acc (fun l => { l with rejected := massAdd l.rejected e.mass }) s)
      | .spill => dischargeSpill e.mass acc s
      | .hold h => setSpillRun false (creditHold h e.mass acc s)

/-- The pulse count and the segment accumulation start again at the end of a close (R8). -/
def restartSegment (s : State) : State :=
  { s with weigher := { s.weigher with pulseCount := 0, segmentSum := 0, segmentCount := 0 } }

/-- Billing, the shift and the discharge of a close, for a segment of `mass` weighed `how`, in that order (R13 to R17). -/
def moveLine (mass : Nat) (how : Weighing) (s : State) : State :=
  discharge (leavingEntry s) (destination s) (shiftLine (segmentEntry mass s) (billSegment mass how s))

/-- The segment close (R9 to R18), followed by the controller's own handling of it (R63, R70, R83). -/
def closeSegment (s : State) : State :=
  let w := weighSegment s
  let leaving := (leavingEntry w.state).mass
  let dest := destination w.state
  travelSegmentClosed
    (segmentClosedNotice w.mass w.how leaving dest (restartSegment (moveLine w.mass w.how w.state)))

/-- A tachometer pulse (R8). -/
def countPulse (s : State) : State :=
  let s1 := { s with weigher := { s.weigher with pulseCount := s.weigher.pulseCount + 1 } }
  if s.store.settings.pulsesPerSegment ≤ s.weigher.pulseCount + 1 then closeSegment s1 else s1

/-- A line of N empty entries (R14, R21, R24). -/
def rebuildLine (n : Nat) (s : State) : State :=
  { s with weigher := { s.weigher with line := List.replicate n Entry.empty, lineTotal := 0 } }

end Sys2Proof.Machine
end

