-- ==== Sys2Proof/Machine/Store.lean ====
section
/-! DEFINITION. The settings store's operations (chapter 10): the owners' tests of a setting, storing it with the check word, and the effect that its owner gives it. -/

namespace Sys2Proof.Machine

open Sys2Proof

/-- A running timer whose elapsed time equals or exceeds a limit in seconds. -/
def timerReached (timer : Option Nat) (seconds : Nat) : Bool :=
  match timer with
  | some elapsed => seconds * 1000 ≤ elapsed
  | none => false

/-! ### Hatch windows under a margin -/

/-- The window of a present entry is not empty under a margin (R61, R67). -/
def Hatch.windowOk (e : Hatch) (m : Nat) : Bool := (e.window m).1 ≤ (e.window m).2

/-- The windows of two entries share a position under a margin (R61, R67). -/
def Hatch.overlaps (a b : Hatch) (m : Nat) : Bool :=
  max (a.window m).1 (b.window m).1 ≤ min (a.window m).2 (b.window m).2

/-- The entry `e` of hold `h` shares a position with the window of another present entry of the page (R61, R67). -/
def HatchPage.clashes (page : HatchPage) (m : Nat) (h : Hold) (e : Hatch) : Bool :=
  allHolds.any (fun k => k != h && (match page.get k with
    | some f => e.overlaps f m
    | none => false))

/-- Every present entry of a page has a window, and no two windows share a position (R67). -/
def HatchPage.windowsOk (page : HatchPage) (m : Nat) : Bool :=
  allHolds.all (fun h => match page.get h with
    | some e => e.windowOk m && !page.clashes m h e
    | none => true)

/-- A present entry of either page has its aft edge beyond `x` (R67). -/
def Travel.edgeBeyond (t : Travel) (x : Nat) : Bool :=
  [t.pages.get 0, t.pages.get 1].any (fun page => allHolds.any (fun h => match page.get h with
    | some e => decide (x < e.aft)
    | none => false))

/-! ### Write Setting -/

/-- The first answer of a list of tests whose condition holds. -/
def firstOf : List (Bool × Answer) → Option Answer
  | [] => none
  | (c, a) :: rest => if c then some a else firstOf rest

/-- The owner's test of a value in range: its refusal, or none (R21, R42, R67, R134). -/
def ownerRefusal (v : Nat) (s : State) : SettingKey → Option Answer
  | .lineLength => firstOf [(s.weigher.lineTotal != 0 || stepActive s, answerOnly .busy)]
  | .segmentLength => firstOf [(s.weigher.lineTotal != 0 || stepActive s, answerOnly .busy)]
  | .pulsesPerSegment => firstOf [(s.weigher.lineTotal != 0 || stepActive s, answerOnly .busy)]
  | .channel c .warnLevel =>
    let k := s.store.settings.channels.get c
    firstOf [(!(decide (v < k.highLevel) && decide (k.hysteresis < v)), answerOnly .badValue)]
  | .channel c .highLevel =>
    firstOf [(!decide ((s.store.settings.channels.get c).warnLevel < v), answerOnly .badValue)]
  | .channel c .hysteresis =>
    firstOf [(!decide (v < (s.store.settings.channels.get c).warnLevel), answerOnly .badValue)]
  | .railLength =>
    firstOf [(decide (v < s.store.settings.homePosition) || s.travel.edgeBeyond v, answerOnly .badValue),
      (s.travel.state.inMotion || s.travel.state == .pending, answerOnly .busy)]
  | .homePosition =>
    firstOf [(decide (s.store.settings.railLength < v), answerOnly .badValue),
      (s.travel.state == .pending || s.travel.state == .referencing, answerOnly .busy)]
  | .pourMargin =>
    firstOf [(stepActive s || s.travel.state.inMotion, answerOnly .busy),
      (!((s.travel.pages.get 0).windowsOk v && (s.travel.pages.get 1).windowsOk v), answerOnly .badValue)]
  | .preact => firstOf [(decide (preactMaxGrams s < v * 1000), answerOnly .badValue)]
  | _ => none

/-- A settings record stored with its check word (R173). -/
def storeSettings (x : Settings) (s : State) : State :=
  { s with store := { s.store with settings := x, checkWord := checkWord x } }

/-- An accepted value is stored: in the record with its check word, or, for the preact, beside it in grams (R173, R178). -/
def storeSetting (k : SettingKey) (v : Nat) (s : State) : State :=
  if k = .preact then { s with governor := { s.governor with preact := v * 1000 } }
  else storeSettings (writeRecord s.store.settings v k) s

/-- The stored preact clamped to Pmax (R121, R134, R136). -/
def clampPreact (s : State) : State :=
  { s with governor := { s.governor with preact := min s.governor.preact (preactMaxGrams s) } }

/-- A changed enable mask: the converter restarts, and the monitor applies the mask (R31, R50). -/
def maskChanged (was now : BitVec 8) (s : State) : State :=
  if was = now then s
  else applyMask was now { s with converter := s.converter.maskRestart }

/-- The effect that the owner gives an accepted value, once it is stored; `was` is the mask before (R21, R31, R43, R50,
R67, R134). -/
def applySetting (was : BitVec 8) (v : Nat) (s : State) : SettingKey → State
  | .lineLength => rebuildLine v s
  | .mask => maskChanged was s.store.settings.mask s
  | .channel c .offset => setChannel c { (s.dust.channels.get c).restartLevels with refillPending := true } s
  | .channel c .gain => setChannel c { (s.dust.channels.get c).restartLevels with refillPending := true } s
  | .channel c .warnLevel => setChannel c (s.dust.channels.get c).restartLevels s
  | .channel c .highLevel => setChannel c (s.dust.channels.get c).restartLevels s
  | .channel c .hysteresis => setChannel c (s.dust.channels.get c).restartLevels s
  | .highHoldTime => if timerReached s.dust.highHold v then highHoldExpires s else s
  | .pourMargin => recomputeSpout s
  | .travelTimeLimit => if timerReached s.travel.travelTimer v then travelExpiry s else s
  | .runOutLimit => if timerReached s.travel.runOutTimer v then runOutExpiry s else s
  | .warnFeedLevel => recomputeCeiling s
  | .dribbleLevel => recomputeCeiling s
  | .preactMax => clampPreact s
  | .presenceWindow => if timerReached s.governor.presenceTimer v then presenceExpiry s else s
  | .preact => { s with governor := { s.governor with clean := false } }
  | _ => s

/-- Write Setting (R178). -/
def ownWriteSetting (identifier value : Nat) (s : State) : State × Answer :=
  match keyOf identifier with
  | none => (s, answerOnly .badValue)
  | some k =>
    if k.readOnly || !k.inRange value then (s, answerOnly .badValue)
    else match ownerRefusal value s k with
      | some a => (s, a)
      | none =>
        (applySetting s.store.settings.mask value (storeSetting k value s) k,
          answerOk (le 2 identifier ++ le 4 value))

/-- Accept Settings (R179). -/
def ownAcceptSettings (s : State) : State × Answer :=
  ({ s with store := { s.store with defaulted := false } }, answerOk [])

/-- Some OPEN lot slot has weighed mass (R2). -/
def openLotWeighed (s : State) : Bool :=
  allSlots.any (fun i => (s.accounts.lots.get i).isOpen && (s.accounts.lots.get i).ledger.weighed != 0)

/-- The four changes of an accepted calibration (R2). -/
def calibrate (z sp b : Nat) (s : State) : State :=
  let s1 := storeSettings { s.store.settings with zero := z, span := sp, band := b } s
  { s1 with
    store := { s1.store with calibrationCount := min (s1.store.calibrationCount + 1) max32 }
    weigher := { s1.weigher with segmentSum := 0, segmentCount := 0, lastMean := 0 } }

/-- Write Calibration at the weigher (R2). -/
def ownWriteCalibration (z sp b : Nat) (s : State) : State × Answer :=
  if !(SettingKey.inRange z .zero && SettingKey.inRange sp .span && SettingKey.inRange b .band) then
    (s, answerOnly .badValue)
  else if openLotWeighed s then (s, answerOnly .busy)
  else (calibrate z sp b s, answerOk [])

end Sys2Proof.Machine
end

