-- ==== Sys2Proof/Machine/Reads.lean ====
section
/-! DEFINITION. The reads (READ class) and Fetch Event: the records of section 8.8 and the answers of the owners (R22, R36, R57, R84, R107, R135, R150, R154, R155, R165, R170, R178). -/

namespace Sys2Proof.Machine

open Sys2Proof

/-! ### Reads with a limit (R165) -/

/-- A reply limit is in 16..508 (R165). -/
def limitOk (limit : Nat) : Bool := 16 ≤ limit && limit ≤ 508

/-- A part of a content: the more flag, the continue offset, the fixed part and the content from `offset` on, `count`
elements of it (R165). -/
def readPart (fixed : List Byte) (content : List (List Byte)) (offset count : Nat) : List Byte :=
  let part := (content.drop offset).take count
  let next := if content.length ≤ offset then content.length else offset + part.length
  [yesNo (next < content.length)] ++ le 2 next ++ fixed ++ part.flatten

/-- A read counted in entries of `size` bytes: as many whole entries as fit, the first always (R165). -/
def readEntries (fixed : List Byte) (entries : List (List Byte)) (size offset limit : Nat) : Answer :=
  if limitOk limit then
    answerOk (readPart fixed entries offset (max 1 ((limit - (3 + fixed.length)) / size)))
  else answerOnly .badValue

/-- A read counted in bytes: as many bytes as fit (R165). -/
def readBytes (fixed : List Byte) (bytes : List Byte) (offset limit : Nat) : Answer :=
  if limitOk limit then
    answerOk (readPart fixed (bytes.map (fun b => [b])) offset (limit - (3 + fixed.length)))
  else answerOnly .badValue

/-! ### Records -/

/-- A value that may be absent; an absent field is sent as 0 (section 8.8). -/
def leOpt (n : Nat) (v : Option Nat) : List Byte := le n (v.getD 0)

/-- A step record (33 bytes). -/
def stepRecord (st : Step) : List Byte :=
  le 2 st.id ++ [holdByte (some st.hold), slotByte (some st.slot),
    BitVec.ofNat 8 (bitSet [st.maxLevel.isSome, st.holdReason.isSome, st.cutoffReason.isSome, st.effective.isSome,
      st.shortClosed]),
    st.state.number, BitVec.ofNat 8 (st.maxLevel.getD 0),
    (st.holdReason.map HoldReason.number).getD 0, (st.cutoffReason.map CutoffReason.number).getD 0] ++
  le 8 st.target ++ le 8 st.placed ++ leOpt 8 st.effective

/-- A hatch entry (14 bytes). -/
def hatchRecord (h : Hold) (e : Option Hatch) : List Byte :=
  [holdByte (some h), yesNo e.isSome] ++
  (match e with
   | some e => le 4 e.fore ++ le 4 e.aft ++ leInt 2 e.lever ++ le 2 e.limit
   | none => List.replicate 12 0)

/-- The 24-byte reference field of a lot record and of a bill. DESIGN CHOICE (log entry 30): it holds 0 past the reference
length. -/
def referenceBytes (r : List Byte) : List Byte := (r ++ List.replicate 24 0).take 24

/-- A split list: each split is the hold and the placed mass. -/
def splitBytes (l : List (Hold × Nat)) : List Byte := l.flatMap (fun p => holdByte (some p.1) :: le 8 p.2)

/-- The mass in the line tagged to an account (R22, R140, R154). -/
def massInLine (line : List Entry) (acc : Account) : Nat :=
  ((line.filter (fun e => e.tag == some acc)).map Entry.mass).sum

/-- The sum of an account's splits. -/
def splitSum (l : Ledger) : Nat := (l.splits.map Prod.snd).sum

/-- The balance of an account: weighed mass less splits, reject, spill, unplaced mass and mass in the line (R154). -/
def balance (l : Ledger) (inLine : Nat) : Int :=
  (l.weighed : Int) - splitSum l - l.rejected - l.spilled - l.unplaced - inLine

/-- The fields of a ledger from the opened stamp's neighbours on: the common tail of a lot record. -/
def ledgerTail (l : Ledger) (opened : Option Nat) (inLine : Nat) : List Byte :=
  le 8 l.weighed ++ le 8 l.estimated ++ le 2 l.unweighed ++ le 8 l.rejected ++ le 8 l.spilled ++ le 8 l.unplaced ++
  leOpt 4 opened ++ le 8 inLine ++ leInt 8 (balance l inLine) ++
  [BitVec.ofNat 8 l.splits.length] ++ splitBytes l.splits

/-- The lot record of a slot (100 bytes, then 9 per split). A FREE slot sends its state and zeros. -/
def lotRecord (slot : Slot) (lot : Lot) (inLine : Nat) : List Byte :=
  if lot.isOpen then
    [1, BitVec.ofNat 8 (bitSet [lot.declared.isSome, lot.opened.isSome, lot.ledger.overRange]), slotByte (some slot)] ++
    le 4 lot.number ++ [BitVec.ofNat 8 lot.grade, BitVec.ofNat 8 lot.reference.length] ++
    referenceBytes lot.reference ++ leOpt 4 lot.declared ++ ledgerTail lot.ledger lot.opened inLine
  else List.replicate 100 0

/-- The lot record of the unassigned account, which has no state, number, grade, reference, declared mass or stamp. -/
def unassignedRecord (l : Ledger) (inLine : Nat) : List Byte :=
  [0, BitVec.ofNat 8 (bitSet [false, false, l.overRange]), slotByte none] ++ le 4 0 ++ [0, 0] ++
  referenceBytes [] ++ le 4 0 ++ ledgerTail l none inLine

/-- A bill (115 bytes, then 9 per split). -/
def billRecord (b : Bill) : List Byte :=
  le 4 b.number ++ [slotByte (some b.slot),
    BitVec.ofNat 8 (bitSet [b.declared.isSome, b.opened.isSome, b.closed.isSome, b.ledger.overRange])] ++
  le 4 b.lotNumber ++ [BitVec.ofNat 8 b.grade, BitVec.ofNat 8 b.reference.length] ++ referenceBytes b.reference ++
  leOpt 4 b.declared ++ le 8 b.ledger.weighed ++ le 8 b.ledger.estimated ++ le 2 b.ledger.unweighed ++
  le 8 b.ledger.rejected ++ le 8 b.ledger.spilled ++ le 8 b.ledger.unplaced ++ le 8 b.net ++ le 8 b.tonnage ++
  leOpt 4 b.opened ++ leOpt 4 b.closed ++ le 4 b.calibrationCount ++ le 4 b.callId ++
  [BitVec.ofNat 8 b.ledger.splits.length] ++ splitBytes b.ledger.splits

/-! ### The status record -/

/-- A latch: four codes of 2 bytes in slot order, 0 when empty. -/
def latchBytes : Option Quad → List Byte
  | some q => le 2 q.c0.toNat ++ le 2 q.c1.toNat ++ le 2 q.c2.toNat ++ le 2 q.c3.toNat
  | none => List.replicate 8 0

/-- Elapsed time of a timer in tenths of a second. -/
def tenths (ms : Nat) : Nat := ms / 100

/-- A running timer's tenths in `n` bytes; all ones when it is stopped. -/
def timerBytes (n : Nat) : Option Nat → List Byte
  | some ms => le n (tenths ms)
  | none => List.replicate n 0xFF

/-- Bytes 0 to 35: the converter readout (R36). -/
def converterReadout (s : State) : List Byte :=
  let c := s.converter
  [c.state.number, yesNo s.pins.refOk, c.position.number, BitVec.ofNat 8 c.slot.val, s.store.settings.mask,
    BitVec.ofNat 8 (bitSet [c.latchW.isSome, c.latchD1.isSome, c.latchD2.isSome])] ++
  latchBytes c.latchW ++ latchBytes c.latchD1 ++ latchBytes c.latchD2 ++
  le 2 c.countW ++ le 2 c.countD1 ++ le 2 c.countD2

/-- The trip latch byte and the trip channel byte. -/
def tripBytes : Option TripCause → List Byte
  | none => [0, 0]
  | some (.channel c) => [1, BitVec.ofNat 8 (c.val + 1)]
  | some .holdTime => [2, 0]
  | some .reference => [3, 0]

/-- The eight bytes of one channel. -/
def channelReadout (mask : BitVec 8) (c : ChannelNo) (ch : Channel) : List Byte :=
  [BitVec.ofNat 8 (bitSet [enabled mask c, ch.lastCode.isSome])] ++ le 2 ((ch.lastCode.map BitVec.toNat).getD 0) ++
  le 2 ch.value ++ le 2 ch.filtered ++ [ch.stage.number]

/-- Bytes 36 to 106: the dust readout (R57). -/
def dustReadout (s : State) : List Byte :=
  let d := s.dust
  [d.stage.number] ++ tripBytes d.tripLatch ++
  [match d.highHold with
   | some ms => BitVec.ofNat 8 (ms / 1000)
   | none => 0xFF] ++
  [d.reference.number] ++ timerBytes 1 d.referenceTimer ++
  [BitVec.ofNat 8 (bitSet [d.suppress.spout, d.suppress.boom, d.suppress.tower, d.suppress.gallery])] ++
  allChannels.flatMap (fun c => channelReadout s.store.settings.mask c (d.channels.get c))

/-- The travel request: its kind, and its hold or position in 4 bytes. -/
def requestBytes : Option TravelRequest → List Byte
  | none => 0 :: le 4 0
  | some (.goToHold h) => 1 :: le 4 (holdNumber h)
  | some (.goToPosition x) => 2 :: le 4 x
  | some .reference => 3 :: le 4 0

/-- Bytes 107 to 136: the travel readout (R84). -/
def travelReadout (s : State) : List Byte :=
  let t := s.travel
  [t.state.number, faultCauseByte t.faultCause, yesNo t.stopping, yesNo t.referenced] ++ leInt 4 t.position ++
  [holdByte t.spoutOver] ++ requestBytes t.request ++
  (match t.target with
   | some x => le 4 x
   | none => List.replicate 4 0xFF) ++
  [BitVec.ofNat 8 t.reversals] ++ timerBytes 2 t.travelTimer ++ timerBytes 2 t.runOutTimer ++
  [directionByte t.direction, BitVec.ofNat 8 t.dutyForce, yesNo t.brakeRelease, t.diverter.number,
    BitVec.ofNat 8 t.activePage.val, yesNo t.swapPending,
    BitVec.ofNat 8 (bitSet [s.pins.home, s.pins.limFore, s.pins.limAft])]

/-- Bytes 137 to 173: the governor readout (R135). The committed mass is that of the ACTIVE step, 0 when there is none. -/
def governorReadout (s : State) : List Byte :=
  let g := s.governor
  [g.state.number, BitVec.ofNat 8 g.pauseSet.bits] ++
  (match activeStep s.plan with
   | some st => le 2 st.id ++ leOpt 8 g.effective ++ le 8 (committed s)
   | none => le 2 0 ++ leOpt 8 g.effective ++ le 8 0) ++
  [BitVec.ofNat 8 g.requested, BitVec.ofNat 8 g.ceiling, BitVec.ofNat 8 g.level] ++
  le 4 g.preact ++ le 4 (preactMaxGrams s) ++
  [BitVec.ofNat 8 g.tail, yesNo g.clean, BitVec.ofNat 8 (bitSet [g.deckHold, g.estopLatch, g.presenceLive]),
    yesNo g.feedPermit, BitVec.ofNat 8 g.dutyForce, yesNo g.beltPermit]

/-- Bytes 174 to 185: the plan readout (R107). -/
def planReadout (s : State) : List Byte :=
  let p := s.plan
  [yesNo p.callOpen] ++ le 4 p.callId ++ le 2 p.trimBand ++ le 2 p.revision ++
  (match currentStep p with
   | some st => le 2 st.id ++ [st.state.number]
   | none => le 2 0 ++ [0])

/-- The number of OPEN lots. -/
def openLots (s : State) : Nat := (allSlots.filter (fun i => (s.accounts.lots.get i).isOpen)).length

/-- Bytes 186 to 272: the account readout (R155). -/
def accountReadout (s : State) : List Byte :=
  let a := s.accounts
  [BitVec.ofNat 8 (openLots s)] ++ allSlots.flatMap (fun i => le 4 (a.lots.get i).number) ++ leInt 8 a.moment ++
  [BitVec.ofNat 8 a.bills.length] ++ leOpt 4 (a.bills.head?.map Bill.number) ++ leOpt 4 a.billCounter ++
  le 4 a.seconds ++ [yesNo a.timeValid]

/-- Bytes 273 to 285: the scale state, line total, inputs, DEFAULTED and calibration count. -/
def scaleReadout (s : State) : List Byte :=
  [s.weigher.scale.number] ++ le 4 s.weigher.lineTotal ++
  [yesNo s.pins.estop, yesNo s.pins.beltRun, yesNo s.pins.calUnlock, yesNo s.store.defaulted] ++
  le 4 s.store.calibrationCount

/-- The status record (286 bytes). -/
def statusRecord (s : State) : List Byte :=
  converterReadout s ++ dustReadout s ++ travelReadout s ++ governorReadout s ++ planReadout s ++ accountReadout s ++
  scaleReadout s

/-! ### The transit summary -/

/-- The accounts, in order of lot slot with the unassigned account last. -/
def allAccounts : List Account := allSlots.map Account.lot ++ [.unassigned]

/-- The line by account: each account that has non-zero mass in the line, with that mass (R22). -/
def lineByAccount (line : List Entry) : List (Account × Nat) :=
  (allAccounts.map (fun a => (a, massInLine line a))).filter (fun p => p.2 != 0)

/-- The slot of an account; the unassigned account has none. -/
def Account.slot? : Account → Option Slot
  | .lot i => some i
  | .unassigned => none

/-- The transit summary (39 bytes, then 5 per pair; R22). -/
def transitRecord (s : State) : List Byte :=
  let x := s.store.settings
  let w := s.weigher
  let pairs := lineByAccount w.line
  le 2 x.lineLength ++ le 2 x.segmentLength ++
  [BitVec.ofNat 8 x.pulsesPerSegment, BitVec.ofNat 8 x.tailSegments] ++
  le 2 x.zero ++ le 2 x.span ++ [BitVec.ofNat 8 x.band] ++ le 4 s.store.calibrationCount ++
  [w.scale.number, BitVec.ofNat 8 w.holdLast, w.input.number, BitVec.ofNat 8 w.pulseCount] ++
  le 4 w.segmentCount ++ le 4 w.lastMean ++ le 4 w.lineTotal ++
  le 2 (w.line.filter (fun e => e.mass != 0)).length ++ [slotByte w.weighingLot] ++
  (match w.weighingLot with
   | some i => le 4 (s.accounts.lots.get i).number
   | none => le 4 0) ++
  [BitVec.ofNat 8 pairs.length] ++ pairs.flatMap (fun p => slotByte p.1.slot? :: le 4 p.2)

/-! ### The holds read -/

/-- The 22 bytes of one hold. -/
def holdRecord (s : State) (h : Hold) : List Byte :=
  [holdByte (some h)] ++
  (match s.travel.activeMap.get h with
   | some e => [1] ++ le 8 (s.accounts.credited.get h) ++ leInt 2 e.lever ++ le 2 e.limit ++ le 8 (holdRoom s h)
   | none => [0] ++ le 8 (s.accounts.credited.get h) ++ List.replicate 12 0)

/-- The holds read (187 bytes; R154). -/
def holdsRecord (s : State) : List Byte :=
  allHolds.flatMap (holdRecord s) ++ leInt 8 s.accounts.moment ++ [BitVec.ofNat 8 s.travel.activePage.val] ++
  le 2 s.plan.trimBand

/-! ### Events -/

/-- The detail bytes of an event (section 8.8). -/
def Event.detail : Event → List Byte
  | .estop released => [yesNo released]
  | .dustTrip (.channel c) => [0, BitVec.ofNat 8 (c.val + 1)]
  | .dustTrip .holdTime => [1, 0]
  | .dustTrip .reference => [2, 0]
  | .spill (some (id, h)) => le 2 id ++ [holdByte (some h)]
  | .spill none => le 2 0 ++ [0]
  | .scaleFault => []
  | .travelFault c => [c.number]
  | .feedPaused r => [r.number]
  | .stepHeld id r => le 2 id ++ [r.number]
  | .stepDone id f placed => le 2 id ++ [f.number] ++ le 8 placed
  | .dustStage g => [g.number]
  | .travelDone a o => [yesNo a, holdByte o]
  | .planChanged r => le 2 r
  | .pageSwapped p => [BitVec.ofNat 8 p.val]
  | .billIssued n => le 4 n
  | .rights st code => [stationNumber st, code]
  | .settingsDefaulted => []
  | .coldStart m => le 8 m

/-- The event record (14 bytes): kind, count and detail, unused bytes 0; kind NONE for an empty set (R170). -/
def eventRecord : Option PendingEvent → List Byte
  | some p => [BitVec.ofNat 8 p.event.kind, BitVec.ofNat 8 p.count] ++ (p.event.detail ++ List.replicate 12 0).take 12
  | none => List.replicate 14 0

/-! ### The owners' answers -/

/-- Read Status (R36, R57, R84, R107, R135, R155). -/
def ownReadStatus (s : State) : State × Answer := (s, answerOk (statusRecord s))

/-- The fixed part of Read Plan (13 bytes; R107). -/
def planFixed (p : Plan) : List Byte :=
  [yesNo p.callOpen] ++ le 4 p.callId ++ le 2 p.trimBand ++ le 2 p.revision ++ [BitVec.ofNat 8 p.steps.length] ++
  (match currentStep p with
   | some st => BitVec.ofNat 8 (currentPosition p) :: le 2 st.id
   | none => 0 :: le 2 0)

/-- Read Plan (R107, R165). -/
def ownReadPlan (offset limit : Nat) (s : State) : State × Answer :=
  (s, readEntries (planFixed s.plan) (s.plan.steps.map stepRecord) 33 offset limit)

/-- The position of the step of an id, counted from 1. -/
def stepPosition (p : Plan) (id : Nat) : Nat := p.steps.findIdx (fun st => st.id == id) + 1

/-- Read Step (R107). -/
def ownReadStep (id : Nat) (s : State) : State × Answer :=
  (s, match stepOf s.plan id with
    | some st => answerOk (stepRecord st ++ [BitVec.ofNat 8 (stepPosition s.plan id)] ++ le 2 s.plan.revision)
    | none => answerOnly .notFound)

/-- Read Lot (R154, R165); FFh names the unassigned account. -/
def ownReadLot (slot offset limit : Nat) (s : State) : State × Answer :=
  (s, match slotOf slot with
    | some i =>
      readBytes [] (lotRecord i (s.accounts.lots.get i) (massInLine s.weigher.line (.lot i))) offset limit
    | none =>
      if slot = 0xFF then
        readBytes [] (unassignedRecord s.accounts.unassigned (massInLine s.weigher.line .unassigned)) offset limit
      else answerOnly .badValue)

/-- Read Holds (R154). -/
def ownReadHolds (s : State) : State × Answer := (s, answerOk (holdsRecord s))

/-- The page that a Read Hatch Map names: 0, 1, or FFh for the active page. -/
def pageOf (t : Travel) (n : Nat) : Option Page :=
  if n = 0 then some 0 else if n = 1 then some 1 else if n = 0xFF then some t.activePage else none

/-- Read Hatch Map (R84, R165). -/
def ownReadHatchMap (page offset limit : Nat) (s : State) : State × Answer :=
  (s, match pageOf s.travel page with
    | some p =>
      readEntries
        [BitVec.ofNat 8 p.val, BitVec.ofNat 8 s.travel.activePage.val, yesNo s.travel.swapPending]
        (allHolds.map (fun h => hatchRecord h ((s.travel.pages.get p).get h))) 14 offset limit
    | none => answerOnly .badValue)

/-- The bill that a Read Bill names: by number, 0 for the oldest (R150). -/
def billNamed (a : Accounts) (n : Nat) : Option Bill :=
  if n = 0 then a.bills.head? else a.bills.find? (fun b => b.number == n)

/-- Read Bill (R150, R165). The limit is tested first (log entry 16). -/
def ownReadBill (n offset limit : Nat) (s : State) : State × Answer :=
  (s, if limitOk limit then
      match billNamed s.accounts n with
      | some b =>
        readBytes (le 4 b.number ++ [BitVec.ofNat 8 s.accounts.bills.length]) (billRecord b) offset limit
      | none => answerOnly .notFound
    else answerOnly .badValue)

/-- Read Transit (R22). -/
def ownReadTransit (s : State) : State × Answer := (s, answerOk (transitRecord s))

/-- The entry of one setting in Read Settings: identifier and value, 6 bytes (R178). -/
def settingEntry (s : State) (k : SettingKey) : List Byte :=
  le 2 k.identifier ++ le 4 (settingValue s.store.settings s.governor.preact k)

/-- Read Settings (R178, R165). -/
def ownReadSettings (offset limit : Nat) (s : State) : State × Answer :=
  (s, readEntries
    ([yesNo s.store.defaulted] ++ le 4 s.store.calibrationCount ++ le 2 s.store.checkWord.toNat)
    (allKeys.map (settingEntry s)) 6 offset limit)

/-- The set after its entry of highest priority is fetched; ATTN follows (R170, R171). -/
def EventSet.fetch (x : EventSet) : EventSet := { entries := x.entries.tail, attn := !x.entries.tail.isEmpty }

/-- Fetch Event, of the station whose port takes it (R170). -/
def ownFetchEvent (st : Station) (s : State) : State × Answer :=
  let x := s.events.get st
  match x.entries with
  | [] => (s, answerOk (eventRecord none))
  | p :: _ => ({ s with events := s.events.set x.fetch st }, answerOk (eventRecord (some p)))

end Sys2Proof.Machine
end

