-- ==== Sys2Proof/Machine/Requests.lean ====
section
/-! DEFINITION. The owners' judgement of the POUR, TRAVEL, HOLD POUR, PLAN, HATCH and LOT requests (chapters 03 to 07): each gives the state after the request and the answer. -/

namespace Sys2Proof.Machine

open Sys2Proof

/-! ### POUR requests -/

/-- The tests of Start Step on the current step's surroundings, in R111's order. -/
def startRefusal (st : Step) (s : State) : Option Answer :=
  firstOf
    [(st.state == .held && (st.holdReason == some .trim || st.holdReason == some .holdFull ||
        st.holdReason == some .scale || st.holdReason == some .power), answerNotReady .heldForDeck),
     (s.store.defaulted, answerNotReady .defaulted),
     (s.pins.estop || s.governor.estopLatch, answerNotReady .estop),
     (s.travel.state != .parked, answerNotReady .travelNotParked),
     (s.travel.spoutOver != some st.hold, answerNotReady .notOverHold),
     (s.travel.diverter == .reject, answerNotReady .diverterReject),
     (s.weigher.lineTotal != 0, answerNotReady .lineNotClear),
     (!s.pins.beltRun, answerNotReady .beltNotRunning),
     (s.dust.stage == .high || s.dust.stage == .trip, answerNotReady .dust),
     (s.governor.deckHold, answerNotReady .deckHold),
     (s.weigher.scale == .scaleFault, answerNotReady .scaleFault)]

/-- The Start Step reply data: step id, state, hold reason or FFh, effective target and revision (section 8.8). -/
def startReply (id : Nat) (state : StepState) (r : Option HoldReason) (eff : Nat) (revision : Nat) : Answer :=
  answerOk (le 2 id ++ [state.number, (r.map HoldReason.number).getD 0xFF] ++ le 8 eff ++ le 2 revision)

/-- A step that passes R113 is started (R114). -/
def startPour (st : Step) (eff : Nat) (s : State) : State :=
  let s1 := stepStarted st.id eff s
  openGate .ramping { s1 with
    weigher := { s1.weigher with weighingLot := some st.slot }
    governor := { s1.governor with effective := some eff, tail := 0, clean := true } }

/-- The outcome of a start whose tests have passed (R112, R113, R114). -/
def judgedStart (st : Step) (s : State) : State × Answer :=
  let eff := effectiveTarget s st
  match judgeStart (targetTerms s st) st.placed (minimumPourGrams s) with
  | .start =>
    let s1 := startPour st eff s
    (s1, startReply st.id .active none eff s1.plan.revision)
  | .targetMet => (s, answerNotReady .targetMet)
  | .heldFor r =>
    let s1 := heldAtStart st.id eff r s
    (s1, startReply st.id .held (some r) eff s1.plan.revision)

/-- Start Step (R111). -/
def ownStartStep (revision : Nat) (s : State) : State × Answer :=
  match firstOf
    [(!s.plan.callOpen, answerNotReady .noCall),
     (revision != s.plan.revision, answerOnly .stalePlan),
     (s.governor.state != .idle, answerOnly .busy)] with
  | some a => (s, a)
  | none =>
    match currentStep s.plan with
    | none => (s, answerNotReady .noStep)
    | some st =>
      match startRefusal st s with
      | some a => (s, a)
      | none => judgedStart st s

/-- The tests of Resume, in R124's order. -/
def resumeRefusal (s : State) : Option Answer :=
  firstOf
    [(!s.plan.callOpen, answerNotReady .noCall),
     (s.governor.state == .idle, answerNotReady .noActiveStep),
     (s.governor.state != .paused, answerOnly .busy),
     (s.governor.pauseSet.estop || s.pins.estop, answerNotReady .estop),
     (s.dust.stage == .high || s.dust.stage == .trip, answerNotReady .dust),
     (s.governor.deckHold, answerNotReady .deckHold),
     (!s.pins.beltRun, answerNotReady .beltNotRunning)]

/-- An accepted Resume: the pause set is emptied, and the step is cut off, dribbles or ramps (R124). -/
def resumeFeed (s : State) : State :=
  let s1 := { s with governor := { s.governor with pauseSet := PauseSet.empty } }
  if reachedCutoff s1 then recomputeCeiling (cutoff .target s1)
  else if reachedDribble s1 then openGate .dribble s1
  else openGate .ramping s1

/-- Resume (R124). DESIGN CHOICE (log entry 31): the reply of a Resume whose cutoff completes at once carries the state that
the governor is then in, IDLE. -/
def ownResume (s : State) : State × Answer :=
  match resumeRefusal s with
  | some a => (s, a)
  | none => (resumeFeed s, answerOk [(resumeFeed s).governor.state.number])

/-- Stop Step (R125). -/
def ownStopStep (s : State) : State × Answer :=
  if !s.plan.callOpen then (s, answerNotReady .noCall)
  else match s.governor.state with
    | .idle => (s, answerNotReady .noActiveStep)
    | .cutoff => (s, answerOk [GovernorState.cutoff.number])
    | _ => (cutoff .operator s, answerOk [(cutoff .operator s).governor.state.number])

/-- Set Feed Level (R115). -/
def ownSetFeedLevel (level : Nat) (s : State) : State × Answer :=
  if 10 ≤ level ∧ level ≤ 100 then
    (recomputeCeiling { s with governor := { s.governor with requested := level } }, answerOk [])
  else (s, answerOnly .badValue)

/-- Presence (R126): its frame has already restarted the timer. -/
def ownPresence (s : State) : State × Answer := (s, answerOk [])

/-- Acknowledge Trip (R55). -/
def ownAcknowledgeTrip (s : State) : State × Answer :=
  match firstOf
    [(s.dust.reference == .fault, answerNotReady .referenceFault),
     ((s.dust.firstIn s.store.settings.mask .fault).isSome, answerNotReady .channelFault),
     ((s.dust.firstIn s.store.settings.mask .high).isSome, answerNotReady .channelHigh)] with
  | some a => (s, a)
  | none =>
    if s.dust.tripLatch.isSome then
      (recomputeStage { s with dust := { s.dust with tripLatch := none } }, answerOk [])
    else (s, answerOk [])

/-- Clear Stop (R133). -/
def ownClearStop (s : State) : State × Answer :=
  if s.pins.estop then (s, answerNotReady .estop)
  else
    (stopCleared { s with governor :=
      { s.governor with estopLatch := false, pauseSet := { s.governor.pauseSet with estop := false } } }, answerOk [])

/-! ### TRAVEL requests -/

/-- Go To Hold (R69, R70). -/
def ownGoToHold (hold : Nat) (s : State) : State × Answer :=
  match holdOf hold with
  | none => (s, answerOnly .badValue)
  | some h =>
    match travelRefusal true s with
    | some a => (s, a)
    | none =>
      if (s.travel.activeMap.get h).isNone then (s, answerOnly .notFound)
      else acceptTravel (.goToHold h) s

/-- Go To Position (R69, R70). -/
def ownGoToPosition (x : Nat) (s : State) : State × Answer :=
  if s.store.settings.railLength < x then (s, answerOnly .badValue)
  else match travelRefusal true s with
    | some a => (s, a)
    | none => acceptTravel (.goToPosition x) s

/-- Reference Travel (R69, R70). -/
def ownReferenceTravel (s : State) : State × Answer :=
  match travelRefusal false s with
  | some a => (s, a)
  | none => acceptTravel .reference s

/-- Cancel Travel (R79). -/
def ownCancelTravel (s : State) : State × Answer :=
  match s.travel.state with
  | .moving => (cancelMotion s, answerOk [])
  | .creeping => (cancelMotion s, answerOk [])
  | .referencing => (cancelMotion s, answerOk [])
  | .pending =>
    ({ s with travel := { s.travel with runOutTimer := none, request := none, state := s.travel.beforePending } },
      answerOk [])
  | _ => (s, answerOk [])

/-- Clear Travel Fault (R78). -/
def ownClearTravelFault (s : State) : State × Answer :=
  if s.travel.state = .fault then
    ({ s with travel := { s.travel with faultCause := none, state := s.travel.restState } }, answerOk [])
  else (s, answerOk [])

/-- The diverter value of a request byte: 0 NORMAL, 1 REJECT (section 8.8). -/
def diverterOf (n : Nat) : Option Diverter :=
  if n = 0 then some .normal else if n = 1 then some .reject else none

/-- An accepted Set Diverter; REJECT starts a motion that waits in PENDING (R70, R83). -/
def divert (v : Diverter) (s : State) : State :=
  let s1 := { s with travel := { s.travel with diverter := v } }
  if v = .reject ∧ s.travel.state = .pending then startMotion s1 else s1

/-- Set Diverter (R83). -/
def ownSetDiverter (value : Nat) (s : State) : State × Answer :=
  match diverterOf value with
  | none => (s, answerOnly .badValue)
  | some v =>
    if stepActive s then (s, answerOnly .busy)
    else if v = .normal ∧ s.travel.state.inMotion = true ∧ s.weigher.lineTotal ≠ 0 then (s, answerOnly .busy)
    else (divert v s, answerOk [])

/-! ### HOLD POUR requests -/

/-- Hold Pour (R127). -/
def ownHoldPour (s : State) : State × Answer :=
  if s.governor.deckHold then (s, answerOk [1])
  else (pauseCause .deckHold { s with governor := { s.governor with deckHold := true } }, answerOk [1])

/-- Release Pour (R127). -/
def ownReleasePour (s : State) : State × Answer :=
  ({ s with governor := { s.governor with deckHold := false } }, answerOk [0])

/-! ### PLAN requests -/

/-- Open Call (R88). -/
def ownOpenCall (id : Nat) (band : Option Nat) (s : State) : State × Answer :=
  if s.plan.callOpen then (s, answerOnly .busy)
  else if id = 0 ∨ band = some 0 then (s, answerOnly .badValue)
  else
    let s1 := bumpRevision { s with plan :=
      { s.plan with callOpen := true, callId := id, trimBand := band.getD 1000 } }
    (s1, answerOk (le 4 id ++ le 2 (band.getD 1000) ++ le 2 s1.plan.revision))

/-- A step of the plan is ACTIVE or HELD (R89). -/
def planBusy (p : Plan) : Bool := p.steps.any (fun st => st.state == .active || st.state == .held)

/-- Item 1 of R90: the plan is emptied and the call closed; the trim band and the step id counter keep their values. -/
def emptyPlan (s : State) : State :=
  { s with plan := { s.plan with steps := [], callOpen := false, callId := 0 } }

/-- The Account Store at Close Call (R153). -/
def clearHolds (s : State) : State :=
  { s with accounts :=
    { s.accounts with credited := Vector.replicate 8 0, moment := 0, unassigned := Ledger.empty } }

/-- The Travel Controller at Close Call (R65). -/
def clearPages (s : State) : State :=
  { s with travel :=
    { s.travel with pages := Vector.replicate 2 HatchPage.empty, swapPending := false, spoutOver := none } }

/-- The weighing lot becomes NONE (R19). -/
def clearWeighingLot (s : State) : State := { s with weigher := { s.weigher with weighingLot := none } }

/-- Close Call (R89, R90). Its reply carries the new revision (R94). -/
def ownCloseCall (s : State) : State × Answer :=
  match firstOf
    [(!s.plan.callOpen, answerNotReady .noCall),
     (planBusy s.plan, answerOnly .busy),
     (s.weigher.lineTotal != 0, answerOnly .busy),
     (openLots s != 0, answerOnly .busy)] with
  | some a => (s, a)
  | none =>
    let s1 := clearWeighingLot (clearPages (clearHolds (bumpRevision (emptyPlan s))))
    (s1, answerOk (le 2 s1.plan.revision))

/-- Set Trim Band (R91). -/
def ownSetTrimBand (band : Nat) (s : State) : State × Answer :=
  if !s.plan.callOpen then (s, answerNotReady .noCall)
  else if band = 0 then (s, answerOnly .badValue)
  else if band = s.plan.trimBand then (s, answerOk (le 2 band ++ le 2 s.plan.revision))
  else
    let s1 := bumpRevision { s with plan := { s.plan with trimBand := band } }
    let s2 := if stepActive s1 then reEvaluate s1 else s1
    (s2, answerOk (le 2 band ++ le 2 s2.plan.revision))

/-- The step id after one, wrapping from 65535 to 1 (R98). -/
def nextId (id : Nat) : Nat := if id < 65535 then id + 1 else 1

/-- The first id not in the plan, tried from the counter on, within `fuel` tries (R98). -/
def freeId (p : Plan) : Nat → Nat → Nat
  | 0, id => id
  | fuel + 1, id => if (stepOf p id).isSome then freeId p fuel (nextId id) else id

/-- The lowest position that Insert Step allows (R97). -/
def lowestPosition (p : Plan) : Nat :=
  match currentStep p with
  | none => p.steps.length + 1
  | some st => if st.state = .pending then currentPosition p else currentPosition p + 1

/-- Insert Step's tests, in R97's order. -/
def insertRefusal (position hold slot target maxLevel : Nat) (s : State) : Option Answer :=
  firstOf
    [(!s.plan.callOpen, answerNotReady .noCall),
     ((holdOf hold).isNone || (slotOf slot).isNone || !(decide (1 ≤ target) && decide (target ≤ 20000)) ||
        !(maxLevel == 0 || (decide (10 ≤ maxLevel) && decide (maxLevel ≤ 100))), answerOnly .badValue),
     (match slotOf slot with
      | some i => !(s.accounts.lots.get i).isOpen
      | none => true, answerOnly .badValue),
     (!(decide (lowestPosition s.plan ≤ position) && decide (position ≤ s.plan.steps.length + 1)),
        answerOnly .badValue),
     (decide (48 ≤ s.plan.steps.length), answerOnly .full)]

/-- A new step record (R97). -/
def newStep (id : Nat) (h : Hold) (slot : Slot) (target maxLevel : Nat) : Step :=
  { id := id, hold := h, slot := slot, target := target * gramsPerTonne,
    maxLevel := if maxLevel = 0 then none else some maxLevel, state := .pending, holdReason := none,
    cutoffReason := none, placed := 0, effective := none, shortClosed := false }

/-- Insert Step (R97, R98). DESIGN CHOICE (log entry 20): the step position takes 1 byte of the reply, as in the request. -/
def ownInsertStep (position hold slot target maxLevel : Nat) (s : State) : State × Answer :=
  match insertRefusal position hold slot target maxLevel s, holdOf hold, slotOf slot with
  | none, some h, some i =>
    let id := freeId s.plan 49 s.plan.stepIdCounter
    let s1 := bumpRevision { s with plan :=
      { s.plan with
        steps := s.plan.steps.take (position - 1) ++ [newStep id h i target maxLevel] ++
          s.plan.steps.drop (position - 1)
        stepIdCounter := nextId id } }
    (s1, answerOk (le 2 id ++ [BitVec.ofNat 8 position] ++ le 2 s1.plan.revision))
  | some a, _, _ => (s, a)
  | _, _, _ => (s, answerOnly .badValue)

/-- The maximum level after Modify Step: 0 leaves it unchanged, FFh removes it (section 8.8). -/
def modifiedLevel (level : Nat) (old : Option Nat) : Option Nat :=
  if level = 0 then old else if level = 0xFF then none else some level

/-- The step record after Modify Step; a target of 0 leaves it unchanged (R99, section 8.8). -/
def Step.modify (st : Step) (target level : Nat) : Step :=
  { st with
    target := if target = 0 then st.target else target * gramsPerTonne
    maxLevel := modifiedLevel level st.maxLevel }

/-- The values of Modify Step are malformed (R99). -/
def modifyMalformed (target level : Nat) : Bool :=
  (target == 0 && level == 0) || decide (20000 < target) ||
  !(level == 0 || level == 0xFF || (decide (10 ≤ level) && decide (level ≤ 100)))

/-- An accepted Modify Step (R99). -/
def modifyPlan (st : Step) (target level : Nat) (s : State) : State :=
  let s1 := { s with plan := s.plan.updateId st.id (fun x => x.modify target level) }
  let s2 := if st.modify target level = st then s1 else bumpRevision s1
  if st.state = .active then reEvaluate s2 else s2

/-- The reply data of Modify Step: the step record as stored and the revision (R99). -/
def modifyReply (id : Nat) (s : State) : Answer :=
  answerOk ((match stepOf s.plan id with
    | some st => stepRecord st
    | none => []) ++ le 2 s.plan.revision)

/-- Modify Step (R99). -/
def ownModifyStep (id target level : Nat) (s : State) : State × Answer :=
  if !s.plan.callOpen then (s, answerNotReady .noCall)
  else if modifyMalformed target level then (s, answerOnly .badValue)
  else match stepOf s.plan id with
    | none => (s, answerOnly .notFound)
    | some st =>
      if st.unfinished then (modifyPlan st target level s, modifyReply id (modifyPlan st target level s))
      else (s, answerOnly .busy)

/-- Delete Step (R100). -/
def ownDeleteStep (id : Nat) (s : State) : State × Answer :=
  if !s.plan.callOpen then (s, answerNotReady .noCall)
  else match stepOf s.plan id with
    | none => (s, answerOnly .notFound)
    | some st =>
      if st.state = .pending then
        let s1 := bumpRevision { s with plan :=
          { s.plan with steps := s.plan.steps.filter (fun x => x.id != id) } }
        (s1, answerOk (le 2 s1.plan.revision))
      else (s, answerOnly .busy)

/-- Cancel Step of a PENDING or HELD step (R101). -/
def cancelWaiting (st : Step) (s : State) : State :=
  raise (.stepDone st.id .cancelled st.placed) (bumpRevision { s with
    plan := s.plan.updateId st.id (fun x => { x with state := .cancelled, holdReason := none, effective := none }) })

/-- Cancel Step of the ACTIVE step (R102). -/
def cancelActive (st : Step) (s : State) : State :=
  if st.cutoffReason = some .deck then s
  else cancelNotice (recordCutoff .deck s)

/-- Cancel Step (R101, R102). The reply for an ACTIVE step is its state ACTIVE, the cutoff reason DECK and the revision as it
stands after the request (R94; log entry 20). -/
def ownCancelStep (id : Nat) (s : State) : State × Answer :=
  if !s.plan.callOpen then (s, answerNotReady .noCall)
  else match stepOf s.plan id with
    | none => (s, answerOnly .notFound)
    | some st =>
      match st.state with
      | .done => (s, answerOnly .busy)
      | .cancelled => (s, answerOnly .busy)
      | .active =>
        let s1 := cancelActive st s
        (s1, answerOk ([StepState.active.number, CutoffReason.deck.number] ++ le 2 s1.plan.revision))
      | _ =>
        let s1 := cancelWaiting st s
        (s1, answerOk ([StepState.cancelled.number] ++ le 2 s1.plan.revision))

/-- Close Step Short (R103). -/
def ownCloseStepShort (id : Nat) (s : State) : State × Answer :=
  if !s.plan.callOpen then (s, answerNotReady .noCall)
  else match stepOf s.plan id with
    | none => (s, answerOnly .notFound)
    | some st =>
      if st.state = .held then
        let s1 := raise (.stepDone st.id .shortClosed st.placed) (bumpRevision { s with
          plan := s.plan.updateId id (fun x =>
            { x with state := .done, shortClosed := true, holdReason := none, effective := none }) })
        (s1, answerOk (le 2 s1.plan.revision))
      else (s, answerOnly .busy)

/-- Release Hold (R104). Its reply carries the revision after the request (R94). -/
def ownReleaseHold (id : Nat) (s : State) : State × Answer :=
  if !s.plan.callOpen then (s, answerNotReady .noCall)
  else match stepOf s.plan id with
    | none => (s, answerOnly .notFound)
    | some st =>
      if st.state = .held then
        if st.holdReason.isSome then
          let s1 := bumpRevision { s with plan := s.plan.updateId id (fun x => { x with holdReason := none }) }
          (s1, answerOk (le 2 s1.plan.revision))
        else (s, answerOk (le 2 s.plan.revision))
      else (s, answerOnly .busy)

/-! ### HATCH requests -/

/-- The page of a number, none unless 0 or 1. -/
def pageNumber (n : Nat) : Option Page := if n = 0 then some 0 else if n = 1 then some 1 else none

/-- The fields of a present entry are in range (section 4.1). -/
def hatchInRange (e : Hatch) : Bool :=
  decide (e.fore ≤ 250000) && decide (e.aft ≤ 250000) && decide (-999 ≤ e.lever) && decide (e.lever ≤ 999) &&
  decide (e.limit ≤ 20000)

/-- The tests of a present entry's place on its page (R61). -/
def hatchMisplaced (p : Page) (h : Hold) (e : Hatch) (s : State) : Bool :=
  let x := s.store.settings
  decide (e.aft ≤ e.fore) || decide (x.railLength < e.aft) || !e.windowOk x.pourMargin ||
  (s.travel.pages.get p).clashes x.pourMargin h e

/-- The entry that a Write Hatch Entry body carries: `some none` is the mark "absent" (section 8.8). -/
def carriedEntry (present fore aft : Nat) (lever : Int) (limit : Nat) : Option (Option Hatch) :=
  if present = 0 then some none
  else if present = 1 then some (some { fore := fore, aft := aft, lever := lever, limit := limit })
  else none

/-- An entry is written on a page. -/
def writeEntry (p : Page) (h : Hold) (e : Option Hatch) (s : State) : State :=
  { s with travel := { s.travel with pages := s.travel.pages.set p ((s.travel.pages.get p).set h e) } }

/-- Write Hatch Entry (R61). -/
def ownWriteHatchEntry (page hold present fore aft : Nat) (lever : Int) (limit : Nat) (s : State) : State × Answer :=
  if !s.plan.callOpen then (s, answerNotReady .noCall)
  else match pageNumber page, holdOf hold, carriedEntry present fore aft lever limit with
    | some p, some h, some e =>
      match firstOf
        [((match e with
           | some e => !hatchInRange e
           | none => false), answerOnly .badValue),
         (p == s.travel.activePage, answerOnly .busy),
         (s.travel.swapPending, answerOnly .busy),
         ((match e with
           | some e => hatchMisplaced p h e s
           | none => false), answerOnly .badValue)] with
      | some a => (s, a)
      | none => (writeEntry p h e s, answerOk (hatchRecord h e))
    | _, _, _ => (s, answerOnly .badValue)

/-- The inactive page. -/
def Travel.inactiveMap (t : Travel) : HatchPage := t.pages.get (otherPage t.activePage)

/-- The inactive page lacks the entry of the current step's hold (R62). -/
def swapLacksHold (s : State) : Bool :=
  match currentStep s.plan with
  | some st => (s.travel.inactiveMap.get st.hold).isNone
  | none => false

/-- Request Swap (R62): the reply says whether the swap is pending (1) or was taken at once (0). -/
def ownRequestSwap (s : State) : State × Answer :=
  match firstOf
    [(!s.plan.callOpen, answerNotReady .noCall),
     (s.travel.swapPending, answerOnly .busy),
     (swapLacksHold s, answerOnly .badValue)] with
  | some a => (s, a)
  | none =>
    let s1 := swapTest { s with travel := { s.travel with swapPending := true } }
    (s1, answerOk [yesNo s1.travel.swapPending])

/-- Cancel Swap (R64). -/
def ownCancelSwap (s : State) : State × Answer :=
  if !s.plan.callOpen then (s, answerNotReady .noCall)
  else ({ s with travel := { s.travel with swapPending := false } }, answerOk [])

/-! ### LOT requests -/

/-- The reference characters of an Open Lot body: the first `length` bytes of its field; later bytes are ignored
(section 8.8). -/
def carriedReference (length : Nat) (field : List Byte) : List Byte := field.take length

/-- The values of Open Lot are malformed (R138). -/
def openLotMalformed (number grade length : Nat) (field : List Byte) (declared : Nat) : Bool :=
  number == 0 || grade == 0 || length == 0 || decide (24 < length) ||
  (carriedReference length field).any (fun c => decide (c.toNat < 0x20) || decide (0x7E < c.toNat)) ||
  decide (999999999 < declared)

/-- The OPEN slot that carries a lot number. -/
def slotOfLot (s : State) (number : Nat) : Option Slot :=
  allSlots.find? (fun i => (s.accounts.lots.get i).isOpen && (s.accounts.lots.get i).number == number)

/-- The lowest-numbered FREE slot (R139). -/
def freeSlot (s : State) : Option Slot := allSlots.find? (fun i => !(s.accounts.lots.get i).isOpen)

/-- A time stamp: the seconds counter, absent while the time is not valid (R139, R146). -/
def stamp (a : Accounts) : Option Nat := if a.timeValid then some a.seconds else none

/-- A slot replaced. -/
def setLot (i : Slot) (l : Lot) (s : State) : State :=
  { s with accounts := { s.accounts with lots := s.accounts.lots.set i l } }

/-- Open Lot (R138, R139). -/
def ownOpenLot (number grade length : Nat) (field : List Byte) (declared : Nat) (s : State) : State × Answer :=
  if openLotMalformed number grade length field declared then (s, answerOnly .badValue)
  else if (slotOfLot s number).isSome then (s, answerOnly .badValue)
  else match freeSlot s with
    | none => (s, answerOnly .full)
    | some i =>
      let l : Lot :=
        { isOpen := true, number := number, grade := grade, reference := carriedReference length field
          declared := if declared = 0 then none else some declared, opened := stamp s.accounts
          ledger := Ledger.empty }
      (setLot i l s, answerOk ([slotByte (some i), yesNo l.opened.isSome] ++ leOpt 4 l.opened))

/-- An unfinished step of the plan names a slot (R145). -/
def slotPlanned (p : Plan) (i : Slot) : Bool := p.steps.any (fun st => st.unfinished && st.slot == i)

/-- The line holds an entry of non-zero mass tagged to a slot (R145). -/
def slotInLine (w : Weigher) (i : Slot) : Bool := w.line.any (fun e => e.mass != 0 && e.tag == some (.lot i))

/-- The bill formed from a lot record (R146). -/
def formBill (number : Nat) (i : Slot) (l : Lot) (s : State) : Bill :=
  { number := number, slot := i, lotNumber := l.number, grade := l.grade, reference := l.reference
    declared := l.declared, ledger := l.ledger, net := l.ledger.weighed - l.ledger.rejected
    tonnage := (l.ledger.weighed - l.ledger.rejected + 500) / 1000, opened := l.opened
    closed := stamp s.accounts, calibrationCount := s.store.calibrationCount, callId := s.plan.callId }

/-- The counter after a bill, EXHAUSTED after the last number (R148). -/
def nextBill (n : Nat) : Option Nat := if n < max32 then some (n + 1) else none

/-- An accepted Close Lot: the bill is stored, the slot becomes FREE, the weighing lot is cleared if it names the slot, and
BILL_ISSUED is raised (R146, R147). -/
def issueBill (number : Nat) (i : Slot) (b : Bill) (s : State) : State :=
  let s1 := setLot i Lot.free { s with accounts :=
    { s.accounts with bills := s.accounts.bills ++ [b], billCounter := nextBill number } }
  let s2 := if s.weigher.weighingLot = some i then clearWeighingLot s1 else s1
  raise (.billIssued number) s2

/-- Close Lot (R145, R146, R147). DESIGN CHOICE (log entry 20): the tonnage takes 8 bytes of the reply, as in the bill's
layout. -/
def ownCloseLot (number : Nat) (s : State) : State × Answer :=
  if number = 0 then (s, answerOnly .badValue)
  else match slotOfLot s number with
    | none => (s, answerOnly .notFound)
    | some i =>
      match firstOf
        [(slotPlanned s.plan i, answerOnly .busy),
         (slotInLine s.weigher i, answerOnly .busy),
         (decide (32 ≤ s.accounts.bills.length), answerOnly .full)], s.accounts.billCounter with
      | some a, _ => (s, a)
      | none, none => (s, answerOnly .full)
      | none, some n =>
        let b := formBill n i (s.accounts.lots.get i) s
        (issueBill n i b s, answerOk (le 4 b.number ++ le 8 b.net ++ le 8 b.tonnage))

/-- Release Bill (R151). -/
def ownReleaseBill (n : Nat) (s : State) : State × Answer :=
  if n = 0 then (s, answerOnly .badValue)
  else if s.accounts.bills.any (fun b => b.number == n) then
    let kept := s.accounts.bills.filter (fun b => b.number != n)
    ({ s with accounts := { s.accounts with bills := kept } }, answerOk [BitVec.ofNat 8 kept.length])
  else (s, answerOnly .notFound)

/-- Set Time (R152): the one-second clock restarts its second. -/
def ownSetTime (seconds : Nat) (s : State) : State × Answer :=
  ({ s with accounts := { s.accounts with seconds := seconds, timeValid := true, second := some 0 } },
    answerOk (le 4 seconds))

end Sys2Proof.Machine
end

