-- ==== Sys2Proof/Machine/Operands.lean ====
section
/-! DEFINITION. The request codes, classes, rights and body lengths of section 8.8 and R164, and the reading of a request body into its owner's judgement. -/

namespace Sys2Proof.Machine

open Sys2Proof

/-- The requests of section 8.8. -/
inductive Request where
  | readStatus | readPlan | readStep | readLot | readHolds | readHatchMap | readBill | readTransit | readSettings
  | fetchEvent
  | startStep | resume | stopStep | setFeedLevel | presence | acknowledgeTrip | clearStop
  | goToHold | goToPosition | referenceTravel | cancelTravel | clearTravelFault | setDiverter
  | holdPour | releasePour
  | openCall | closeCall | insertStep | modifyStep | deleteStep | cancelStep | closeStepShort | releaseHold | setTrimBand
  | writeHatchEntry | requestSwap | cancelSwap
  | openLot | closeLot | releaseBill | setTime
  | writeSetting | acceptSettings
  | writeCalibration
  deriving DecidableEq, Repr

/-- The request code (section 8.8). -/
def Request.code : Request → Nat
  | .readStatus => 0x01
  | .readPlan => 0x02
  | .readStep => 0x03
  | .readLot => 0x04
  | .readHolds => 0x05
  | .readHatchMap => 0x06
  | .readBill => 0x07
  | .readTransit => 0x08
  | .readSettings => 0x09
  | .fetchEvent => 0x0F
  | .startStep => 0x10
  | .resume => 0x11
  | .stopStep => 0x12
  | .setFeedLevel => 0x13
  | .presence => 0x14
  | .acknowledgeTrip => 0x15
  | .clearStop => 0x16
  | .goToHold => 0x20
  | .goToPosition => 0x21
  | .referenceTravel => 0x22
  | .cancelTravel => 0x23
  | .clearTravelFault => 0x24
  | .setDiverter => 0x25
  | .holdPour => 0x28
  | .releasePour => 0x29
  | .openCall => 0x30
  | .closeCall => 0x31
  | .insertStep => 0x32
  | .modifyStep => 0x33
  | .deleteStep => 0x34
  | .cancelStep => 0x35
  | .closeStepShort => 0x36
  | .releaseHold => 0x37
  | .setTrimBand => 0x38
  | .writeHatchEntry => 0x40
  | .requestSwap => 0x41
  | .cancelSwap => 0x42
  | .openLot => 0x50
  | .closeLot => 0x51
  | .releaseBill => 0x52
  | .setTime => 0x53
  | .writeSetting => 0x60
  | .acceptSettings => 0x61
  | .writeCalibration => 0x68

/-- The requests, in order of code. -/
def allRequests : List Request :=
  [.readStatus, .readPlan, .readStep, .readLot, .readHolds, .readHatchMap, .readBill, .readTransit, .readSettings,
   .fetchEvent, .startStep, .resume, .stopStep, .setFeedLevel, .presence, .acknowledgeTrip, .clearStop,
   .goToHold, .goToPosition, .referenceTravel, .cancelTravel, .clearTravelFault, .setDiverter,
   .holdPour, .releasePour, .openCall, .closeCall, .insertStep, .modifyStep, .deleteStep, .cancelStep, .closeStepShort,
   .releaseHold, .setTrimBand, .writeHatchEntry, .requestSwap, .cancelSwap, .openLot, .closeLot, .releaseBill,
   .setTime, .writeSetting, .acceptSettings, .writeCalibration]

/-- The request of a code, none when the code is not in the list (R161). -/
def requestOf (code : Nat) : Option Request := allRequests.find? (fun r => r.code == code)

/-- The classes of requests (R164). -/
inductive RequestClass where
  | read | event | pour | travel | holdPour | plan | hatch | lot | settings | calibration
  deriving DecidableEq, Repr

/-- The class of a request (R164). -/
def Request.cls : Request → RequestClass
  | .readStatus => .read
  | .readPlan => .read
  | .readStep => .read
  | .readLot => .read
  | .readHolds => .read
  | .readHatchMap => .read
  | .readBill => .read
  | .readTransit => .read
  | .readSettings => .read
  | .fetchEvent => .event
  | .startStep => .pour
  | .resume => .pour
  | .stopStep => .pour
  | .setFeedLevel => .pour
  | .presence => .pour
  | .acknowledgeTrip => .pour
  | .clearStop => .pour
  | .goToHold => .travel
  | .goToPosition => .travel
  | .referenceTravel => .travel
  | .cancelTravel => .travel
  | .clearTravelFault => .travel
  | .setDiverter => .travel
  | .holdPour => .holdPour
  | .releasePour => .holdPour
  | .openCall => .plan
  | .closeCall => .plan
  | .insertStep => .plan
  | .modifyStep => .plan
  | .deleteStep => .plan
  | .cancelStep => .plan
  | .closeStepShort => .plan
  | .releaseHold => .plan
  | .setTrimBand => .plan
  | .writeHatchEntry => .hatch
  | .requestSwap => .hatch
  | .cancelSwap => .hatch
  | .openLot => .lot
  | .closeLot => .lot
  | .releaseBill => .lot
  | .setTime => .lot
  | .writeSetting => .settings
  | .acceptSettings => .settings
  | .writeCalibration => .calibration

/-- The rights matrix (R164). -/
def RequestClass.allowed : RequestClass → Station → Bool
  | .read, _ => true
  | .event, _ => true
  | .pour, st => st == .cab
  | .travel, st => st == .cab
  | .holdPour, st => st == .deck
  | .plan, st => st == .deck
  | .hatch, st => st == .deck
  | .lot, st => st == .office
  | .settings, st => st == .office
  | .calibration, st => st == .office

/-- The body lengths that a request allows (section 8.8). -/
def Request.lengthOk (n : Nat) : Request → Bool
  | .readPlan => n == 4
  | .readStep => n == 2
  | .readLot => n == 5
  | .readHatchMap => n == 5
  | .readBill => n == 8
  | .readSettings => n == 4
  | .startStep => n == 2
  | .setFeedLevel => n == 1
  | .presence => n ≤ 512
  | .goToHold => n == 1
  | .goToPosition => n == 4
  | .setDiverter => n == 1
  | .openCall => n == 4 || n == 6
  | .insertStep => n == 6
  | .modifyStep => n == 5
  | .deleteStep => n == 2
  | .cancelStep => n == 2
  | .closeStepShort => n == 2
  | .releaseHold => n == 2
  | .setTrimBand => n == 2
  | .writeHatchEntry => n == 15
  | .openLot => n == 34
  | .closeLot => n == 4
  | .releaseBill => n == 4
  | .setTime => n == 4
  | .writeSetting => n == 6
  | .writeCalibration => n == 5
  | _ => n == 0

/-- A field of `n` bytes of a body from byte `at` on, low byte first. -/
def field (b : List Byte) (start n : Nat) : Nat := fromLE ((b.drop start).take n)

/-- A 16-bit two's complement number. -/
def signed16 (n : Nat) : Int := if n < 32768 then n else (n : Int) - 65536

/-- The request handed to its owner block, whose answer is the result (R161). The body's length is one that the request
allows. -/
def handOver (r : Request) (st : Station) (b : List Byte) (s : State) : State × Answer :=
  match r with
  | .readStatus => ownReadStatus s
  | .readPlan => ownReadPlan (field b 0 2) (field b 2 2) s
  | .readStep => ownReadStep (field b 0 2) s
  | .readLot => ownReadLot (field b 0 1) (field b 1 2) (field b 3 2) s
  | .readHolds => ownReadHolds s
  | .readHatchMap => ownReadHatchMap (field b 0 1) (field b 1 2) (field b 3 2) s
  | .readBill => ownReadBill (field b 0 4) (field b 4 2) (field b 6 2) s
  | .readTransit => ownReadTransit s
  | .readSettings => ownReadSettings (field b 0 2) (field b 2 2) s
  | .fetchEvent => ownFetchEvent st s
  | .startStep => ownStartStep (field b 0 2) s
  | .resume => ownResume s
  | .stopStep => ownStopStep s
  | .setFeedLevel => ownSetFeedLevel (field b 0 1) s
  | .presence => ownPresence s
  | .acknowledgeTrip => ownAcknowledgeTrip s
  | .clearStop => ownClearStop s
  | .goToHold => ownGoToHold (field b 0 1) s
  | .goToPosition => ownGoToPosition (field b 0 4) s
  | .referenceTravel => ownReferenceTravel s
  | .cancelTravel => ownCancelTravel s
  | .clearTravelFault => ownClearTravelFault s
  | .setDiverter => ownSetDiverter (field b 0 1) s
  | .holdPour => ownHoldPour s
  | .releasePour => ownReleasePour s
  | .openCall => ownOpenCall (field b 0 4) (if b.length = 6 then some (field b 4 2) else none) s
  | .closeCall => ownCloseCall s
  | .insertStep => ownInsertStep (field b 0 1) (field b 1 1) (field b 2 1) (field b 3 2) (field b 5 1) s
  | .modifyStep => ownModifyStep (field b 0 2) (field b 2 2) (field b 4 1) s
  | .deleteStep => ownDeleteStep (field b 0 2) s
  | .cancelStep => ownCancelStep (field b 0 2) s
  | .closeStepShort => ownCloseStepShort (field b 0 2) s
  | .releaseHold => ownReleaseHold (field b 0 2) s
  | .setTrimBand => ownSetTrimBand (field b 0 2) s
  | .writeHatchEntry =>
    ownWriteHatchEntry (field b 0 1) (field b 1 1) (field b 2 1) (field b 3 4) (field b 7 4)
      (signed16 (field b 11 2)) (field b 13 2) s
  | .requestSwap => ownRequestSwap s
  | .cancelSwap => ownCancelSwap s
  | .openLot => ownOpenLot (field b 0 4) (field b 4 1) (field b 5 1) ((b.drop 6).take 24) (field b 30 4) s
  | .closeLot => ownCloseLot (field b 0 4) s
  | .releaseBill => ownReleaseBill (field b 0 4) s
  | .setTime => ownSetTime (field b 0 4) s
  | .writeSetting => ownWriteSetting (field b 0 2) (field b 2 4) s
  | .acceptSettings => ownAcceptSettings s
  | .writeCalibration => ownWriteCalibration (field b 0 2) (field b 2 2) (field b 4 1) s

end Sys2Proof.Machine
end

