-- ==== Sys2Proof/Machine/Ports.lean ====
section
/-! DEFINITION. The station ports (chapter 08): the framer, the completion of a frame, taking and answering a request, and the line break, with the meanings of the port commands. -/

namespace Sys2Proof.Machine

open Sys2Proof

/-- The port of a station. -/
def Ports.get (x : Ports) : Station → Port
  | .cab => x.cab
  | .deck => x.deck
  | .office => x.office

/-- The ports with one of them replaced. -/
def Ports.set (x : Ports) (v : Port) : Station → Ports
  | .cab => { x with cab := v }
  | .deck => { x with deck := v }
  | .office => { x with office := v }

/-- The state with one port replaced. -/
def setPort (st : Station) (v : Port) (s : State) : State := { s with ports := s.ports.set v st }

/-! ### Frames -/

/-- The body length in bytes 2 and 3 of a header. -/
def headerLength (frame : List Byte) : Nat := fromLE ((frame.drop 2).take 2)

/-- A header of five bytes is good: its check matches and its length is at most 512 (R158). -/
def headerGood (frame : List Byte) : Bool :=
  headerCheck (frame.take 4) == frame.getD 4 0 && decide (headerLength frame ≤ 512)

/-- The body of a frame. -/
def frameBody (frame : List Byte) : List Byte := (frame.drop 5).take (headerLength frame)

/-- The footer matches the CRC of the body; a frame without body has none (R159, R160). -/
def footerGood (frame : List Byte) : Bool :=
  headerLength frame == 0 || (frame.drop (5 + headerLength frame)).take 2 == le 2 (crc16 (frameBody frame)).toNat

/-- The queue entry of a complete frame (R160). -/
def frameEntry (frame : List Byte) : QueueEntry :=
  { code := frame.getD 0 0, tag := frame.getD 1 0, body := frameBody frame, footerGood := footerGood frame }

/-- A framer that starts over in WAIT_GAP, its frame in progress dropped (R157, R158, R160). -/
def Port.dropFrame (p : Port) : Port := { p with framer := .waitGap, frame := [] }

/-- Queueing a complete frame: discarded when the queue holds four entries, appended otherwise; HOLDOFF follows (R160). -/
def Port.enqueue (p : Port) (e : QueueEntry) : Port :=
  if 4 ≤ p.queue.length then { p with discarded := true }
  else { p with queue := p.queue ++ [e], holdoff := decide (4 ≤ p.queue.length + 1) }

/-- A frame is complete at a port (R160). -/
def completeFrame (st : Station) (frame : List Byte) (s : State) : State :=
  let s1 := if st = .cab ∧ footerGood frame = true then presenceNotice s else s
  setPort st ((s1.ports.get st).dropFrame.enqueue (frameEntry frame)) s1

/-- The fifth header byte has been stored: the header is judged (R158). -/
def judgeHeader (st : Station) (frame : List Byte) (s : State) : State :=
  let p := s.ports.get st
  if headerGood frame then
    if headerLength frame = 0 then completeFrame st frame s
    else setPort st { p with framer := .body, frame := frame } s
  else setPort st p.dropFrame s

/-- A character on a receive line (R157). -/
def takeCharacter (st : Station) (s : State) (b : Byte) : State :=
  let p := s.ports.get st
  let frame := p.frame ++ [b]
  match p.framer with
  | .waitGap => s
  | .ready => setPort st { p with framer := .header, frame := [b] } s
  | .header =>
    if frame.length = 5 then judgeHeader st frame s else setPort st { p with frame := frame } s
  | .body =>
    if frame.length = 5 + headerLength frame then setPort st { p with framer := .footer, frame := frame } s
    else setPort st { p with frame := frame } s
  | .footer =>
    if frame.length = 7 + headerLength frame then completeFrame st frame s
    else setPort st { p with frame := frame } s

/-- An idle gap of 2 ms at a framer (R157). -/
def Port.gap (p : Port) : Port :=
  match p.framer with
  | .ready => p
  | _ => { p with framer := .ready, frame := [] }

/-! ### Taking a request -/

/-- The entry judged at the port or handed to its owner (R161, R164). -/
def judgeEntry (st : Station) (e : QueueEntry) (s : State) : State × Answer :=
  if e.footerGood = false then (s, answerOnly .frameError)
  else match requestOf e.code.toNat with
    | none => (s, answerOnly .unknownRequest)
    | some r =>
      if r.cls.allowed st = false then (raise (.rights st e.code) s, answerOnly .notPermitted)
      else if r = .writeCalibration ∧ s.pins.calUnlock = false then (s, answerOnly .locked)
      else if r.lengthOk e.body.length = false then (s, answerOnly .badLength)
      else handOver r st e.body s

/-- The reply's body: result, port status and data (R162). -/
def replyBody (st : Station) (a : Answer) (s : State) : List Byte :=
  [a.result.code, portStatus (s.ports.get st).discarded (!(s.events.get st).entries.isEmpty) s.governor.presenceLive
    s.store.defaulted] ++ a.data

/-- The reply is formed and its sending begins; the discarded flag, once copied, is cleared (R162). -/
def sendReply (st : Station) (e : QueueEntry) (a : Answer) (s : State) : State :=
  setPort st
    { s.ports.get st with
      discarded := false, sending := true, reply := frameBytes (e.code + 0x80#8) e.tag (replyBody st a s) } s

/-- The level of CAL_UNLOCK as last read. -/
def setCalUnlock (level : Bool) (s : State) : State := { s with pins := { s.pins with calUnlock := level } }

/-- The port takes the entry at the head of its queue, when the transmitter is IDLE (R161, R162). -/
def takeHead (st : Station) (calUnlock : Bool) (s : State) : State :=
  match (s.ports.get st).sending, (s.ports.get st).queue with
  | false, e :: _ =>
    let r := judgeEntry st e (setCalUnlock calUnlock s)
    sendReply st e r.2 r.1
  | _, _ => s

/-- The last byte of a reply leaves (R162). -/
def Port.replyDone (p : Port) : Port :=
  if p.sending then
    { p with queue := p.queue.tail, sending := false, reply := [], holdoff := decide (4 ≤ p.queue.tail.length) }
  else p

/-! ### The meanings -/

/-- An arrival: taken while the part runs, lost before recovery completes (R25, R86, R136, R167, R176). -/
def arrival (f : State → State) (s : State) : Host.Outcome State Fault Refusal :=
  .next (if s.isRunning then f s else s)

/-- CHARACTER_RECEIVED (R157, R158, R160). -/
def execCharacterReceived (st : Station) (b : Byte) (s : State) : Host.Outcome State Fault Refusal :=
  arrival (fun s => takeCharacter st s b) s

/-- FRAME_COMPLETE: the characters of a frame, up to the one that completes it, arrive one after another (R157 to R160). -/
def execFrameComplete (st : Station) (chars : List Byte) (s : State) : Host.Outcome State Fault Refusal :=
  arrival (fun s => chars.foldl (takeCharacter st) s) s

/-- STOP_BIT_MISSING (R157). -/
def execStopBitMissing (st : Station) (s : State) : Host.Outcome State Fault Refusal :=
  arrival (fun s => setPort st (s.ports.get st).dropFrame s) s

/-- IDLE_GAP (R157). -/
def execIdleGap (st : Station) (s : State) : Host.Outcome State Fault Refusal :=
  arrival (fun s => setPort st (s.ports.get st).gap s) s

/-- LINE_BREAK (R166): the port is reset, and everything else stands. -/
def execLineBreak (st : Station) (s : State) : Host.Outcome State Fault Refusal :=
  arrival (fun s => setPort st Port.cold s) s

/-- TAKE_REQUEST (R161, R162, R164). -/
def execTakeRequest (st : Station) (calUnlock : Bool) (s : State) : Host.Outcome State Fault Refusal :=
  arrival (takeHead st calUnlock) s

/-- REPLY_SENT (R162). -/
def execReplySent (st : Station) (s : State) : Host.Outcome State Fault Refusal :=
  arrival (fun s => setPort st (s.ports.get st).replyDone s) s

end Sys2Proof.Machine
end

