-- ==== Sys2Proof/Machine/ColdStart.lean ====
section
/-! DEFINITION. Cold start and its recovery (chapter 10): POWER_ON, RESET_N_ASSERTED and COLD_START_RECOVERY. -/

namespace Sys2Proof.Machine

open Sys2Proof

/-! ### Cold start -/

/-- The accounts after cold start: stored, but for the clock (R156). -/
def Accounts.cold (a : Accounts) : Accounts := { a with seconds := 0, timeValid := false, second := none }

/-- The ports after cold start (R167). -/
def Ports.cold : Ports := { cab := Port.cold, deck := Port.cold, office := Port.cold }

/-- The event sets after cold start (R172). -/
def Events.cold : Events := { cab := EventSet.cold, deck := EventSet.cold, office := EventSet.cold }

/-- Every block at its cold-start state, the nonvolatile state kept (R174; R24, R38, R59, R60, R86, R87, R136, R137, R156,
R167, R172, R173). -/
def coldStart (s : State) : State :=
  { s with
    phase := .cold
    converter := Converter.cold s.converter.freeCount
    weigher := Weigher.cold s.store.settings.lineLength s.weigher.weighingLot
    dust := Dust.cold
    travel := Travel.cold s.travel.pages s.travel.activePage
    governor := Governor.cold s.governor.preact
    accounts := s.accounts.cold
    events := Events.cold
    ports := Ports.cold
    answer := none }

/-! ### Recovery -/

/-- The settings record at its defaults, its check word recomputed, DEFAULTED set; the line is rebuilt with the default N
(R20, R24, R175). -/
def defaultSettings (s : State) : State :=
  let s1 := storeSettings Settings.default s
  rebuildLine Settings.default.lineLength { s1 with store := { s1.store with defaulted := true } }

/-- The check of the settings record, and SETTINGS_DEFAULTED while DEFAULTED is set (R175). -/
def checkSettings (s : State) : State :=
  let s1 := if s.store.checkWord = checkWord s.store.settings then s else defaultSettings s
  if s1.store.defaulted then raise .settingsDefaulted s1 else s1

/-- What an account has booked: splits, reject, spill and unplaced mass (R176). -/
def Ledger.booked (l : Ledger) : Nat := splitSum l + l.rejected + l.spilled + l.unplaced

/-- The excess of an account's weighed mass over its booked mass (R176). -/
def Ledger.excess (l : Ledger) : Nat := l.weighed - l.booked

/-- An account with its excess booked as unplaced mass (R156, R176). -/
def Ledger.book (l : Ledger) : Ledger := { l with unplaced := massAdd l.unplaced l.excess }

/-- The excess of an OPEN lot; a FREE slot takes no booking (R176). -/
def Lot.excess (l : Lot) : Nat := if l.isOpen then l.ledger.excess else 0

/-- A lot record after the booking (R176). -/
def Lot.book (l : Lot) : Lot := if l.isOpen then { l with ledger := l.ledger.book } else l

/-- The booked total: the sum of the excesses (R176). -/
def bookedTotal (a : Accounts) : Nat := (allSlots.map (fun i => (a.lots.get i).excess)).sum + a.unassigned.excess

/-- The recovery booking of one slot. -/
def bookSlot (lots : Vector Lot 16) (i : Slot) : Vector Lot 16 := lots.set i (lots.get i).book

/-- The recovery booking of the first `n` accounts: the slots in order, then the unassigned account (R176). -/
def bookFirst (n : Nat) (s : State) : State :=
  { s with accounts :=
    { s.accounts with
      lots := (allSlots.take n).foldl bookSlot s.accounts.lots
      unassigned := if 16 < n then s.accounts.unassigned.book else s.accounts.unassigned } }

/-- The recovery booking, of all seventeen accounts (R176). -/
def bookLoss (s : State) : State := bookFirst 17 s

/-- The record of a step ACTIVE at the power loss after it: HELD(POWER), no cutoff reason, placed mass and effective target
kept (R108). -/
def Step.heldForPower (st : Step) : Step := { st with state := .held, holdReason := some .power, cutoffReason := none }

/-- The Plan Table makes an ACTIVE step HELD(POWER) (R108). -/
def holdForPower (s : State) : State :=
  match activeStep s.plan with
  | none => s
  | some st =>
    swapTest (raise (.stepHeld st.id .power)
      (bumpRevision { s with plan := s.plan.updateActive Step.heldForPower }))

/-- The converter reads REF_OK (R39); the weigher's scale input follows it (R24). -/
def startConverter (s : State) : State :=
  if s.pins.refOk then
    { s with converter := { s.converter.restart with state := .running }, weigher := { s.weigher with input := .waiting } }
  else
    { s with
      converter := { s.converter.notify .referenceFault with state := .halted }
      weigher := { s.weigher with input := .noReference } }

/-- The Travel Controller and the Feed Governor read ESTOP (R86, R136). -/
def readEstop (s : State) : State :=
  if s.pins.estop then
    raise (.estop false) { s with
      travel := { s.travel with state := .stopped }
      governor := { s.governor with estopLatch := true } }
  else s

/-- The governor period and the one-second clock start, and the part takes arrivals (R25, R136, R156). -/
def startClocks (s : State) : State :=
  { s with
    phase := .running
    governor := { s.governor with period := some 0 }
    accounts := { s.accounts with second := some 0 } }

/-- Completion (R176, step 5). -/
def completeRecovery (s : State) : State := startClocks (setBeltPermit (readEstop (startConverter s)))

/-- The steps of recovery in order, as far as a point (R175, R176). -/
def recoveredTo (p : RecoveryPoint) (s : State) : State :=
  let s1 := checkSettings s
  match p with
  | .begun => s
  | .checked => s1
  | .booked last => bookFirst (last.val + 1) s1
  | .held => holdForPower (bookLoss s1)
  | .clamped => clampPreact (holdForPower (bookLoss s1))
  | .raised => raise (.coldStart (bookedTotal s1.accounts)) (clampPreact (holdForPower (bookLoss s1)))

/-- Recovery, whole (R176). RESET_N is deasserted when it begins (R174). -/
def recover (s : State) : State :=
  completeRecovery (recoveredTo .raised { s with pins := { s.pins with resetN := false } })

/-- RESET_N is asserted (R174): work in flight is abandoned, and every block is held at its cold-start state. -/
def resetAsserts (s : State) : State := { coldStart s with pins := { s.pins with resetN := true } }

/-- A recovery that RESET_N's assertion abandons at a point: what it has written in nonvolatile memory stands (R174,
R176). -/
def abandonRecovery (p : RecoveryPoint) (s : State) : State := resetAsserts (recoveredTo p s)

/-! ### The meanings -/

/-- POWER_ON (R174): every block at its cold-start state. -/
def execPowerOn (s : State) : Host.Outcome State Fault Refusal := .next (coldStart s)

/-- RESET_N_ASSERTED (R174). -/
def execResetNAsserted (s : State) : Host.Outcome State Fault Refusal := .next (resetAsserts s)

/-- COLD_START_RECOVERY (R174, R175, R176): recovery follows cold start, and a running part has none to make. With
`some p`, RESET_N's assertion during the recovery abandons it at `p` (log entry 9). -/
def execColdStartRecovery (s : State) (abandoned : Option RecoveryPoint := none) : Host.Outcome State Fault Refusal :=
  .next (if s.isRunning then s
    else match abandoned with
      | none => recover s
      | some p => abandonRecovery p s)

end Sys2Proof.Machine
end

