-- ==== Sys2Proof/Machine/Clock.lean ====
section
/-! DEFINITION. The passage of a millisecond with no command waiting: the elapsed times of the running timers (log entry 7). Expiries are commands of their own. -/

namespace Sys2Proof.Machine

open Sys2Proof

/-- A running timer one millisecond later, held at its limit until its expiry is taken. -/
def advance (limit : Nat) : Option Nat → Option Nat
  | some t => some (if t < limit then t + 1 else t)
  | none => none

/-- The part one millisecond later (R52, R53, R70, R76, R116, R126, R152). Before recovery completes no timer runs. -/
def tick (s : State) : State :=
  if s.isRunning then
    { s with
      dust := { s.dust with
        highHold := advance (s.store.settings.highHoldTime * 1000) s.dust.highHold
        referenceTimer := advance 2000 s.dust.referenceTimer }
      travel := { s.travel with
        travelTimer := advance (s.store.settings.travelTimeLimit * 1000) s.travel.travelTimer
        runOutTimer := advance (s.store.settings.runOutLimit * 1000) s.travel.runOutTimer }
      governor := { s.governor with
        presenceTimer := advance (s.store.settings.presenceWindow * 1000) s.governor.presenceTimer
        period := advance 100 s.governor.period }
      accounts := { s.accounts with second := advance 1000 s.accounts.second } }
  else s

end Sys2Proof.Machine
end

