-- ==== Sys2Proof/Machine/Field.lean ====
section
/-! DEFINITION. The meanings of the arrivals that are not requests: conversions and deliveries (chapters 01 to 03), the carriage's inputs (chapter 04), the governor's inputs and periods (chapter 06) and the seconds clock (chapter 07). The level of an input pin is followed in every phase; any other effect is taken once recovery is complete (R25, R39, R86, R136, R156). -/

namespace Sys2Proof.Machine

open Sys2Proof

/-! ### The Measurement Converter -/

/-- A conversion ends in a RUNNING converter (R26, R27, R29); a HALTED one makes none (R33). -/
def conversionEnds (code : Code) (s : State) : State :=
  if s.converter.state = .running then
    { s with converter := s.converter.convert s.store.settings.mask code }
  else s

/-- CONVERSION_COMPLETE (R26, R27, R29). -/
def execConversionComplete (code : Code) (s : State) : Host.Outcome State Fault Refusal :=
  arrival (conversionEnds code) s

/-- The level of REF_OK. -/
def setRefOk (level : Bool) (s : State) : State := { s with pins := { s.pins with refOk := level } }

/-- A fall of REF_OK at the converter (R33). -/
def referenceFalls (s : State) : State :=
  if s.converter.state = .running then { s with converter := s.converter.halt } else s

/-- A rise of REF_OK at the converter (R34). -/
def referenceRises (s : State) : State :=
  if s.converter.state = .halted then { s with converter := s.converter.resume } else s

/-- REF_OK_FALL (R33). -/
def execRefOkFall (s : State) : Host.Outcome State Fault Refusal := arrival referenceFalls (setRefOk false s)

/-- REF_OK_RISE (R34). -/
def execRefOkRise (s : State) : Host.Outcome State Fault Refusal := arrival referenceRises (setRefOk true s)

/-! ### The consumers' deliveries -/

/-- The weigher takes the oldest delivery made to it, a W group (R4, R5, R6, R28). -/
def takeWGroup (s : State) : State :=
  match s.converter.toWeigher with
  | .group .w q :: rest => weighGroup q { s with converter := { s.converter with toWeigher := rest } }
  | _ => s

/-- W_GROUP_ARRIVAL (R4, R5, R6). -/
def execWGroupArrival (s : State) : Host.Outcome State Fault Refusal := arrival takeWGroup s

/-- The monitor takes the oldest delivery made to it, a D group (R28, R40). -/
def takeDGroup (s : State) : State :=
  match s.converter.toMonitor with
  | .group k q :: rest => dustGroup k q { s with converter := { s.converter with toMonitor := rest } }
  | _ => s

/-- D_GROUP_ARRIVAL (R40). -/
def execDGroupArrival (s : State) : Host.Outcome State Fault Refusal := arrival takeDGroup s

/-- REFERENCE FAULT at the weigher (R7). -/
def weigherLosesReference (s : State) : State := { s with weigher := { s.weigher with input := .noReference } }

/-- REFERENCE FAULT at the monitor: the reference timer starts from 0 (R53). -/
def monitorLosesReference (s : State) : State :=
  { s with dust := { s.dust with reference := .fault, referenceTimer := some 0 } }

/-- REFERENCE GOOD at the monitor: the reference timer stops (R53). -/
def monitorRegainsReference (s : State) : State :=
  { s with dust := { s.dust with reference := .good, referenceTimer := none } }

/-- A consumer takes REFERENCE FAULT, the oldest delivery made to it (R7, R28, R53). -/
def takeFaultNotice (c : Consumer) (s : State) : State :=
  match c with
  | .weigher =>
    match s.converter.toWeigher with
    | .referenceFault :: rest => weigherLosesReference { s with converter := { s.converter with toWeigher := rest } }
    | _ => s
  | .monitor =>
    match s.converter.toMonitor with
    | .referenceFault :: rest => monitorLosesReference { s with converter := { s.converter with toMonitor := rest } }
    | _ => s

/-- A consumer takes REFERENCE GOOD, the oldest delivery made to it; at the weigher it changes nothing (R7, R28, R53). -/
def takeGoodNotice (c : Consumer) (s : State) : State :=
  match c with
  | .weigher =>
    match s.converter.toWeigher with
    | .referenceGood :: rest => { s with converter := { s.converter with toWeigher := rest } }
    | _ => s
  | .monitor =>
    match s.converter.toMonitor with
    | .referenceGood :: rest =>
      monitorRegainsReference { s with converter := { s.converter with toMonitor := rest } }
    | _ => s

/-- REFERENCE_FAULT_NOTICE (R7, R53). -/
def execReferenceFaultNotice (c : Consumer) (s : State) : Host.Outcome State Fault Refusal :=
  arrival (takeFaultNotice c) s

/-- REFERENCE_GOOD_NOTICE (R7, R53). -/
def execReferenceGoodNotice (c : Consumer) (s : State) : Host.Outcome State Fault Refusal :=
  arrival (takeGoodNotice c) s

/-- TACH_PULSE (R8 to R18). -/
def execTachPulse (s : State) : Host.Outcome State Fault Refusal := arrival countPulse s

/-- HIGH_HOLD_EXPIRY (R52). -/
def execHighHoldExpiry (s : State) : Host.Outcome State Fault Refusal := arrival highHoldExpires s

/-- REFERENCE_TIMER_EXPIRY (R53). -/
def execReferenceTimerExpiry (s : State) : Host.Outcome State Fault Refusal := arrival referenceTimerExpires s

/-! ### The carriage -/

/-- The position after a count; a count beyond a signed 32-bit number is not taken (R81). -/
def countedPosition (x : Int) : Direction → Int
  | .aft => if x < 2147483647 then x + 1 else x
  | .fore => if -2147483648 < x then x - 1 else x

/-- The hold of the ACTIVE step, if any (R82). -/
def activeHold (s : State) : Option Hold := (activeStep s.plan).map Step.hold

/-- A recomputation that moved the spout-over hold from `was` away from the ACTIVE step's hold (R82). -/
def movedAway (was : Option Hold) (s : State) : Bool :=
  match activeHold s with
  | some h => was == some h && s.travel.spoutOver != some h
  | none => false

/-- An encoder count: the position, the spout-over hold, position lost, and the profile in motion (R72, R81, R82). -/
def countEncoder (d : Direction) (s : State) : State :=
  let s1 := recomputeSpout { s with travel := { s.travel with position := countedPosition s.travel.position d } }
  let s2 := if movedAway s.travel.spoutOver s1 then positionLost s1 else s1
  if s2.travel.state = .moving ∨ s2.travel.state = .creeping then profileTest s2 else s2

/-- ENCODER_COUNT (R72, R81, R82). -/
def execEncoderCount (d : Direction) (s : State) : Host.Outcome State Fault Refusal := arrival (countEncoder d) s

/-- The end of a TRAVEL_SPEED period: the staged duty comes into force, and a stop begun is judged (R68, R72). -/
def speedPeriodEnds (s : State) : State :=
  let s1 := { s with travel := { s.travel with dutyForce := s.travel.dutyStaged } }
  if s1.travel.state = .creeping ∧ s1.travel.stopping = true then stopJudgement s1 else s1

/-- TRAVEL_SPEED_PERIOD_END (R68, R72). -/
def execTravelSpeedPeriodEnd (s : State) : Host.Outcome State Fault Refusal := arrival speedPeriodEnds s

/-- The level of HOME. -/
def setHome (level : Bool) (s : State) : State := { s with pins := { s.pins with home := level } }

/-- HOME closing at the controller (R74). -/
def homeCloses (closed : Bool) (s : State) : State :=
  if closed = true ∧ s.travel.state = .referencing then homeSet s else s

/-- HOME_CLOSES (R74); opening is the level `false`, which has no effect on the controller. -/
def execHomeCloses (closed : Bool) (s : State) : Host.Outcome State Fault Refusal :=
  arrival (homeCloses closed) (setHome closed s)

/-- The level of a limit switch. -/
def setLimit (d : Direction) (level : Bool) (s : State) : State :=
  match d with
  | .fore => { s with pins := { s.pins with limFore := level } }
  | .aft => { s with pins := { s.pins with limAft := level } }

/-- A limit switch asserting at the controller (R77). -/
def limitAsserts (d : Direction) (level : Bool) (s : State) : State :=
  if level = true ∧ s.travel.state.inMotion = true ∧ s.travel.direction = some d then enterFault .limit s else s

/-- LIMIT_SWITCH_ASSERTED (R77); the level `false` is the switch released, which has no effect on the controller. -/
def execLimitSwitchAsserted (d : Direction) (level : Bool) (s : State) : Host.Outcome State Fault Refusal :=
  arrival (limitAsserts d level) (setLimit d level s)

/-- TRAVEL_TIMER_EXPIRY (R76). -/
def execTravelTimerExpiry (s : State) : Host.Outcome State Fault Refusal := arrival travelExpiry s

/-- RUN_OUT_TIMER_EXPIRY (R70). -/
def execRunOutTimerExpiry (s : State) : Host.Outcome State Fault Refusal := arrival runOutExpiry s

/-! ### The governor's inputs -/

/-- The level of ESTOP. -/
def setEstop (level : Bool) (s : State) : State := { s with pins := { s.pins with estop := level } }

/-- The assertion of ESTOP at the governor and at the Travel Controller (R80, R132). -/
def estopAsserts (s : State) : State :=
  let s1 := setBeltPermit s
  travelStop (pauseCause .estop (raise (.estop false)
    { s1 with governor := { s1.governor with estopLatch := true } }))

/-- ESTOP_ASSERTED (R80, R132). -/
def execEstopAsserted (s : State) : Host.Outcome State Fault Refusal := arrival estopAsserts (setEstop true s)

/-- The release of ESTOP at the governor (R132); it changes nothing in the Travel Controller (R80). -/
def estopReleases (s : State) : State := raise (.estop true) (setBeltPermit s)

/-- ESTOP_RELEASED (R80, R132). -/
def execEstopReleased (s : State) : Host.Outcome State Fault Refusal := arrival estopReleases (setEstop false s)

/-- The level of BELT_RUN. -/
def setBeltRun (level : Bool) (s : State) : State := { s with pins := { s.pins with beltRun := level } }

/-- BELT_RUN_FALL (R123). -/
def execBeltRunFall (s : State) : Host.Outcome State Fault Refusal :=
  arrival (pauseCause .beltStopped) (setBeltRun false s)

/-- BELT_RUN_RISE (R123): it changes nothing in the governor. -/
def execBeltRunRise (s : State) : Host.Outcome State Fault Refusal := .next (setBeltRun true s)

/-- The level after one ramp step: up by the ramp rate divided by 10, not above the ceiling (R116). -/
def rampedLevel (s : State) : Nat := min (s.governor.level + s.store.settings.rampRate / 10) s.governor.ceiling

/-- A governor period ends (R116). -/
def rampLevel (s : State) : State :=
  match s.governor.state with
  | .ramping =>
    let s1 := setLevel (rampedLevel s) s
    if rampedLevel s = s.governor.ceiling then { s1 with governor := { s1.governor with state := .running } } else s1
  | .dribble => setLevel (rampedLevel s) s
  | _ => s

/-- The next governor period begins (R115, R116). -/
def restartPeriod (s : State) : State := { s with governor := { s.governor with period := some 0 } }

/-- GOVERNOR_PERIOD_EXPIRY (R116). -/
def execGovernorPeriodExpiry (s : State) : Host.Outcome State Fault Refusal :=
  arrival (fun s => restartPeriod (rampLevel s)) s

/-- The end of a FEED_RATE period: the staged duty comes into force (R110). -/
def feedPeriodEnds (s : State) : State :=
  { s with governor := { s.governor with dutyForce := s.governor.dutyStaged } }

/-- FEED_RATE_PERIOD_END (R110). -/
def execFeedRatePeriodEnd (s : State) : Host.Outcome State Fault Refusal := arrival feedPeriodEnds s

/-- PRESENCE_TIMER_EXPIRY (R123, R126). -/
def execPresenceTimerExpiry (s : State) : Host.Outcome State Fault Refusal := arrival presenceExpiry s

/-! ### The clock -/

/-- A tick of the one-second clock: the counter advances, or at its greatest value stays and clears time valid (R152). -/
def tickSeconds (a : Accounts) : Accounts :=
  if a.seconds < max32 then { a with seconds := a.seconds + 1, second := some 0 }
  else { a with timeValid := false, second := some 0 }

/-- SECONDS_TICK (R152). -/
def execSecondsTick (s : State) : Host.Outcome State Fault Refusal :=
  arrival (fun s => { s with accounts := tickSeconds s.accounts }) s

end Sys2Proof.Machine
end

