-- ==== Sys2Proof/Machine/Stations.lean ====
section
/-! DEFINITION. The meanings of the requests, each taken whole at its owner block (chapters 01 to 10). The station that sends a request is the one of its class (R164) where the class belongs to one station. The answer is kept beside the state (log entry 1). -/

namespace Sys2Proof.Machine

open Sys2Proof

/-- A request taken at its owner: the owner's change, and the answer kept. Before recovery completes no request is taken
(R176). -/
def request (st : Station) (f : State → State × Answer) (s : State) : Host.Outcome State Fault Refusal :=
  .next (if s.isRunning then { (f s).1 with answer := some (st, (f s).2) } else s)

/-! ### READ and EVENT -/

/-- READ_STATUS (R36, R57, R84, R107, R135, R155). -/
def execReadStatus (st : Station) (s : State) : Host.Outcome State Fault Refusal := request st ownReadStatus s

/-- READ_PLAN (R107, R165). -/
def execReadPlan (st : Station) (offset limit : BitVec 16) (s : State) : Host.Outcome State Fault Refusal :=
  request st (ownReadPlan offset.toNat limit.toNat) s

/-- READ_STEP (R107). -/
def execReadStep (st : Station) (id : BitVec 16) (s : State) : Host.Outcome State Fault Refusal :=
  request st (ownReadStep id.toNat) s

/-- READ_LOT (R154, R165). -/
def execReadLot (st : Station) (slot : Byte) (offset limit : BitVec 16) (s : State) :
    Host.Outcome State Fault Refusal :=
  request st (ownReadLot slot.toNat offset.toNat limit.toNat) s

/-- READ_HOLDS (R154). -/
def execReadHolds (st : Station) (s : State) : Host.Outcome State Fault Refusal := request st ownReadHolds s

/-- READ_HATCH_MAP (R84, R165). -/
def execReadHatchMap (st : Station) (page : Byte) (offset limit : BitVec 16) (s : State) :
    Host.Outcome State Fault Refusal :=
  request st (ownReadHatchMap page.toNat offset.toNat limit.toNat) s

/-- READ_BILL (R150, R165). -/
def execReadBill (st : Station) (number : BitVec 32) (offset limit : BitVec 16) (s : State) :
    Host.Outcome State Fault Refusal :=
  request st (ownReadBill number.toNat offset.toNat limit.toNat) s

/-- READ_TRANSIT (R22). -/
def execReadTransit (st : Station) (s : State) : Host.Outcome State Fault Refusal := request st ownReadTransit s

/-- READ_SETTINGS (R178, R165). -/
def execReadSettings (st : Station) (offset limit : BitVec 16) (s : State) : Host.Outcome State Fault Refusal :=
  request st (ownReadSettings offset.toNat limit.toNat) s

/-- FETCH_EVENT (R170). -/
def execFetchEvent (st : Station) (s : State) : Host.Outcome State Fault Refusal := request st (ownFetchEvent st) s

/-! ### POUR -/

/-- START_STEP (R111 to R114). -/
def execStartStep (revision : BitVec 16) (s : State) : Host.Outcome State Fault Refusal :=
  request .cab (ownStartStep revision.toNat) s

/-- RESUME (R124). -/
def execResume (s : State) : Host.Outcome State Fault Refusal := request .cab ownResume s

/-- STOP_STEP (R125). -/
def execStopStep (s : State) : Host.Outcome State Fault Refusal := request .cab ownStopStep s

/-- SET_FEED_LEVEL (R115). -/
def execSetFeedLevel (level : Byte) (s : State) : Host.Outcome State Fault Refusal :=
  request .cab (ownSetFeedLevel level.toNat) s

/-- PRESENCE (R126): the request's frame gives the presence notice; its body is ignored. -/
def execPresence (_body : List Byte) (s : State) : Host.Outcome State Fault Refusal :=
  request .cab (fun s => ownPresence (presenceNotice s)) s

/-- ACKNOWLEDGE_TRIP (R55). -/
def execAcknowledgeTrip (s : State) : Host.Outcome State Fault Refusal := request .cab ownAcknowledgeTrip s

/-- CLEAR_STOP (R133). -/
def execClearStop (s : State) : Host.Outcome State Fault Refusal := request .cab ownClearStop s

/-! ### TRAVEL -/

/-- GO_TO_HOLD (R69, R70, R71). -/
def execGoToHold (hold : Byte) (s : State) : Host.Outcome State Fault Refusal :=
  request .cab (ownGoToHold hold.toNat) s

/-- GO_TO_POSITION (R69, R70, R71). -/
def execGoToPosition (position : BitVec 32) (s : State) : Host.Outcome State Fault Refusal :=
  request .cab (ownGoToPosition position.toNat) s

/-- REFERENCE_TRAVEL (R69, R70, R71). -/
def execReferenceTravel (s : State) : Host.Outcome State Fault Refusal := request .cab ownReferenceTravel s

/-- CANCEL_TRAVEL (R79). -/
def execCancelTravel (s : State) : Host.Outcome State Fault Refusal := request .cab ownCancelTravel s

/-- CLEAR_TRAVEL_FAULT (R78). -/
def execClearTravelFault (s : State) : Host.Outcome State Fault Refusal := request .cab ownClearTravelFault s

/-- SET_DIVERTER (R83). -/
def execSetDiverter (value : Byte) (s : State) : Host.Outcome State Fault Refusal :=
  request .cab (ownSetDiverter value.toNat) s

/-! ### HOLD POUR -/

/-- HOLD_POUR (R127). -/
def execHoldPour (s : State) : Host.Outcome State Fault Refusal := request .deck ownHoldPour s

/-- RELEASE_POUR (R127). -/
def execReleasePour (s : State) : Host.Outcome State Fault Refusal := request .deck ownReleasePour s

/-! ### PLAN -/

/-- OPEN_CALL (R88). -/
def execOpenCall (callId : BitVec 32) (band : Option (BitVec 16)) (s : State) : Host.Outcome State Fault Refusal :=
  request .deck (ownOpenCall callId.toNat (band.map BitVec.toNat)) s

/-- CLOSE_CALL (R89, R90). -/
def execCloseCall (s : State) : Host.Outcome State Fault Refusal := request .deck ownCloseCall s

/-- INSERT_STEP (R97, R98). -/
def execInsertStep (position hold slot : Byte) (target : BitVec 16) (maxLevel : Byte) (s : State) :
    Host.Outcome State Fault Refusal :=
  request .deck (ownInsertStep position.toNat hold.toNat slot.toNat target.toNat maxLevel.toNat) s

/-- MODIFY_STEP (R99). -/
def execModifyStep (id target : BitVec 16) (level : Byte) (s : State) : Host.Outcome State Fault Refusal :=
  request .deck (ownModifyStep id.toNat target.toNat level.toNat) s

/-- DELETE_STEP (R100). -/
def execDeleteStep (id : BitVec 16) (s : State) : Host.Outcome State Fault Refusal :=
  request .deck (ownDeleteStep id.toNat) s

/-- CANCEL_STEP (R101, R102). -/
def execCancelStep (id : BitVec 16) (s : State) : Host.Outcome State Fault Refusal :=
  request .deck (ownCancelStep id.toNat) s

/-- CLOSE_STEP_SHORT (R103). -/
def execCloseStepShort (id : BitVec 16) (s : State) : Host.Outcome State Fault Refusal :=
  request .deck (ownCloseStepShort id.toNat) s

/-- RELEASE_HOLD (R104). -/
def execReleaseHold (id : BitVec 16) (s : State) : Host.Outcome State Fault Refusal :=
  request .deck (ownReleaseHold id.toNat) s

/-- SET_TRIM_BAND (R91). -/
def execSetTrimBand (band : BitVec 16) (s : State) : Host.Outcome State Fault Refusal :=
  request .deck (ownSetTrimBand band.toNat) s

/-! ### HATCH -/

/-- WRITE_HATCH_ENTRY (R61). -/
def execWriteHatchEntry (page hold present : Byte) (fore aft : BitVec 32) (lever limit : BitVec 16) (s : State) :
    Host.Outcome State Fault Refusal :=
  request .deck
    (ownWriteHatchEntry page.toNat hold.toNat present.toNat fore.toNat aft.toNat lever.toInt limit.toNat) s

/-- REQUEST_SWAP (R62, R63). -/
def execRequestSwap (s : State) : Host.Outcome State Fault Refusal := request .deck ownRequestSwap s

/-- CANCEL_SWAP (R64). -/
def execCancelSwap (s : State) : Host.Outcome State Fault Refusal := request .deck ownCancelSwap s

/-! ### LOT -/

/-- OPEN_LOT (R138, R139). -/
def execOpenLot (number : BitVec 32) (grade refLength : Byte) (reference : List Byte) (declared : BitVec 32)
    (s : State) : Host.Outcome State Fault Refusal :=
  request .office (ownOpenLot number.toNat grade.toNat refLength.toNat reference declared.toNat) s

/-- CLOSE_LOT (R145 to R148). -/
def execCloseLot (number : BitVec 32) (s : State) : Host.Outcome State Fault Refusal :=
  request .office (ownCloseLot number.toNat) s

/-- RELEASE_BILL (R151). -/
def execReleaseBill (number : BitVec 32) (s : State) : Host.Outcome State Fault Refusal :=
  request .office (ownReleaseBill number.toNat) s

/-- SET_TIME (R152). -/
def execSetTime (seconds : BitVec 32) (s : State) : Host.Outcome State Fault Refusal :=
  request .office (ownSetTime seconds.toNat) s

/-! ### SETTINGS and CALIBRATION -/

/-- WRITE_SETTING (R178). -/
def execWriteSetting (identifier : BitVec 16) (value : BitVec 32) (s : State) : Host.Outcome State Fault Refusal :=
  request .office (ownWriteSetting identifier.toNat value.toNat) s

/-- ACCEPT_SETTINGS (R179). -/
def execAcceptSettings (s : State) : Host.Outcome State Fault Refusal := request .office ownAcceptSettings s

/-- Write Calibration under the key switch: LOCKED with CAL_UNLOCK deasserted (R161), otherwise the weigher's judgement
(R2). -/
def calibrationRequest (z sp b : Nat) (calUnlock : Bool) (s : State) : State × Answer :=
  if calUnlock then ownWriteCalibration z sp b (setCalUnlock calUnlock s)
  else (setCalUnlock calUnlock s, answerOnly .locked)

/-- WRITE_CALIBRATION (R2, R161). -/
def execWriteCalibration (zero span : BitVec 16) (band : Byte) (calUnlock : Bool) (s : State) :
    Host.Outcome State Fault Refusal :=
  request .office (calibrationRequest zero.toNat span.toNat band.toNat calUnlock) s

end Sys2Proof.Machine
end

