-- ==== Sys2Proof/Machine/Dispatch.lean ====
section
/-! DEFINITION. The dispatch of a command to its meaning, one arm per constructor. -/

namespace Sys2Proof.Machine

open Sys2Proof

def exec (i : Instr) (s : State) : Host.Outcome State Fault Refusal :=
  match i with
  | .readStatus st => Sys2Proof.Machine.execReadStatus st s
  | .readPlan st offset limit => Sys2Proof.Machine.execReadPlan st offset limit s
  | .readStep st stepId => Sys2Proof.Machine.execReadStep st stepId s
  | .readLot st slot offset limit => Sys2Proof.Machine.execReadLot st slot offset limit s
  | .readHolds st => Sys2Proof.Machine.execReadHolds st s
  | .readHatchMap st page offset limit => Sys2Proof.Machine.execReadHatchMap st page offset limit s
  | .readBill st number offset limit => Sys2Proof.Machine.execReadBill st number offset limit s
  | .readTransit st => Sys2Proof.Machine.execReadTransit st s
  | .readSettings st offset limit => Sys2Proof.Machine.execReadSettings st offset limit s
  | .fetchEvent st => Sys2Proof.Machine.execFetchEvent st s
  | .startStep revision => Sys2Proof.Machine.execStartStep revision s
  | .resume => Sys2Proof.Machine.execResume s
  | .stopStep => Sys2Proof.Machine.execStopStep s
  | .setFeedLevel level => Sys2Proof.Machine.execSetFeedLevel level s
  | .presence body => Sys2Proof.Machine.execPresence body s
  | .acknowledgeTrip => Sys2Proof.Machine.execAcknowledgeTrip s
  | .clearStop => Sys2Proof.Machine.execClearStop s
  | .goToHold hold => Sys2Proof.Machine.execGoToHold hold s
  | .goToPosition position => Sys2Proof.Machine.execGoToPosition position s
  | .referenceTravel => Sys2Proof.Machine.execReferenceTravel s
  | .cancelTravel => Sys2Proof.Machine.execCancelTravel s
  | .clearTravelFault => Sys2Proof.Machine.execClearTravelFault s
  | .setDiverter value => Sys2Proof.Machine.execSetDiverter value s
  | .holdPour => Sys2Proof.Machine.execHoldPour s
  | .releasePour => Sys2Proof.Machine.execReleasePour s
  | .openCall callId band => Sys2Proof.Machine.execOpenCall callId band s
  | .closeCall => Sys2Proof.Machine.execCloseCall s
  | .insertStep position hold slot target maxLevel => Sys2Proof.Machine.execInsertStep position hold slot target maxLevel s
  | .modifyStep stepId target level => Sys2Proof.Machine.execModifyStep stepId target level s
  | .deleteStep stepId => Sys2Proof.Machine.execDeleteStep stepId s
  | .cancelStep stepId => Sys2Proof.Machine.execCancelStep stepId s
  | .closeStepShort stepId => Sys2Proof.Machine.execCloseStepShort stepId s
  | .releaseHold stepId => Sys2Proof.Machine.execReleaseHold stepId s
  | .setTrimBand band => Sys2Proof.Machine.execSetTrimBand band s
  | .writeHatchEntry page hold present fore aft lever limit => Sys2Proof.Machine.execWriteHatchEntry page hold present fore aft lever limit s
  | .requestSwap => Sys2Proof.Machine.execRequestSwap s
  | .cancelSwap => Sys2Proof.Machine.execCancelSwap s
  | .openLot number grade refLength reference declared => Sys2Proof.Machine.execOpenLot number grade refLength reference declared s
  | .closeLot number => Sys2Proof.Machine.execCloseLot number s
  | .releaseBill number => Sys2Proof.Machine.execReleaseBill number s
  | .setTime seconds => Sys2Proof.Machine.execSetTime seconds s
  | .writeSetting identifier value => Sys2Proof.Machine.execWriteSetting identifier value s
  | .acceptSettings => Sys2Proof.Machine.execAcceptSettings s
  | .writeCalibration zero span band calUnlock => Sys2Proof.Machine.execWriteCalibration zero span band calUnlock s
  | .frameComplete port chars => Sys2Proof.Machine.execFrameComplete port chars s
  | .stopBitMissing port => Sys2Proof.Machine.execStopBitMissing port s
  | .idleGap port => Sys2Proof.Machine.execIdleGap port s
  | .lineBreak port => Sys2Proof.Machine.execLineBreak port s
  | .takeRequest port calUnlock => Sys2Proof.Machine.execTakeRequest port calUnlock s
  | .replySent port => Sys2Proof.Machine.execReplySent port s
  | .conversionComplete code => Sys2Proof.Machine.execConversionComplete code s
  | .refOkFall => Sys2Proof.Machine.execRefOkFall s
  | .refOkRise => Sys2Proof.Machine.execRefOkRise s
  | .wGroupArrival => Sys2Proof.Machine.execWGroupArrival s
  | .referenceFaultNotice consumer => Sys2Proof.Machine.execReferenceFaultNotice consumer s
  | .referenceGoodNotice consumer => Sys2Proof.Machine.execReferenceGoodNotice consumer s
  | .tachPulse => Sys2Proof.Machine.execTachPulse s
  | .dGroupArrival => Sys2Proof.Machine.execDGroupArrival s
  | .highHoldExpiry => Sys2Proof.Machine.execHighHoldExpiry s
  | .referenceTimerExpiry => Sys2Proof.Machine.execReferenceTimerExpiry s
  | .encoderCount direction => Sys2Proof.Machine.execEncoderCount direction s
  | .travelSpeedPeriodEnd => Sys2Proof.Machine.execTravelSpeedPeriodEnd s
  | .homeCloses closed => Sys2Proof.Machine.execHomeCloses closed s
  | .limitSwitchAsserted switch asserted => Sys2Proof.Machine.execLimitSwitchAsserted switch asserted s
  | .travelTimerExpiry => Sys2Proof.Machine.execTravelTimerExpiry s
  | .runOutTimerExpiry => Sys2Proof.Machine.execRunOutTimerExpiry s
  | .estopAsserted => Sys2Proof.Machine.execEstopAsserted s
  | .estopReleased => Sys2Proof.Machine.execEstopReleased s
  | .beltRunFall => Sys2Proof.Machine.execBeltRunFall s
  | .beltRunRise => Sys2Proof.Machine.execBeltRunRise s
  | .governorPeriodExpiry => Sys2Proof.Machine.execGovernorPeriodExpiry s
  | .feedRatePeriodEnd => Sys2Proof.Machine.execFeedRatePeriodEnd s
  | .presenceTimerExpiry => Sys2Proof.Machine.execPresenceTimerExpiry s
  | .secondsTick => Sys2Proof.Machine.execSecondsTick s
  | .powerOn => Sys2Proof.Machine.execPowerOn s
  | .resetNAsserted => Sys2Proof.Machine.execResetNAsserted s
  | .coldStartRecovery abandoned => Sys2Proof.Machine.execColdStartRecovery s abandoned
  | .characterReceived port char => Sys2Proof.Machine.execCharacterReceived port char s

end Sys2Proof.Machine
end

