-- ==== Sys2Proof/Machine/Step.lean ====
section
/-! DEFINITION. One step of the machine: the command at the front of the queue, or a millisecond with none waiting; and the placing of a table word's command in front. -/

namespace Sys2Proof.Machine

open Sys2Proof

/-- One step: the command at the front of the queue is taken and run with the queue's rest; with the queue empty a
millisecond passes (log entry 7). -/
def step (s : State) : Host.Outcome State Fault Refusal :=
  match s.pending with
  | c :: rest => exec c { s with pending := rest }
  | [] => .next (tick s)

/-- The state with a command put at the front of its queue. -/
def State.putFirst (s : State) (c : Instr) : State := { s with pending := c :: s.pending }

/-- The state with the command that a table word spells put at the front of its queue; a word that spells none leaves the
state as it is. -/
def State.withFetchWord (s : State) (nbits w : Nat) : State :=
  match Sys2Proof.decodeTableWord nbits w with
  | some c => s.putFirst c
  | none => s

end Sys2Proof.Machine
end

