-- ==== Sys2Proof/Machine/Encode.lean ====
section
/-! DEFINITION. The request code and body bytes that a request command has on a station line, from the request lists of section 8.8. -/

namespace Sys2Proof.Machine

open Sys2Proof

/-- The request code and the body of a request, multi-byte fields low byte first (section 8.8); none for a command that is no
request. The reference field of Open Lot is 24 bytes as it stands on the line. -/
def lineBytes : Instr → Option (Byte × List Byte)
  | .readStatus _ => some (0x01, [])
  | .readPlan _ offset limit => some (0x02, le 2 offset.toNat ++ le 2 limit.toNat)
  | .readStep _ id => some (0x03, le 2 id.toNat)
  | .readLot _ slot offset limit => some (0x04, [slot] ++ le 2 offset.toNat ++ le 2 limit.toNat)
  | .readHolds _ => some (0x05, [])
  | .readHatchMap _ page offset limit => some (0x06, [page] ++ le 2 offset.toNat ++ le 2 limit.toNat)
  | .readBill _ number offset limit => some (0x07, le 4 number.toNat ++ le 2 offset.toNat ++ le 2 limit.toNat)
  | .readTransit _ => some (0x08, [])
  | .readSettings _ offset limit => some (0x09, le 2 offset.toNat ++ le 2 limit.toNat)
  | .fetchEvent _ => some (0x0F, [])
  | .startStep revision => some (0x10, le 2 revision.toNat)
  | .resume => some (0x11, [])
  | .stopStep => some (0x12, [])
  | .setFeedLevel level => some (0x13, [level])
  | .presence body => some (0x14, body)
  | .acknowledgeTrip => some (0x15, [])
  | .clearStop => some (0x16, [])
  | .goToHold hold => some (0x20, [hold])
  | .goToPosition position => some (0x21, le 4 position.toNat)
  | .referenceTravel => some (0x22, [])
  | .cancelTravel => some (0x23, [])
  | .clearTravelFault => some (0x24, [])
  | .setDiverter value => some (0x25, [value])
  | .holdPour => some (0x28, [])
  | .releasePour => some (0x29, [])
  | .openCall callId none => some (0x30, le 4 callId.toNat)
  | .openCall callId (some band) => some (0x30, le 4 callId.toNat ++ le 2 band.toNat)
  | .closeCall => some (0x31, [])
  | .insertStep position hold slot target maxLevel =>
    some (0x32, [position, hold, slot] ++ le 2 target.toNat ++ [maxLevel])
  | .modifyStep id target level => some (0x33, le 2 id.toNat ++ le 2 target.toNat ++ [level])
  | .deleteStep id => some (0x34, le 2 id.toNat)
  | .cancelStep id => some (0x35, le 2 id.toNat)
  | .closeStepShort id => some (0x36, le 2 id.toNat)
  | .releaseHold id => some (0x37, le 2 id.toNat)
  | .setTrimBand band => some (0x38, le 2 band.toNat)
  | .writeHatchEntry page hold present fore aft lever limit =>
    some (0x40, [page, hold, present] ++ le 4 fore.toNat ++ le 4 aft.toNat ++ le 2 lever.toNat ++ le 2 limit.toNat)
  | .requestSwap => some (0x41, [])
  | .cancelSwap => some (0x42, [])
  | .openLot number grade refLength reference declared =>
    some (0x50, le 4 number.toNat ++ [grade, refLength] ++ reference ++ le 4 declared.toNat)
  | .closeLot number => some (0x51, le 4 number.toNat)
  | .releaseBill number => some (0x52, le 4 number.toNat)
  | .setTime seconds => some (0x53, le 4 seconds.toNat)
  | .writeSetting identifier value => some (0x60, le 2 identifier.toNat ++ le 4 value.toNat)
  | .acceptSettings => some (0x61, [])
  | .writeCalibration zero span band _ => some (0x68, le 2 zero.toNat ++ le 2 span.toNat ++ [band])
  | .frameComplete _ _ | .stopBitMissing _ | .idleGap _ | .lineBreak _ | .takeRequest _ _ | .replySent _
  | .conversionComplete _ | .refOkFall | .refOkRise | .wGroupArrival | .referenceFaultNotice _ | .referenceGoodNotice _
  | .tachPulse | .dGroupArrival | .highHoldExpiry | .referenceTimerExpiry | .encoderCount _ | .travelSpeedPeriodEnd
  | .homeCloses _ | .limitSwitchAsserted _ _ | .travelTimerExpiry | .runOutTimerExpiry | .estopAsserted
  | .estopReleased | .beltRunFall | .beltRunRise | .governorPeriodExpiry | .feedRatePeriodEnd | .presenceTimerExpiry
  | .secondsTick | .powerOn | .resetNAsserted | .coldStartRecovery _ | .characterReceived _ _ => none

end Sys2Proof.Machine
end

