-- ==== Sys2Proof/Safety.lean ====
section
/-! DEFINITION. What a safe run of the loader is: the laws of the device that the manual states, each a predicate on the state. The claims say that every step keeps them. -/

namespace Sys2Proof.Machine

open Sys2Proof

/-! ### Events and attention (R169, R171) -/

/-- One station's set: ATTN follows it (R171), it has at most one entry of a kind, in order of priority, and counts stand
in 1..255 (R169). -/
abbrev EventSet.Lawful (x : EventSet) : Prop :=
  x.attn = !x.entries.isEmpty ∧ x.entries.Pairwise (fun p q => p.event.kind < q.event.kind) ∧
  ∀ p ∈ x.entries, 1 ≤ p.count ∧ p.count ≤ 255

/-- The attention law (R171) with the form of the pending sets (R169), at the three stations. -/
def Events.Lawful (x : Events) : Prop := x.cab.Lawful ∧ x.deck.Lawful ∧ x.office.Lawful

/-- The attention law of a state. -/
abbrev AttentionLaw (s : State) : Prop := s.events.Lawful

/-! ### Station ports (section 8.1) -/

/-- The bytes of the frame in progress fit the framer's state (R157, R158). -/
abbrev Port.FrameFits (p : Port) : Prop :=
  match p.framer with
  | .waitGap => p.frame = []
  | .ready => p.frame = []
  | .header => 1 ≤ p.frame.length ∧ p.frame.length ≤ 4
  | .body => 5 ≤ p.frame.length ∧ p.frame.length < 5 + headerLength p.frame ∧ headerLength p.frame ≤ 512
  | .footer => 5 + headerLength p.frame ≤ p.frame.length ∧ p.frame.length < 7 + headerLength p.frame ∧
      headerLength p.frame ≤ 512 ∧ 1 ≤ headerLength p.frame

/-- One port: a queue of at most four entries with bodies of at most 512 bytes, HOLDOFF exactly while it holds four, a
reply on the line only for the entry at its head, and a frame that fits the framer (section 8.1, R160, R162). -/
abbrev Port.Lawful (p : Port) : Prop :=
  p.queue.length ≤ 4 ∧ p.holdoff = decide (p.queue.length = 4) ∧ (∀ e ∈ p.queue, e.body.length ≤ 512) ∧
  (p.sending = true → p.queue ≠ []) ∧ (p.sending = false → p.reply = []) ∧ p.FrameFits

/-- The law of the three ports. -/
def Ports.Lawful (x : Ports) : Prop := x.cab.Lawful ∧ x.deck.Lawful ∧ x.office.Lawful

/-- The port law of a state. -/
abbrev PortLaw (s : State) : Prop := s.ports.Lawful

/-! ### Settings (R20, R30, R41, R42, R67, R134) -/

/-- Every setting of the record is in its range, and each channel has its hysteresis below its warn level and that below
its high level (R42). -/
def Settings.Lawful (x : Settings) : Prop :=
  (∀ k ∈ recordKeys, k.inRange (settingValue x 0 k) = true) ∧
  (∀ c : ChannelNo, (x.channels.get c).hysteresis < (x.channels.get c).warnLevel ∧
    (x.channels.get c).warnLevel < (x.channels.get c).highLevel) ∧
  x.homePosition ≤ x.railLength

/-- The settings law of a state. -/
abbrev SettingsLaw (s : State) : Prop := s.store.settings.Lawful

/-- The preact law (R121): the preact stays within 0..Pmax. -/
abbrev PreactLaw (s : State) : Prop := s.governor.preact ≤ preactMaxGrams s

/-! ### The hatch map (R61, R66, R67) -/

/-- A position lies in the pour windows of two entries under margin `m` (R66). -/
abbrev Hatch.shares (e f : Hatch) (m : Nat) : Prop :=
  (e.fore : Int) + m ≤ (e.aft : Int) - m ∧ (f.fore : Int) + m ≤ (f.aft : Int) - m ∧
  (e.fore : Int) + m ≤ (f.aft : Int) - m ∧ (f.fore : Int) + m ≤ (e.aft : Int) - m

/-- The hatch law (R61, R66, R67): every entry of either page is in its ranges, lies on the rail and has a pour window under
the stored margin, and no two windows of a page share a position. -/
abbrev HatchLaw (s : State) : Prop :=
  (∀ p h, ∀ e ∈ (s.travel.pages.get p).get h,
    e.fore < e.aft ∧ e.aft ≤ s.store.settings.railLength ∧ e.fore ≤ 250000 ∧ e.aft ≤ 250000 ∧
    -999 ≤ e.lever ∧ e.lever ≤ 999 ∧ e.limit ≤ 20000 ∧
    e.fore + s.store.settings.pourMargin + s.store.settings.pourMargin ≤ e.aft) ∧
  ∀ p h k, h ≠ k → ∀ e ∈ (s.travel.pages.get p).get h, ∀ f ∈ (s.travel.pages.get p).get k,
    ¬ e.shares f s.store.settings.pourMargin

/-! ### Weighing (section 1.1, R14) -/

/-- The sum of the masses in a line. -/
def lineMass (line : List Entry) : Nat := (line.map Entry.mass).sum

/-- An entry of the line: a mass of at most 1,999,998 g, tagged exactly when it is not 0 (section 1.1). -/
abbrev Entry.Lawful (e : Entry) : Prop := e.mass ≤ 1999998 ∧ (e.tag = none ↔ e.mass = 0)

/-- The line law (R14) with the ranges of the weigher's state (section 1.1). -/
def Weigher.Lawful (w : Weigher) (n : Nat) : Prop :=
  w.line.length = n ∧ w.lineTotal = lineMass w.line ∧ (∀ e ∈ w.line, e.Lawful) ∧
  w.segmentSum ≤ 999999 * w.segmentCount ∧ w.segmentCount ≤ 4294967295 ∧ w.lastMean ≤ 999999 ∧ w.holdLast ≤ 4 ∧
  w.pulseCount ≤ 255

/-- The weigher's law of a state: its line has N entries as stored. -/
abbrev WeigherLaw (s : State) : Prop := s.weigher.Lawful s.store.settings.lineLength

/-! ### Dust (R48, R51, R52, R54, R56) -/

/-- An enabled channel among `cs` is in WARN, HIGH or FAULT. -/
abbrev Dust.raised (d : Dust) (mask : BitVec 8) (cs : List ChannelNo) : Prop :=
  ∃ c ∈ cs, enabled mask c = true ∧ (d.channels.get c).stage ≠ .normal

/-- An enabled channel is in a stage. -/
abbrev Dust.someIn (d : Dust) (mask : BitVec 8) (g : ChannelStage) : Prop :=
  ∃ c ∈ allChannels, enabled mask c = true ∧ (d.channels.get c).stage = g

/-- The law of the dust stage: it is TRIP exactly while the latch is set (R54), and with the latch clear it is the highest
of the enabled channels' stages (R51); an enabled channel in FAULT holds the latch (R48, R55); the high-hold timer runs
exactly while the stage is HIGH (R52); each suppression output is on exactly while the latch is set or an enabled channel
of its zone is not NORMAL (R56). -/
def Dust.Lawful (d : Dust) (mask : BitVec 8) : Prop :=
  (d.tripLatch.isSome = true ↔ d.stage = .trip) ∧
  (d.someIn mask .fault → d.tripLatch.isSome = true) ∧
  (d.tripLatch = none →
    (d.stage = .high ↔ d.someIn mask .high) ∧ (d.stage = .warn ↔ ¬ d.someIn mask .high ∧ d.someIn mask .warn)) ∧
  (d.highHold.isSome = true ↔ d.stage = .high) ∧
  (d.suppress.spout = true ↔ d.tripLatch.isSome = true ∨ d.raised mask [0, 1, 2, 3]) ∧
  (d.suppress.boom = true ↔ d.tripLatch.isSome = true ∨ d.raised mask [4]) ∧
  (d.suppress.tower = true ↔ d.tripLatch.isSome = true ∨ d.raised mask [5, 6]) ∧
  (d.suppress.gallery = true ↔ d.tripLatch.isSome = true ∨ d.raised mask [7])

/-- The dust law of a state; before recovery the monitor is as R59 gives it. -/
abbrev DustLaw (s : State) : Prop :=
  s.dust.Lawful s.store.settings.mask ∧ (s.phase = .cold → s.dust = Dust.cold)

/-! ### The plan (section 5.1, R92) -/

/-- A step that is ACTIVE or HELD. -/
def Step.begun (st : Step) : Bool := st.state == .active || st.state == .held

/-- The fields of a step that its state fixes (section 5.1): a hold reason only in HELD, a cutoff reason only in ACTIVE, an
effective target exactly in ACTIVE and HELD. -/
abbrev Step.Lawful (st : Step) : Prop :=
  1 ≤ st.id ∧ st.id ≤ 65535 ∧ (st.holdReason.isSome = true → st.state = .held) ∧
  (st.cutoffReason.isSome = true → st.state = .active) ∧ (st.effective.isSome = true ↔ st.begun = true)

/-- The plan law: at most 48 steps with ids all different, no step while no call is open (R87), and every step before an
ACTIVE or HELD one finished, so that there is at most one such step and it is the current one (R92). -/
def Plan.Lawful (p : Plan) : Prop :=
  p.steps.length ≤ 48 ∧ (p.callOpen = false → p.steps = []) ∧
  (∀ st ∈ p.steps, st.Lawful) ∧ p.steps.Pairwise (fun a b => a.id ≠ b.id) ∧
  p.steps.Pairwise (fun a b => b.begun = true → a.unfinished = false) ∧
  1 ≤ p.stepIdCounter ∧ p.stepIdCounter ≤ 65535 ∧ p.revision < 65536

/-- The plan law of a state. -/
abbrev PlanLaw (s : State) : Prop := s.plan.Lawful

/-! ### The loader: feed and travel (R83, R109, R110, R115) -/

/-- The nine conditions under which alone FEED_PERMIT may be asserted (R110). -/
abbrev MayFeed (s : State) : Prop :=
  s.governor.state.feeding = true ∧ (s.dust.stage = .clear ∨ s.dust.stage = .warn) ∧
  (∃ st, activeStep s.plan = some st ∧ s.travel.spoutOver = some st.hold) ∧ s.pins.beltRun = true ∧
  s.governor.beltPermit = true ∧ s.pins.estop = false ∧ s.governor.presenceLive = true ∧
  s.weigher.scale = .normal ∧ s.travel.diverter = .normal ∧ s.store.defaulted = false

/-- The permit law (R110). -/
abbrev PermitLaw (s : State) : Prop :=
  (s.governor.feedPermit = true ↔ s.governor.state.feeding = true) ∧ (s.governor.feedPermit = true → MayFeed s)

/-- The travel law (R83): the carriage moves only while no step is ACTIVE, FEED_PERMIT is deasserted, and the line total is
0 or DIVERTER is REJECT. -/
abbrev TravelLaw (s : State) : Prop :=
  s.travel.state.inMotion = true →
    stepActive s = false ∧ s.governor.feedPermit = false ∧ (s.weigher.lineTotal = 0 ∨ s.travel.diverter = .reject)

/-- What holds with the permit and travel laws in a running part: the governor is IDLE exactly while no step is ACTIVE
(R109); the belt permit follows the stage and ESTOP (R132); the travel timer runs only in motion and the run-out timer only
in PENDING, which is entered from PARKED or UNREFERENCED (R69, R70, R76); the spout is over a hold only at a referenced
position (R66); and an ACTIVE step keeps the carriage at rest and referenced, the diverter at NORMAL and the settings not
DEFAULTED (R69, R80, R83, R110, R111), with, until its cutoff, the spout over its hold and the scale NORMAL (R129, R130). -/
abbrev RunningLaw (s : State) : Prop :=
  (stepActive s = false ↔ s.governor.state = .idle) ∧
  s.governor.beltPermit = (s.dust.stage != .trip && !s.pins.estop) ∧
  (s.travel.travelTimer.isSome = true → s.travel.state.inMotion = true) ∧
  (s.travel.runOutTimer.isSome = true → s.travel.state = .pending) ∧
  (s.travel.state = .pending → s.travel.beforePending = .parked ∨ s.travel.beforePending = .unreferenced) ∧
  (s.travel.spoutOver.isSome = true → s.travel.referenced = true) ∧
  (∀ st, activeStep s.plan = some st →
    (s.travel.state = .parked ∨ s.travel.state = .stopped) ∧ s.travel.referenced = true ∧
    s.travel.diverter = .normal ∧ s.store.defaulted = false ∧
    (s.governor.state ≠ .cutoff → s.travel.spoutOver = some st.hold ∧ s.weigher.scale = .normal))

/-- What holds in a part held at cold start: feed is off, the carriage is at rest with the spout over no hold (R86), and the
Dust Monitor is as R59 gives it. -/
abbrev ColdLaw (s : State) : Prop :=
  s.governor.state = .idle ∧ s.governor.feedPermit = false ∧ s.travel.state = .unreferenced ∧
  s.travel.travelTimer = none ∧ s.travel.runOutTimer = none ∧ s.travel.spoutOver = none ∧ s.dust = Dust.cold ∧
  s.travel.swapPending = false

/-- The law of the loader: the permit law and the travel law, with what they rest on. -/
abbrev LoaderLaw (s : State) : Prop :=
  PermitLaw s ∧ TravelLaw s ∧ (s.phase = .running → RunningLaw s) ∧ (s.phase = .cold → ColdLaw s)

/-- The law of the feed level (R110, R115, R116): outside the feeding states the level is 0; in them it does not pass the
ceiling, which is the least of its terms; in RUNNING it is the ceiling; and its duty is the one staged. -/
abbrev LevelLaw (s : State) : Prop :=
  (s.governor.state.feeding = false → s.governor.level = 0) ∧
  (s.governor.state.feeding = true → s.governor.level ≤ s.governor.ceiling ∧ s.governor.ceiling = ceilingNow s) ∧
  (s.governor.state = .running → s.governor.level = s.governor.ceiling) ∧
  s.governor.dutyStaged = (s.governor.level * 255 + 50) / 100

/-! ### The page swap (R63) -/

/-- The swap law (R63): no swap stays pending while its three conditions hold together, and none is pending before recovery
(R86). -/
abbrev SwapLaw (s : State) : Prop :=
  (s.travel.swapPending = true → swapReady s = false) ∧ (s.phase = .cold → s.travel.swapPending = false)

/-! ### Accounts (R140, R143, R148) -/

/-- The law of the bills (R148, R149): at most 32, their numbers rising strictly in issue order and all below the counter,
which never stands at 0. -/
def Accounts.BillsLawful (a : Accounts) : Prop :=
  a.bills.length ≤ 32 ∧ a.bills.Pairwise (fun x y => x.number < y.number) ∧
  (∀ b ∈ a.bills, 1 ≤ b.number ∧ b.number ≤ 4294967295 ∧ ∀ n ∈ a.billCounter, b.number < n) ∧
  (∀ n ∈ a.billCounter, 1 ≤ n ∧ n ≤ 4294967295)

/-- The bill law of a state. -/
abbrev BillLaw (s : State) : Prop := s.accounts.BillsLawful

/-- An account balances with the grain in the line (R140). -/
abbrev Balanced (s : State) (acc : Account) : Prop :=
  (s.accounts.ledger acc).weighed = (s.accounts.ledger acc).booked + massInLine s.weigher.line acc

/-- A lot slot is OPEN. -/
abbrev slotOpen (s : State) (i : Slot) : Prop := (s.accounts.lots.get i).isOpen = true

/-- The balance law (R140), with what keeps it: an unfinished step and the weighing lot name OPEN slots (R19, R145), a FREE
slot has nothing booked and nothing in the line (R137, R145), and in a running part every account balances; before recovery
no account has booked more than it weighed (R176). -/
abbrev BalanceLaw (s : State) : Prop :=
  (∀ st ∈ s.plan.steps, st.unfinished = true → slotOpen s st.slot) ∧
  (∀ i, s.weigher.weighingLot = some i → slotOpen s i) ∧
  (∀ i, ¬ slotOpen s i → (s.accounts.ledger (.lot i)).weighed = 0 ∧ (s.accounts.ledger (.lot i)).booked = 0) ∧
  (s.phase = .running → ∀ acc, Balanced s acc) ∧
  (s.phase = .cold → s.weigher.lineTotal = 0 ∧
    ∀ acc, (s.accounts.ledger acc).booked ≤ (s.accounts.ledger acc).weighed)

/-- A split list has at most one split for a hold (R141). -/
abbrev Ledger.SplitsLawful (l : Ledger) : Prop := l.splits.Pairwise (fun x y => x.1 ≠ y.1)

/-- The split law (R141, R146): so it is in every account and in every bill. -/
abbrev SplitLaw (s : State) : Prop :=
  (∀ acc, (s.accounts.ledger acc).SplitsLawful) ∧ ∀ b ∈ s.accounts.bills, b.ledger.SplitsLawful

/-- No account is within one segment of the end of its 64 bits. -/
abbrev MassesFit (s : State) : Prop := ∀ acc, (s.accounts.ledger acc).weighed + 2000000 < 2 ^ 64

/-- The moment law (R143): the moment is the sum over the holds of credited mass times the lever on the active page, and 0
when no call is open; then no hold is credited, both pages are empty and the spout is over no hold (R65, R153). -/
abbrev MomentLaw (s : State) : Prop :=
  s.accounts.moment = momentOn s.travel.activeMap s.accounts.credited ∧
  (s.plan.callOpen = false →
    s.accounts.moment = 0 ∧ s.travel.spoutOver = none ∧
    (∀ h, s.accounts.credited.get h = 0) ∧ ∀ p h, (s.travel.pages.get p).get h = none)

/-- The levers of both pages are in the range of section 4.1, and no hold or moment is within one segment of the end of its
64 bits. -/
abbrev MomentFits (s : State) : Prop :=
  (∀ p h e, (s.travel.pages.get p).get h = some e → -999 ≤ e.lever ∧ e.lever ≤ 999) ∧
  (∀ h, s.accounts.credited.get h + 2000000 < 2 ^ 64) ∧
  ∀ p, -2 ^ 62 < momentOn (s.travel.pages.get p) s.accounts.credited ∧
    momentOn (s.travel.pages.get p) s.accounts.credited < 2 ^ 62

/-! ### Shapes of the claims -/

/-- Every step keeps a law: from any state that meets it, whatever command is taken, or none. -/
def Keeps (law : State → Prop) : Prop := ∀ s t : State, law s → step s = .next t → law t

/-- The state with an answer to a request of a station kept beside it (log entry 1). -/
abbrev State.replied (s : State) (st : Station) (r : Result) (data : List Byte) : State :=
  { s with answer := some (st, { result := r, data := data }) }

/-- The state with a refusal NOT_READY and its reason kept (section 8.8). -/
abbrev State.notReady (s : State) (st : Station) (r : NotReadyReason) : State := s.replied st .notReady [r.code]

/-- An answer is that of the first test of a list that applies (R69, R111, R124). -/
def FirstTest (tests : List (Bool × Answer)) (a : Answer) : Prop :=
  ∃ before after, tests = before ++ (true, a) :: after ∧ ∀ x ∈ before, x.1 = false

/-- The splits of a record, 9 bytes each from byte `start` on: the hold and the placed mass (section 8.8). -/
def SplitFields (d : List Byte) (start : Nat) (splits : List (Hold × Nat)) : Prop :=
  ∀ k x, splits[k]? = some x →
    field d (start + 9 * k) 1 = x.1.val + 1 ∧ field d (start + 9 * k + 1) 8 = x.2 % 2 ^ 64

/-- The fields of a lot record that every account has, with the mass in the line and the balance (section 8.8, R154). -/
def LedgerFields (d : List Byte) (l : Ledger) (inLine : Nat) : Prop :=
  d.length = 100 + 9 * l.splits.length ∧
  field d 37 8 = l.weighed % 2 ^ 64 ∧ field d 45 8 = l.estimated % 2 ^ 64 ∧ field d 53 2 = l.unweighed % 65536 ∧
  field d 55 8 = l.rejected % 2 ^ 64 ∧ field d 63 8 = l.spilled % 2 ^ 64 ∧ field d 71 8 = l.unplaced % 2 ^ 64 ∧
  field d 83 8 = inLine % 2 ^ 64 ∧
  (field d 91 8 : Int) = ((l.weighed : Int) - (l.splits.map Prod.snd).sum - l.rejected - l.spilled - l.unplaced -
    inLine) % 2 ^ 64 ∧
  field d 99 1 = l.splits.length % 256 ∧ SplitFields d 100 l.splits

/-- The data of a read with a limit (R165), from `offset` on in `entries`, with a fixed part and a reply limit: the more flag
and the continue offset, the fixed part, and the entries sent, which are as many as fit and at least one while any is left. -/
def ReadInParts (data fixed : List Byte) (entries : List (List Byte)) (offset limit : Nat) : Prop :=
  ∃ sent rest, entries.drop offset = sent ++ rest ∧
    data = [yesNo (!rest.isEmpty)] ++
      le 2 (if entries.length ≤ offset then entries.length else offset + sent.length) ++ fixed ++ sent.flatten ∧
    (sent = [] → rest = []) ∧ (2 ≤ sent.length → data.length ≤ limit) ∧
    ∀ e ∈ rest.head?, limit < data.length + e.length

/-- The station that sends a request; `none` for a command that is no request. -/
def requestSender : Instr → Option Station
  | .readStatus st | .readPlan st _ _ | .readStep st _ | .readLot st _ _ _ | .readHolds st | .readHatchMap st _ _ _
  | .readBill st _ _ _ | .readTransit st | .readSettings st _ _ | .fetchEvent st => some st
  | .startStep _ | .resume | .stopStep | .setFeedLevel _ | .presence _ | .acknowledgeTrip | .clearStop
  | .goToHold _ | .goToPosition _ | .referenceTravel | .cancelTravel | .clearTravelFault | .setDiverter _ => some .cab
  | .holdPour | .releasePour | .openCall _ _ | .closeCall | .insertStep _ _ _ _ _ | .modifyStep _ _ _ | .deleteStep _
  | .cancelStep _ | .closeStepShort _ | .releaseHold _ | .setTrimBand _ | .writeHatchEntry _ _ _ _ _ _ _
  | .requestSwap | .cancelSwap => some .deck
  | .openLot _ _ _ _ _ | .closeLot _ | .releaseBill _ | .setTime _ | .writeSetting _ _ | .acceptSettings
  | .writeCalibration _ _ _ _ => some .office
  | .frameComplete _ _ | .stopBitMissing _ | .idleGap _ | .lineBreak _ | .takeRequest _ _ | .replySent _
  | .conversionComplete _ | .refOkFall | .refOkRise | .wGroupArrival | .referenceFaultNotice _ | .referenceGoodNotice _
  | .tachPulse | .dGroupArrival | .highHoldExpiry | .referenceTimerExpiry | .encoderCount _ | .travelSpeedPeriodEnd
  | .homeCloses _ | .limitSwitchAsserted _ _ | .travelTimerExpiry | .runOutTimerExpiry | .estopAsserted
  | .estopReleased | .beltRunFall | .beltRunRise | .governorPeriodExpiry | .feedRatePeriodEnd | .presenceTimerExpiry
  | .secondsTick | .powerOn | .resetNAsserted | .coldStartRecovery _ | .characterReceived _ _ => none

/-- The least of the ceiling's terms for a step with maximum feed level `m`, outside DRIBBLE (R115). -/
def feedCeiling (s : State) (m : Option Nat) : Nat :=
  min (min s.governor.requested (m.getD s.governor.requested))
    (if s.dust.stage = .warn then s.store.settings.warnFeedLevel else s.governor.requested)

/-- The governor after a pause cause taken while feeding (R123), with the ceiling that it is left with. -/
abbrev Governor.pausedFor (g : Governor) (r : PauseReason) (ceiling : Nat) : Governor :=
  { g with
    state := .paused, feedPermit := false, level := 0, dutyStaged := 0, tail := 0, pauseSet := g.pauseSet.add r,
    ceiling := ceiling }

/-- The ceiling after a departure from a feeding state: recomputed on leaving DRIBBLE, else as it stood (R115). -/
abbrev ceilingLeft (s : State) : Nat :=
  if s.governor.state = .dribble then feedCeiling s (activeMaximum s) else s.governor.ceiling

/-- The governor under a recomputed ceiling: a level above it falls to it with its duty, and RUNNING below it becomes RAMPING
(R115). -/
abbrev Governor.under (g : Governor) (ceiling : Nat) : Governor :=
  { g with
    ceiling := ceiling
    level := min g.level ceiling
    dutyStaged := if ceiling < g.level then (ceiling * 255 + 50) / 100 else g.dutyStaged
    state := if g.state = .running ∧ g.level < ceiling then .ramping else g.state }

/-- What the re-evaluation notice makes of a state `s` whose ACTIVE step is `x` (R128): `t` has the effective target computed
anew in the step record and the governor, the ceiling recomputed, and the step cut off for TRIM, dribbling, ramping or as it
was, by the governor's state and the committed mass. -/
def ReEvaluated (s : State) (x : Step) (t : State) : Prop :=
  let target := effectiveTarget s x
  let mass := x.placed + s.weigher.lineTotal + s.governor.preact
  let near := target ≤ mass + s.store.settings.dribbleBand * 100000
  let full := feedCeiling s x.maxLevel
  let low := min full s.store.settings.dribbleLevel
  let runsOut := s.weigher.lineTotal = 0 ∧ s.store.settings.tailSegments ≤ s.governor.tail
  let revision := (s.plan.revision + 1) % 65536
  let written := fun (f : Step → Step) =>
    s.plan.steps.map (fun y => if y.state = .active then f { y with effective := some target } else y)
  let g := { s.governor with effective := some target }
  let shut := { g with
    feedPermit := false, level := 0, dutyStaged := 0, ceiling := full
    pauseSet := { dust := false, cabSilent := false, deckHold := false, beltStopped := false, estop := false } }
  (s.governor.state = .idle → t = s) ∧
  -- fed or PAUSED, and the new target is reached: cut off for TRIM
  (target ≤ mass → s.governor.state.feeding = true ∨ (s.governor.state = .paused ∧ ¬ runsOut) →
    t = { s with
      governor := { shut with
        state := .cutoff, tail := if s.governor.state.feeding = true then 0 else s.governor.tail }
      plan := { s.plan with
        revision := revision, steps := written (fun y => { y with cutoffReason := some .trim }) }
      events := s.events.raise (.planChanged revision) }) ∧
  -- from PAUSED with the run-out test already holding, the step completes at once as HELD(TRIM)
  (target ≤ mass → s.governor.state = .paused → runsOut →
    t = swapTest { s with
      governor := { shut with state := .idle, effective := none }
      plan := { s.plan with
        revision := (revision + 1) % 65536
        steps := written (fun y => { y with state := .held, holdReason := some .trim, cutoffReason := none }) }
      events := ((s.events.raise (.planChanged revision)).raise
        (.planChanged ((revision + 1) % 65536))).raise (.stepHeld x.id .trim) }) ∧
  -- short of the target: RAMPING or RUNNING dribbles within the dribble band, DRIBBLE leaves it outside, PAUSED waits
  (mass < target → s.governor.state = .ramping ∨ s.governor.state = .running →
    t = { s with
      governor := if near then { g.under low with state := .dribble } else g.under full
      plan := { s.plan with steps := written id } }) ∧
  (mass < target → s.governor.state = .dribble →
    t = { s with
      governor := if near then g.under low else { g.under low with state := .ramping, ceiling := full }
      plan := { s.plan with steps := written id } }) ∧
  (mass < target → s.governor.state = .paused →
    t = { s with governor := g.under full, plan := { s.plan with steps := written id } }) ∧
  -- in CUTOFF for TARGET, a changed target turns the reason into TRIM; other reasons stand
  (s.governor.state = .cutoff → x.cutoffReason = some .target ∧ s.governor.effective ≠ some target →
    t = { s with
      governor := g.under full
      plan := { s.plan with
        revision := revision, steps := written (fun y => { y with cutoffReason := some .trim }) }
      events := s.events.raise (.planChanged revision) }) ∧
  (s.governor.state = .cutoff → ¬ (x.cutoffReason = some .target ∧ s.governor.effective ≠ some target) →
    t = { s with governor := g.under full, plan := { s.plan with steps := written id } })

/-- A value in range that a setting's owner answers BAD_VALUE (R42, R67, R134). -/
def settingBad (s : State) (v : Nat) (k : SettingKey) : Prop :=
  let x := s.store.settings
  match k with
  | .channel c .warnLevel => ¬ ((x.channels.get c).hysteresis < v ∧ v < (x.channels.get c).highLevel)
  | .channel c .highLevel => ¬ (x.channels.get c).warnLevel < v
  | .channel c .hysteresis => ¬ v < (x.channels.get c).warnLevel
  | .railLength => v < x.homePosition ∨ ∃ p h, ∃ e ∈ (s.travel.pages.get p).get h, v < e.aft
  | .homePosition => x.railLength < v
  | .pourMargin => ¬ ∀ p, (s.travel.pages.get p).windowsOk v = true
  | .preact => x.preactMax * 100000 < v * 1000
  | _ => False

/-- What follows the channels and the latch of `t` when the loader stage of `s` is recomputed: the stage, the high-hold timer
and the suppression outputs (R51, R52, R56), and, at a change, the governor's response to the stage notice and the events
(R51, R115, R123, R132). -/
def StageFollows (s t : State) : Prop :=
  let mask := t.store.settings.mask
  let changed := t.dust.stage ≠ s.dust.stage
  let stops := t.dust.stage = .high ∨ t.dust.stage = .trip
  (t.dust.tripLatch.isSome = true → t.dust.stage = .trip) ∧
  (t.dust.tripLatch = none →
    t.dust.stage = if t.dust.someIn mask .high then .high else if t.dust.someIn mask .warn then .warn else .clear) ∧
  t.dust.highHold = (if t.dust.stage = .high ∧ (s.dust.stage = .clear ∨ s.dust.stage = .warn) then some 0
    else if s.dust.stage = .high ∧ t.dust.stage ≠ .high then none else s.dust.highHold) ∧
  (t.dust.suppress.spout = true ↔ t.dust.tripLatch.isSome = true ∨ t.dust.raised mask [0, 1, 2, 3]) ∧
  (t.dust.suppress.boom = true ↔ t.dust.tripLatch.isSome = true ∨ t.dust.raised mask [4]) ∧
  (t.dust.suppress.tower = true ↔ t.dust.tripLatch.isSome = true ∨ t.dust.raised mask [5, 6]) ∧
  (t.dust.suppress.gallery = true ↔ t.dust.tripLatch.isSome = true ∨ t.dust.raised mask [7]) ∧
  (¬ changed → t.governor = s.governor) ∧
  (changed → stops → s.governor.state.feeding = true →
    t.governor = { s.governor.pausedFor .dust (feedCeiling t (activeMaximum s)) with
      beltPermit := t.dust.stage != .trip && !s.pins.estop }) ∧
  (changed → ¬ (stops ∧ s.governor.state.feeding = true) →
    let g : Governor := { s.governor with
      pauseSet := if stops ∧ s.governor.state = .paused then s.governor.pauseSet.add .dust else s.governor.pauseSet
      clean := if stops ∧ s.governor.state = .cutoff then false else s.governor.clean }
    t.governor = { g.under (ceilingNow t) with beltPermit := t.dust.stage != .trip && !s.pins.estop }) ∧
  t.events = ((if changed ∧ stops ∧ (s.governor.state.feeding = true ∨
      (s.governor.state = .paused ∧ s.governor.pauseSet.dust = false)) then [Event.feedPaused .dust] else []) ++
    (if changed then [Event.dustStage t.dust.stage] else [])).foldl (fun x e => x.raise e) s.events

/-- What makes a setting's owner answer BUSY (R21, R67). -/
def settingBusy (s : State) : SettingKey → Prop
  | .lineLength | .segmentLength | .pulsesPerSegment => s.weigher.lineTotal ≠ 0 ∨ stepActive s = true
  | .railLength => s.travel.state.inMotion = true ∨ s.travel.state = .pending
  | .homePosition => s.travel.state = .pending ∨ s.travel.state = .referencing
  | .pourMargin => stepActive s = true ∨ s.travel.state.inMotion = true
  | _ => False

/-- Everything that Start Step tests holds: the step is the current one, and its surroundings let it feed (R111). -/
abbrev StartAllowed (s : State) (st : Step) (revision : Nat) : Prop :=
  s.phase = .running ∧ s.plan.callOpen = true ∧ revision = s.plan.revision ∧ s.governor.state = .idle ∧
  currentStep s.plan = some st ∧
  (st.state = .held → st.holdReason = none ∨ st.holdReason = some .position ∨ st.holdReason = some .operator) ∧
  s.store.defaulted = false ∧ s.pins.estop = false ∧ s.governor.estopLatch = false ∧ s.travel.state = .parked ∧
  s.travel.spoutOver = some st.hold ∧ s.travel.diverter = .normal ∧ s.weigher.lineTotal = 0 ∧ s.pins.beltRun = true ∧
  (s.dust.stage = .clear ∨ s.dust.stage = .warn) ∧ s.governor.deckHold = false ∧ s.weigher.scale = .normal

end Sys2Proof.Machine
end

