-- ==== Sys2Proof/WellFormed.lean ====
section
/-! DEFINITION. What makes a command well formed: the lengths that its operands may have on a station line. Every other limit of an operand is either carried by its type or tested by the owner block, which answers for it. -/

namespace Sys2Proof

/-- The greatest body of a request frame, in bytes (R158, section 8.8). -/
def maxBody : Nat := 512

/-- The greatest frame, in bytes: five of header, `maxBody` of body and two of footer (section 8.2). -/
def maxFrame : Nat := 5 + maxBody + 2

/-- The length of the reference field of an Open Lot body (section 8.8). -/
def referenceField : Nat := 24

/-- A command is well formed when its byte strings have a length the line allows: a Presence body is 0..512 bytes, a
frame is 1..519 characters, and the reference field of Open Lot is 24 bytes. -/
def Instr.wellFormed : Instr → Bool
  | .presence body => body.length ≤ maxBody
  | .frameComplete _ chars => 1 ≤ chars.length && chars.length ≤ maxFrame
  | .openLot _ _ _ reference _ => reference.length = referenceField
  | _ => true

end Sys2Proof
end

