-- ==== Sys2Proof/Certificates/Slice0/Obligations.lean ====
section
/-! DEFINITION. The statements for the provers: what each family of commands does, and the laws that every step keeps. A request's answer is kept beside the state (log entry 1). -/

open Sys2Proof Sys2Proof.Machine

/-! ### The machine as a whole -/

/-- The command at the front of the queue is taken, and run on the state with the queue's rest. -/
def Obligations.StepRunsTheFrontCommand : Prop :=
  ∀ (c : Instr) (rest : List Instr) (s : State), s.pending = c :: rest → step s = exec c { s with pending := rest }

/-- The model's choice (log entry 7): with no command waiting, a running part is one millisecond further on. Each running
timer advances by one until it stands at its limit, where its expiry waits to be taken as a command; nothing else
changes. Before recovery completes nothing changes at all. -/
def Obligations.IdleStepPassesAMillisecond : Prop :=
  (∀ s : State, s.pending = [] → s.phase = .cold → step s = .next s) ∧
  ∀ s : State, s.pending = [] → s.phase = .running →
    step s = .next { s with
      dust := { s.dust with
        highHold := s.dust.highHold.map (fun t => if t < s.store.settings.highHoldTime * 1000 then t + 1 else t)
        referenceTimer := s.dust.referenceTimer.map (fun t => if t < 2000 then t + 1 else t) }
      travel := { s.travel with
        travelTimer := s.travel.travelTimer.map
          (fun t => if t < s.store.settings.travelTimeLimit * 1000 then t + 1 else t)
        runOutTimer := s.travel.runOutTimer.map
          (fun t => if t < s.store.settings.runOutLimit * 1000 then t + 1 else t) }
      governor := { s.governor with
        presenceTimer := s.governor.presenceTimer.map
          (fun t => if t < s.store.settings.presenceWindow * 1000 then t + 1 else t)
        period := s.governor.period.map (fun t => if t < 100 then t + 1 else t) }
      accounts := { s.accounts with second := s.accounts.second.map (fun t => if t < 1000 then t + 1 else t) } }

/-- Every command answers a next state in every state, and leaves the queue of waiting commands alone. Before cold-start recovery
completes, a command other than power-on, RESET_N and the recovery itself changes nothing but the level that an input pin is
seen at.
That pin levels are followed before recovery is the model's choice (log entries 11 and 25). -/
def Obligations.EveryCommandCompletes : Prop :=
  (∀ (c : Instr) (s : State), ∃ t, exec c s = .next t ∧ t.pending = s.pending) ∧
  ∀ (c : Instr) (s : State), s.phase = .cold → c ≠ .powerOn → c ≠ .resetNAsserted →
    (∀ a, c ≠ .coldStartRecovery a) →
    ∃ p : Pins, exec c s = .next { s with pins := p }

/-- A part from manufacture, held at cold start: the values of the cold-start tables, and of the nonvolatile items as the
part leaves manufacture. The values that the manual does not give (log entry 2) are not named here. -/
def Obligations.ResetIsAsManufactured : Prop :=
  let s := State.reset
  -- held at cold start (R174), with no command waiting
  s.phase = .cold ∧ s.pending = [] ∧
  -- the Belt Weigher (R19, R24) and the calibration count (R3)
  s.weigher.line = List.replicate 160 { mass := 0, tag := none } ∧ s.weigher.lineTotal = 0 ∧
  s.weigher.pulseCount = 0 ∧ s.weigher.segmentSum = 0 ∧ s.weigher.segmentCount = 0 ∧ s.weigher.lastMean = 0 ∧
  s.weigher.holdLast = 0 ∧ s.weigher.scale = .normal ∧ s.weigher.spillRun = false ∧ s.weigher.weighingLot = none ∧
  s.store.calibrationCount = 0 ∧
  -- the converter (R38)
  s.converter.position = .p1 ∧ s.converter.slot = 0 ∧ s.converter.latchW = none ∧ s.converter.latchD1 = none ∧
  s.converter.latchD2 = none ∧ s.converter.countW = 0 ∧ s.converter.countD1 = 0 ∧ s.converter.countD2 = 0 ∧
  -- the Dust Monitor (R59)
  s.dust.stage = .clear ∧ s.dust.tripLatch = none ∧ s.dust.highHold = none ∧ s.dust.reference = .good ∧
  s.dust.referenceTimer = none ∧ (s.dust.channels.get 0).stage = .normal ∧ (s.dust.channels.get 7).lastCode = none ∧
  -- the hatch map (R60) and the Travel Controller (R86)
  (s.travel.pages.get 0).get 0 = none ∧ (s.travel.pages.get 1).get 7 = none ∧ s.travel.activePage = 0 ∧
  s.travel.state = .unreferenced ∧ s.travel.referenced = false ∧ s.travel.position = 0 ∧ s.travel.spoutOver = none ∧
  s.travel.swapPending = false ∧ s.travel.diverter = .reject ∧ s.travel.direction = none ∧
  s.travel.brakeRelease = false ∧
  -- the Plan Table (R87)
  s.plan.callOpen = false ∧ s.plan.callId = 0 ∧ s.plan.trimBand = 1000 ∧ s.plan.steps = [] ∧ s.plan.revision = 0 ∧
  s.plan.stepIdCounter = 1 ∧
  -- the Feed Governor (R134, R136)
  s.governor.state = .idle ∧ s.governor.requested = 100 ∧ s.governor.level = 0 ∧ s.governor.ceiling = 0 ∧
  s.governor.feedPermit = false ∧ s.governor.beltPermit = false ∧ s.governor.presenceLive = false ∧
  s.governor.deckHold = false ∧ s.governor.preact = 2000000 ∧
  -- the Account Store (R137, R148, R152)
  (s.accounts.lots.get 0).isOpen = false ∧ (s.accounts.lots.get 15).isOpen = false ∧ s.accounts.moment = 0 ∧
  s.accounts.bills = [] ∧ s.accounts.billCounter = some 1 ∧ s.accounts.seconds = 0 ∧ s.accounts.timeValid = false ∧
  -- the ports (R167) and the Event Unit (R172)
  s.ports.cab.framer = .waitGap ∧ s.ports.deck.queue = [] ∧ s.ports.office.sending = false ∧
  s.ports.cab.holdoff = false ∧ s.events.cab.entries = [] ∧ s.events.deck.attn = false ∧
  -- the settings store (R173)
  s.store.settings = Settings.default ∧ s.store.defaulted = false

/-- The state after reset meets every law that the steps keep. -/
def Obligations.ResetMeetsTheLaws : Prop :=
  AttentionLaw State.reset ∧ PortLaw State.reset ∧ SettingsLaw State.reset ∧ PreactLaw State.reset ∧
  WeigherLaw State.reset ∧ DustLaw State.reset ∧ PlanLaw State.reset ∧ LoaderLaw State.reset ∧ LevelLaw State.reset ∧
  SwapLaw State.reset ∧ BillLaw State.reset ∧ BalanceLaw State.reset ∧ SplitLaw State.reset ∧
  MomentLaw State.reset ∧ HatchLaw State.reset

/-! ### Cold start and recovery -/

/-- Power-on and RESET_N put every block at its cold-start state and keep what is stored in nonvolatile memory.
The model's choices in it: that the input levels and the waiting commands stand (log entries 2 and 25), and that until recovery
the scale input is WAITING, the state before PENDING is UNREFERENCED and the e-stop latch is clear (log entry 2). -/
def Obligations.ColdStartKeepsTheStore : Prop :=
  ∀ (c : Instr) (s : State), c = .powerOn ∨ c = .resetNAsserted → ∃ t, exec c s = .next t ∧
    t.phase = .cold ∧ t.pending = s.pending ∧ t.plan = s.plan ∧ t.store = s.store ∧
    t.pins = (if c = .resetNAsserted then { s.pins with resetN := true } else s.pins) ∧
    t.weigher = {
      pulseCount := 0, segmentSum := 0, segmentCount := 0, lastMean := 0, holdLast := 0, scale := .normal,
      input := .waiting, line := List.replicate s.store.settings.lineLength { mass := 0, tag := none }, lineTotal := 0,
      spillRun := false, weighingLot := s.weigher.weighingLot } ∧
    (t.converter.position = .p1 ∧ t.converter.slot = 0 ∧ t.converter.latchW = none ∧ t.converter.latchD1 = none ∧
      t.converter.latchD2 = none ∧ t.converter.countW = 0 ∧ t.converter.countD1 = 0 ∧ t.converter.countD2 = 0 ∧
      t.converter.toWeigher = [] ∧ t.converter.toMonitor = []) ∧
    (t.dust.stage = .clear ∧ t.dust.tripLatch = none ∧ t.dust.highHold = none ∧ t.dust.reference = .good ∧
      t.dust.referenceTimer = none ∧
      t.dust.suppress = { spout := false, boom := false, tower := false, gallery := false } ∧
      ∀ n, t.dust.channels.get n =
        { lastCode := none, value := 0, ring := ⟨0, 0, 0, 0⟩, refillPending := true, filtered := 0, stage := .normal,
          warnRise := 0, highRise := 0, highFall := 0, warnFall := 0, faultCount := 0, recoveryCount := 0 }) ∧
    t.travel = {
      pages := s.travel.pages, activePage := s.travel.activePage, swapPending := false, position := 0,
      referenced := false, spoutOver := none, state := .unreferenced, stopping := false, request := none,
      target := none, reversals := 0, travelTimer := none, runOutTimer := none, beforePending := .unreferenced,
      faultCause := none, diverter := .reject, direction := none, dutyForce := 0, dutyStaged := 0,
      brakeRelease := false } ∧
    t.governor = {
      state := .idle, requested := 100, ceiling := 0, level := 0, effective := none, tail := 0,
      pauseSet := { dust := false, cabSilent := false, deckHold := false, beltStopped := false, estop := false },
      clean := false, preact := s.governor.preact, presenceTimer := none, presenceLive := false, deckHold := false,
      estopLatch := false, feedPermit := false, dutyStaged := 0, dutyForce := 0, beltPermit := false, period := none } ∧
    t.accounts = { s.accounts with seconds := 0, timeValid := false, second := none } ∧
    ∀ st, t.events.get st = { entries := [], attn := false } ∧
      t.ports.get st = {
        framer := .waitGap, frame := [], queue := [], discarded := false, sending := false,
        reply := [], holdoff := false }

/-- Recovery of a part held at cold start: the settings check, the booking of the mass lost with the line, HELD(POWER), the
preact's clamp, the levels read at completion, and the events raised on the way. A recovery that RESET_N's assertion abandons
at a point leaves the nonvolatile items as far as it came and the rest as RESET_N leaves it, and the recovery begun again
ends with the same nonvolatile items as one that was not abandoned, its COLD_START carrying what it books itself. The model's
choices in it: the scale input is set at the completion itself as well as by the notice, the assertion is an operand of the
recovery, which falls between its steps and between two accounts, taken slot by slot (log entry 9), and a part that already
runs makes no recovery (log entry 10). -/
def Obligations.RecoveryOutcome : Prop :=
  (∀ (s : State) (a : Option RecoveryPoint), s.phase = .running → exec (.coldStartRecovery a) s = .next s) ∧
  ∀ s : State, s.phase = .cold → s.travel.swapPending = false →
    let good := s.store.checkWord = checkWord s.store.settings
    let settings := if good then s.store.settings else Settings.default
    let defaulted := if good then s.store.defaulted else true
    let store := { s.store with settings := settings, checkWord := checkWord settings, defaulted := defaulted }
    let excess := fun (l : Ledger) => l.weighed - l.booked
    let lotExcess := fun (i : Slot) =>
      if (s.accounts.lots.get i).isOpen then excess (s.accounts.lots.get i).ledger else 0
    let total := ((List.finRange 16).map lotExcess).sum + excess s.accounts.unassigned
    let bookedLot := fun (i : Slot) =>
      if (s.accounts.lots.get i).isOpen then
        { s.accounts.lots.get i with ledger := { (s.accounts.lots.get i).ledger with
          unplaced := massAdd (s.accounts.lots.get i).ledger.unplaced (excess (s.accounts.lots.get i).ledger) } }
      else s.accounts.lots.get i
    let bookedUnassigned := { s.accounts.unassigned with
      unplaced := massAdd s.accounts.unassigned.unplaced (excess s.accounts.unassigned) }
    let revision := if stepActive s then (s.plan.revision + 1) % 65536 else s.plan.revision
    let plan := { s.plan with
      revision := revision
      steps := s.plan.steps.map (fun x =>
        if x.state = .active then
          { x with state := .held, holdReason := some .power, cutoffReason := none }
        else x) }
    let preact := min s.governor.preact (settings.preactMax * 100000)
    (∃ t, exec (.coldStartRecovery none) s = .next t ∧ t.phase = .running ∧ t.pending = s.pending ∧ t.ports = s.ports ∧
      t.pins = { s.pins with resetN := false } ∧ t.store = store ∧
      t.weigher = { s.weigher with
        line := if good then s.weigher.line else List.replicate 160 { mass := 0, tag := none }
        lineTotal := if good then s.weigher.lineTotal else 0
        input := if s.pins.refOk then .waiting else .noReference } ∧
      t.converter.state = (if s.pins.refOk then .running else .halted) ∧
      t.converter.toMonitor = s.converter.toMonitor ++ (if s.pins.refOk then [] else [.referenceFault]) ∧
      t.dust = s.dust ∧
      t.travel = { s.travel with state := if s.pins.estop then .stopped else s.travel.state } ∧
      t.plan = plan ∧
      t.governor = { s.governor with
        preact := preact
        estopLatch := s.governor.estopLatch || s.pins.estop
        beltPermit := s.dust.stage != .trip && !s.pins.estop
        period := some 0 } ∧
      (∀ i, t.accounts.lots.get i = bookedLot i) ∧ t.accounts.unassigned = bookedUnassigned ∧
      t.accounts.credited = s.accounts.credited ∧ t.accounts.moment = s.accounts.moment ∧
      t.accounts.bills = s.accounts.bills ∧ t.accounts.billCounter = s.accounts.billCounter ∧
      t.accounts.seconds = s.accounts.seconds ∧ t.accounts.timeValid = s.accounts.timeValid ∧
      t.accounts.second = some 0 ∧
      t.events = ((if defaulted then [Event.settingsDefaulted] else []) ++
        (match activeStep s.plan with
          | some st => [Event.planChanged revision, Event.stepHeld st.id .power]
          | none => []) ++
        [Event.coldStart total] ++ (if s.pins.estop then [Event.estop false] else [])).foldl
          (fun x e => x.raise e) s.events) ∧
    -- abandoned at a point: `n` accounts are booked, and the rest is as RESET_N leaves it
    ∀ p : RecoveryPoint,
      let n := match p with
        | .begun => 0
        | .checked => 0
        | .booked last => last.val + 1
        | _ => 17
      (∃ a : Accounts,
        exec (.coldStartRecovery (some p)) s = exec .resetNAsserted { s with
          store := if p = .begun then s.store else store
          plan := if p = .held ∨ p = .clamped ∨ p = .raised then plan else s.plan
          governor := { s.governor with
            preact := if p = .clamped ∨ p = .raised then preact else s.governor.preact }
          accounts := a } ∧
        a = { s.accounts with lots := a.lots, unassigned := a.unassigned } ∧
        (∀ i : Slot, a.lots.get i = if i.val < n then bookedLot i else s.accounts.lots.get i) ∧
        a.unassigned = if n = 17 then bookedUnassigned else s.accounts.unassigned) ∧
      -- and begun again
      ((∀ acc, (s.accounts.ledger acc).booked ≤ (s.accounts.ledger acc).weighed ∧
          (s.accounts.ledger acc).weighed < 2 ^ 64) →
        ∃ t u v, exec (.coldStartRecovery (some p)) s = .next t ∧ exec (.coldStartRecovery none) t = .next u ∧
          exec (.coldStartRecovery none) s = .next v ∧ u.phase = .running ∧
          u.store = v.store ∧ u.plan = v.plan ∧ u.accounts.lots = v.accounts.lots ∧
          u.accounts.unassigned = v.accounts.unassigned ∧ u.governor.preact = v.governor.preact ∧
          ∀ st, { event := .coldStart (((List.finRange 16).map (fun i => if i.val < n then 0 else lotExcess i)).sum +
              (if n = 17 then 0 else excess s.accounts.unassigned)), count := 1 } ∈ (u.events.get st).entries)

/-! ### READ and EVENT requests -/

/-- The five reads with a limit: a limit outside 16..508 is refused BAD_VALUE, and otherwise the reply holds the part of the
content from the offset on that fits. Read Settings counts its entries as Read Plan does its steps. A named bill that is
not in store is NOT_FOUND once the limit stands (log entry 16). -/
def Obligations.ReadsInPartsAreWhole : Prop :=
  ∀ (st : Station) (offset limit : BitVec 16) (s : State), s.phase = .running →
    -- a limit out of range
    (¬ (16 ≤ limit.toNat ∧ limit.toNat ≤ 508) → ∀ slot page number,
      exec (.readPlan st offset limit) s = .next (s.replied st .badValue []) ∧
      exec (.readSettings st offset limit) s = .next (s.replied st .badValue []) ∧
      exec (.readHatchMap st page offset limit) s = .next (s.replied st .badValue []) ∧
      exec (.readLot st slot offset limit) s = .next (s.replied st .badValue []) ∧
      exec (.readBill st number offset limit) s = .next (s.replied st .badValue [])) ∧
    (16 ≤ limit.toNat → limit.toNat ≤ 508 →
      -- Read Plan, in steps of 33 bytes
      (∃ d, exec (.readPlan st offset limit) s = .next (s.replied st .ok d) ∧
        ReadInParts d (planFixed s.plan) (s.plan.steps.map stepRecord) offset.toNat limit.toNat) ∧
      -- Read Settings, 67 settings of 6 bytes in identifier order
      (∃ d, exec (.readSettings st offset limit) s = .next (s.replied st .ok d) ∧
        ReadInParts d ([yesNo s.store.defaulted] ++ le 4 s.store.calibrationCount ++ le 2 s.store.checkWord.toNat)
          (allKeys.map (settingEntry s)) offset.toNat limit.toNat) ∧
      -- Read Hatch Map of page 0, of page 1 and of the active page (FFh), in entries of 14 bytes
      (∀ (page : Byte) (p : Page), (page = 0 ∧ p = 0) ∨ (page = 1 ∧ p = 1) ∨ (page = 0xFF ∧ p = s.travel.activePage) →
        ∃ d, exec (.readHatchMap st page offset limit) s = .next (s.replied st .ok d) ∧
          ReadInParts d
            [BitVec.ofNat 8 p.val, BitVec.ofNat 8 s.travel.activePage.val, yesNo s.travel.swapPending]
            (allHolds.map (fun h => hatchRecord h ((s.travel.pages.get p).get h))) offset.toNat limit.toNat) ∧
      (∀ page : Byte, page ≠ 0 → page ≠ 1 → page ≠ 0xFF →
        exec (.readHatchMap st page offset limit) s = .next (s.replied st .badValue [])) ∧
      -- Read Lot of a slot and of the unassigned account (FFh), in bytes
      (∀ i : Slot, ∃ d, exec (.readLot st (BitVec.ofNat 8 i.val) offset limit) s = .next (s.replied st .ok d) ∧
        ReadInParts d []
          ((lotRecord i (s.accounts.lots.get i) (massInLine s.weigher.line (.lot i))).map (fun b => [b]))
          offset.toNat limit.toNat) ∧
      (∃ d, exec (.readLot st 0xFF offset limit) s = .next (s.replied st .ok d) ∧
        ReadInParts d []
          ((unassignedRecord s.accounts.unassigned (massInLine s.weigher.line .unassigned)).map (fun b => [b]))
          offset.toNat limit.toNat) ∧
      (∀ slot : Byte, 16 ≤ slot.toNat → slot ≠ 0xFF →
        exec (.readLot st slot offset limit) s = .next (s.replied st .badValue [])) ∧
      -- Read Bill by number, or the oldest (0), in bytes
      (∀ (number : BitVec 32) (b : Bill),
        (number = 0 ∧ s.accounts.bills.head? = some b) ∨
          (number ≠ 0 ∧ s.accounts.bills.find? (fun x => x.number == number.toNat) = some b) →
        ∃ d, exec (.readBill st number offset limit) s = .next (s.replied st .ok d) ∧
          ReadInParts d (le 4 b.number ++ [BitVec.ofNat 8 s.accounts.bills.length])
            ((billRecord b).map (fun x => [x])) offset.toNat limit.toNat) ∧
      (∀ number : BitVec 32,
        (number = 0 ∧ s.accounts.bills = []) ∨
          (number ≠ 0 ∧ ∀ b ∈ s.accounts.bills, b.number ≠ number.toNat) →
        exec (.readBill st number offset limit) s = .next (s.replied st .notFound [])))

/-- Read Status, Read Step, Read Holds and Read Transit: the record's length and its fields at their offsets (section 8.8),
and no change but the answer; and the fields of the hatch entry, the lot record and the bill, which are read in parts, at
theirs. Of the 286 bytes of the status record, the fields named are those at the head of each owner's readout. Bytes of
absent values, and a count or mass wider than its field, are the model's choice (log entry 15). -/
def Obligations.RecordReads : Prop :=
  (∀ (st : Station) (s : State), s.phase = .running → ∃ d, exec (.readStatus st) s = .next (s.replied st .ok d) ∧
    d.length = 286 ∧
    -- the converter (bytes 0 to 35)
    field d 0 1 = s.converter.state.number.toNat ∧ field d 1 1 = (yesNo s.pins.refOk).toNat ∧
    field d 4 1 = s.store.settings.mask.toNat ∧ field d 30 2 = s.converter.countW % 65536 ∧
    -- the dust monitor (bytes 36 to 106); channel 8 ends it
    field d 36 1 = s.dust.stage.number.toNat ∧ field d 40 1 = s.dust.reference.number.toNat ∧
    field d 104 2 = (s.dust.channels.get 7).filtered % 65536 ∧
    field d 106 1 = (s.dust.channels.get 7).stage.number.toNat ∧
    -- the carriage (bytes 107 to 136)
    field d 107 1 = s.travel.state.number.toNat ∧ field d 110 1 = (yesNo s.travel.referenced).toNat ∧
    field d 115 1 = (holdByte s.travel.spoutOver).toNat ∧ field d 133 1 = s.travel.diverter.number.toNat ∧
    field d 134 1 = s.travel.activePage.val ∧ field d 135 1 = (yesNo s.travel.swapPending).toNat ∧
    -- the governor (bytes 137 to 173)
    field d 137 1 = s.governor.state.number.toNat ∧ field d 157 1 = s.governor.requested % 256 ∧
    field d 158 1 = s.governor.ceiling % 256 ∧ field d 159 1 = s.governor.level % 256 ∧
    field d 160 4 = s.governor.preact % 4294967296 ∧ field d 171 1 = (yesNo s.governor.feedPermit).toNat ∧
    field d 173 1 = (yesNo s.governor.beltPermit).toNat ∧
    -- the plan (bytes 174 to 185)
    field d 174 1 = (yesNo s.plan.callOpen).toNat ∧ field d 175 4 = s.plan.callId % 4294967296 ∧
    field d 179 2 = s.plan.trimBand % 65536 ∧ field d 181 2 = s.plan.revision % 65536 ∧
    -- the accounts (bytes 186 to 272)
    field d 187 4 = (s.accounts.lots.get 0).number % 4294967296 ∧
    field d 247 4 = (s.accounts.lots.get 15).number % 4294967296 ∧ field d 259 1 = s.accounts.bills.length % 256 ∧
    field d 264 4 = s.accounts.billCounter.getD 0 % 4294967296 ∧ field d 268 4 = s.accounts.seconds % 4294967296 ∧
    field d 272 1 = (yesNo s.accounts.timeValid).toNat ∧
    -- the scale, the inputs, DEFAULTED and the calibration count (bytes 273 to 285)
    field d 273 1 = s.weigher.scale.number.toNat ∧ field d 274 4 = s.weigher.lineTotal % 4294967296 ∧
    field d 278 1 = (yesNo s.pins.estop).toNat ∧ field d 281 1 = (yesNo s.store.defaulted).toNat ∧
    field d 282 4 = s.store.calibrationCount % 4294967296) ∧
  ∀ (st : Station) (s : State), s.phase = .running →
    -- Read Step: the record of 33 bytes, the position and the revision
    (∀ (id : BitVec 16) (x : Step), stepOf s.plan id.toNat = some x →
      ∃ d, exec (.readStep st id) s = .next (s.replied st .ok d) ∧ d.length = 36 ∧ field d 0 2 = x.id % 65536 ∧
        field d 2 1 = x.hold.val + 1 ∧ field d 3 1 = x.slot.val ∧ field d 5 1 = x.state.number.toNat ∧
        field d 9 8 = x.target % 2 ^ 64 ∧ field d 17 8 = x.placed % 2 ^ 64 ∧
        field d 25 8 = x.effective.getD 0 % 2 ^ 64 ∧ field d 34 2 = s.plan.revision % 65536) ∧
    (∀ id : BitVec 16, stepOf s.plan id.toNat = none →
      exec (.readStep st id) s = .next (s.replied st .notFound [])) ∧
    -- Read Holds: 22 bytes for each hold, the moment, the active page and the trim band
    (∃ d, exec (.readHolds st) s = .next (s.replied st .ok d) ∧ d.length = 187 ∧
      (∀ h : Hold, field d (22 * h.val) 1 = h.val + 1 ∧
        field d (22 * h.val + 1) 1 = (yesNo (s.travel.activeMap.get h).isSome).toNat ∧
        field d (22 * h.val + 2) 8 = s.accounts.credited.get h % 2 ^ 64 ∧
        ∀ e, s.travel.activeMap.get h = some e →
          field d (22 * h.val + 12) 2 = e.limit % 65536 ∧
          field d (22 * h.val + 14) 8 = (e.limit * 1000000 - s.accounts.credited.get h) % 2 ^ 64) ∧
      field d 184 1 = s.travel.activePage.val ∧ field d 185 2 = s.plan.trimBand % 65536) ∧
    -- Read Transit: 39 bytes, and 5 for each account with mass in the line
    (∃ d, exec (.readTransit st) s = .next (s.replied st .ok d) ∧
      d.length = 39 + 5 * (allAccounts.filter (fun a => massInLine s.weigher.line a != 0)).length ∧
      field d 0 2 = s.store.settings.lineLength % 65536 ∧ field d 2 2 = s.store.settings.segmentLength % 65536 ∧
      field d 6 2 = s.store.settings.zero % 65536 ∧ field d 8 2 = s.store.settings.span % 65536 ∧
      field d 11 4 = s.store.calibrationCount % 4294967296 ∧ field d 15 1 = s.weigher.scale.number.toNat ∧
      field d 17 1 = s.weigher.input.number.toNat ∧ field d 18 1 = s.weigher.pulseCount % 256 ∧
      field d 19 4 = s.weigher.segmentCount % 4294967296 ∧ field d 23 4 = s.weigher.lastMean % 4294967296 ∧
      field d 27 4 = s.weigher.lineTotal % 4294967296 ∧ field d 33 1 = (slotByte s.weigher.weighingLot).toNat ∧
      field d 38 1 = (allAccounts.filter (fun a => massInLine s.weigher.line a != 0)).length) ∧
    -- an entry of Read Hatch Map, 14 bytes
    (∀ (h : Hold) (e : Option Hatch), (hatchRecord h e).length = 14 ∧ field (hatchRecord h e) 0 1 = h.val + 1 ∧
      field (hatchRecord h e) 1 1 = (yesNo e.isSome).toNat ∧
      ∀ x, e = some x →
        field (hatchRecord h e) 2 4 = x.fore % 4294967296 ∧ field (hatchRecord h e) 6 4 = x.aft % 4294967296 ∧
        (field (hatchRecord h e) 10 2 : Int) = x.lever % 65536 ∧ field (hatchRecord h e) 12 2 = x.limit % 65536) ∧
    -- the lot record of an OPEN slot, of a FREE slot, and of the unassigned account: 100 bytes, and 9 for each split
    (∀ (i : Slot) (l : Lot) (inLine : Nat), l.isOpen = true →
      let d := lotRecord i l inLine
      field d 0 1 = 1 ∧
      field d 1 1 = (yesNo l.declared.isSome).toNat + 2 * (yesNo l.opened.isSome).toNat +
        4 * (yesNo l.ledger.overRange).toNat ∧
      field d 2 1 = i.val ∧ field d 3 4 = l.number % 4294967296 ∧ field d 7 1 = l.grade % 256 ∧
      field d 8 1 = l.reference.length % 256 ∧
      (∀ k, k < l.reference.length → k < 24 → field d (9 + k) 1 = (l.reference.getD k 0).toNat) ∧
      field d 33 4 = l.declared.getD 0 % 4294967296 ∧ field d 79 4 = l.opened.getD 0 % 4294967296 ∧
      LedgerFields d l.ledger inLine) ∧
    (∀ (i : Slot) (l : Lot) (inLine : Nat), l.isOpen = false → lotRecord i l inLine = List.replicate 100 0) ∧
    (∀ (l : Ledger) (inLine : Nat),
      let d := unassignedRecord l inLine
      field d 1 1 = 4 * (yesNo l.overRange).toNat ∧ field d 2 1 = 255 ∧ LedgerFields d l inLine) ∧
    -- the bill: 115 bytes, and 9 for each split
    ∀ b : Bill,
      let d := billRecord b
      d.length = 115 + 9 * b.ledger.splits.length ∧
      field d 0 4 = b.number % 4294967296 ∧ field d 4 1 = b.slot.val ∧
      field d 5 1 = (yesNo b.declared.isSome).toNat + 2 * (yesNo b.opened.isSome).toNat +
        4 * (yesNo b.closed.isSome).toNat + 8 * (yesNo b.ledger.overRange).toNat ∧
      field d 6 4 = b.lotNumber % 4294967296 ∧ field d 10 1 = b.grade % 256 ∧
      field d 11 1 = b.reference.length % 256 ∧
      (∀ k, k < b.reference.length → k < 24 → field d (12 + k) 1 = (b.reference.getD k 0).toNat) ∧
      field d 36 4 = b.declared.getD 0 % 4294967296 ∧
      field d 40 8 = b.ledger.weighed % 2 ^ 64 ∧ field d 48 8 = b.ledger.estimated % 2 ^ 64 ∧
      field d 56 2 = b.ledger.unweighed % 65536 ∧ field d 58 8 = b.ledger.rejected % 2 ^ 64 ∧
      field d 66 8 = b.ledger.spilled % 2 ^ 64 ∧ field d 74 8 = b.ledger.unplaced % 2 ^ 64 ∧
      field d 82 8 = b.net % 2 ^ 64 ∧ field d 90 8 = b.tonnage % 2 ^ 64 ∧
      field d 98 4 = b.opened.getD 0 % 4294967296 ∧ field d 102 4 = b.closed.getD 0 % 4294967296 ∧
      field d 106 4 = b.calibrationCount % 4294967296 ∧ field d 110 4 = b.callId % 4294967296 ∧
      field d 114 1 = b.ledger.splits.length % 256 ∧ SplitFields d 115 b.ledger.splits

/-- Fetch Event answers from the sending station's own set: an empty set gives kind NONE and changes nothing; otherwise the
entry of highest priority leaves the set, and ATTN stays asserted exactly while an entry is left. -/
def Obligations.FetchEventTakesTheHighestPriority : Prop :=
  ∀ (st : Station) (s : State), s.phase = .running →
    ((s.events.get st).entries = [] →
      exec (.fetchEvent st) s = .next (s.replied st .ok (List.replicate 14 0))) ∧
    ∀ p rest, (s.events.get st).entries = p :: rest →
      ((s.events.get st).Lawful → ∀ q ∈ rest, p.event.kind < q.event.kind) ∧
      ∃ d, d.length = 14 ∧ field d 0 1 = p.event.kind ∧ field d 1 1 = p.count % 256 ∧
        d.drop 2 = (p.event.detail ++ List.replicate 12 0).take 12 ∧
        ∃ t, exec (.fetchEvent st) s = .next t ∧ t = { s with events := t.events, answer := some (st, answerOk d) } ∧
          t.events.get st = { entries := rest, attn := !rest.isEmpty } ∧
          ∀ other, other ≠ st → t.events.get other = s.events.get other

/-- A request that is refused changes nothing: only the answer is kept, with CAL_UNLOCK's level as read for Write
Calibration. Every request of every station is answered in a running part. -/
def Obligations.RefusedRequestsChangeNothing : Prop :=
  ∀ (c : Instr) (st : Station) (s : State), requestSender c = some st → s.phase = .running →
    ∃ t a, exec c s = .next t ∧ t.answer = some (st, a) ∧
      (a.result ≠ .ok → t = { s with answer := some (st, a), pins := t.pins }) ∧
      ((∀ z sp b k, c ≠ .writeCalibration z sp b k) → t.pins = s.pins)

/-! ### POUR and HOLD POUR requests, and the governor's inputs -/

/-- The effective target is the least of the target term, the room term and the trim term, with floor division and negative
values taken as 0 (R112), for a hold with an entry on the active page. -/
def Obligations.EffectiveTargetIsTheLeastTerm : Prop :=
  ∀ (s : State) (st : Step) (e : Hatch), s.travel.activeMap.get st.hold = some e →
    let room := (max 0 ((e.limit : Int) * 1000000 - s.accounts.credited.get st.hold)).toNat
    let band := (s.plan.trimBand : Int) * 10000000
    (e.lever = 0 → effectiveTarget s st = min st.target (st.placed + room)) ∧
    (0 < e.lever → ∀ m : Int, e.lever * m ≤ band - s.accounts.moment → band - s.accounts.moment < e.lever * (m + 1) →
      effectiveTarget s st = min (min st.target (st.placed + room)) (st.placed + (max 0 m).toNat)) ∧
    (e.lever < 0 → ∀ m : Int, -e.lever * m ≤ band + s.accounts.moment → band + s.accounts.moment < -e.lever * (m + 1) →
      effectiveTarget s st = min (min st.target (st.placed + room)) (st.placed + (max 0 m).toNat))

/-- Start Step answers with the first of its fifteen tests that applies, and then changes nothing. A Start Step that passes
every test and leaves at least the minimum pour starts the step: it becomes ACTIVE with its effective
target, the weighing lot is the step's, and feed is permitted from level 0 in RAMPING. With less left, it is TARGET_MET when
the target term is the least, which changes nothing; otherwise the step is held at start for HOLD_FULL or TRIM, and the
governor stays IDLE. -/
def Obligations.StartStepJudgesTheRemainder : Prop :=
  (∀ (revision : BitVec 16) (s : State) (a : Answer), s.phase = .running →
    FirstTest
      ([(!s.plan.callOpen, answerNotReady .noCall),
        (decide (revision.toNat ≠ s.plan.revision), answerOnly .stalePlan),
        (decide (s.governor.state ≠ .idle), answerOnly .busy)] ++
       (match currentStep s.plan with
        | none => [(true, answerNotReady .noStep)]
        | some st =>
          [(decide (st.state = .held ∧ (st.holdReason = some .trim ∨ st.holdReason = some .holdFull ∨
              st.holdReason = some .scale ∨ st.holdReason = some .power)), answerNotReady .heldForDeck),
           (s.store.defaulted, answerNotReady .defaulted),
           (s.pins.estop || s.governor.estopLatch, answerNotReady .estop),
           (decide (s.travel.state ≠ .parked), answerNotReady .travelNotParked),
           (decide (s.travel.spoutOver ≠ some st.hold), answerNotReady .notOverHold),
           (decide (s.travel.diverter = .reject), answerNotReady .diverterReject),
           (decide (s.weigher.lineTotal ≠ 0), answerNotReady .lineNotClear),
           (!s.pins.beltRun, answerNotReady .beltNotRunning),
           (decide (s.dust.stage = .high ∨ s.dust.stage = .trip), answerNotReady .dust),
           (s.governor.deckHold, answerNotReady .deckHold),
           (decide (s.weigher.scale = .scaleFault), answerNotReady .scaleFault)])) a →
    exec (.startStep revision) s = .next { s with answer := some (.cab, a) }) ∧
  (∀ (revision : BitVec 16) (s : State) (st : Step),
    StartAllowed s st revision.toNat → PlanLaw s → stepActive s = false →
    st.placed + s.store.settings.minimumPour * 100000 ≤ effectiveTarget s st →
    exec (.startStep revision) s = .next { s with
      plan := { s.plan with
        revision := (s.plan.revision + 1) % 65536
        steps := s.plan.steps.map (fun x => if x.id = st.id then
          { x with
            state := .active, holdReason := none, cutoffReason := none, effective := some (effectiveTarget s st) }
          else x) }
      events := s.events.raise (.planChanged ((s.plan.revision + 1) % 65536))
      weigher := { s.weigher with weighingLot := some st.slot }
      governor := { s.governor with
        state := .ramping, feedPermit := true, level := 0, dutyStaged := 0, tail := 0, clean := true
        effective := some (effectiveTarget s st)
        ceiling := feedCeiling s st.maxLevel }
      answer := some (.cab, answerOk (le 2 st.id ++ [1, 0xFF] ++ le 8 (effectiveTarget s st) ++
        le 2 ((s.plan.revision + 1) % 65536))) }) ∧
  ∀ (revision : BitVec 16) (s : State) (st : Step), StartAllowed s st revision.toNat →
    effectiveTarget s st < st.placed + s.store.settings.minimumPour * 100000 →
    let terms := targetTerms s st
    let held := fun (r : HoldReason) => Host.Outcome.next { s with
      plan := { s.plan with
        revision := (s.plan.revision + 1) % 65536
        steps := s.plan.steps.map (fun x => if x.id = st.id then
          { x with state := .held, holdReason := some r, effective := some (effectiveTarget s st) } else x) }
      events := (s.events.raise (.planChanged ((s.plan.revision + 1) % 65536))).raise (.stepHeld st.id r)
      answer := some (.cab, answerOk (le 2 st.id ++ [2, r.number] ++ le 8 (effectiveTarget s st) ++
        le 2 ((s.plan.revision + 1) % 65536))) }
    ((terms.target ≤ terms.room ∧ ∀ m ∈ terms.trim, terms.target ≤ m) →
      exec (.startStep revision) s = .next (s.notReady .cab .targetMet)) ∧
    (¬ (terms.target ≤ terms.room ∧ ∀ m ∈ terms.trim, terms.target ≤ m) → (∀ m ∈ terms.trim, terms.room ≤ m) →
      exec (.startStep revision) s = held .holdFull) ∧
    (¬ (terms.target ≤ terms.room ∧ ∀ m ∈ terms.trim, terms.target ≤ m) → (∃ m ∈ terms.trim, m < terms.room) →
      exec (.startStep revision) s = held .trim)

/-- A cutoff from a feeding state, by Stop Step (R118, R125): feed stops in the same arrival, the reason OPERATOR is recorded
and the revision moves on. A Stop Step in CUTOFF leaves the recorded reason.
The reply byte is the model's choice (log entry 20). -/
def Obligations.StopStepCutsOff : Prop :=
  ∀ (s : State), s.phase = .running →
    (s.plan.callOpen = false → exec .stopStep s = .next (s.notReady .cab .noCall)) ∧
    (s.plan.callOpen = true → s.governor.state = .idle →
      exec .stopStep s = .next (s.notReady .cab .noActiveStep)) ∧
    (s.plan.callOpen = true → s.governor.state = .cutoff → exec .stopStep s = .next (s.replied .cab .ok [5])) ∧
    (s.plan.callOpen = true → s.governor.state.feeding = true ∨
        (s.governor.state = .paused ∧
          ¬ (s.weigher.lineTotal = 0 ∧ s.store.settings.tailSegments ≤ s.governor.tail)) →
      exec .stopStep s = .next { s with
        plan := { s.plan with
          revision := (s.plan.revision + 1) % 65536
          steps := s.plan.steps.map (fun x =>
            if x.state = .active then { x with cutoffReason := some .operator } else x) }
        events := s.events.raise (.planChanged ((s.plan.revision + 1) % 65536))
        governor := { s.governor with
          state := .cutoff, feedPermit := false, level := 0, dutyStaged := 0
          tail := if s.governor.state.feeding then 0 else s.governor.tail
          pauseSet := { dust := false, cabSilent := false, deckHold := false, beltStopped := false, estop := false }
          ceiling := ceilingLeft s }
        answer := some (.cab, answerOk [5]) }) ∧
    -- from PAUSED with the run-out test already holding, the step completes at once as HELD(OPERATOR)
    (∀ st, s.plan.callOpen = true → s.governor.state = .paused → s.weigher.lineTotal = 0 →
      s.store.settings.tailSegments ≤ s.governor.tail → activeStep s.plan = some st →
      exec .stopStep s = .next (swapTest { s with
        plan := { s.plan with
          revision := ((s.plan.revision + 1) % 65536 + 1) % 65536
          steps := s.plan.steps.map (fun x =>
            if x.state = .active then
              { x with state := .held, holdReason := some .operator, cutoffReason := none } else x) }
        events := ((s.events.raise (.planChanged ((s.plan.revision + 1) % 65536))).raise
          (.planChanged (((s.plan.revision + 1) % 65536 + 1) % 65536))).raise (.stepHeld st.id .operator)
        governor := { s.governor with
          state := .idle, feedPermit := false, level := 0, dutyStaged := 0, effective := none
          pauseSet := { dust := false, cabSilent := false, deckHold := false, beltStopped := false, estop := false } }
        answer := some (.cab, answerOk [0]) }))

/-- Resume answers with the first of its seven tests that applies, and then changes nothing. From PAUSED with nothing that guards
the pause left, by the committed mass the step ramps, dribbles or is cut off on target.
The reply byte, with the state IDLE where the cutoff completes at once, and the ceiling after a cutoff, are the model's choice
(log entries 20, 21 and 31). -/
def Obligations.ResumeFollowsTheCommittedMass : Prop :=
  (∀ (s : State) (a : Answer), s.phase = .running →
    FirstTest
      [(!s.plan.callOpen, answerNotReady .noCall),
       (decide (s.governor.state = .idle), answerNotReady .noActiveStep),
       (decide (s.governor.state ≠ .paused), answerOnly .busy),
       (s.governor.pauseSet.estop || s.pins.estop, answerNotReady .estop),
       (decide (s.dust.stage = .high ∨ s.dust.stage = .trip), answerNotReady .dust),
       (s.governor.deckHold, answerNotReady .deckHold),
       (!s.pins.beltRun, answerNotReady .beltNotRunning)] a →
    exec .resume s = .next { s with answer := some (.cab, a) }) ∧
  ∀ (s : State) (st : Step), s.phase = .running → s.plan.callOpen = true → s.governor.state = .paused →
    activeStep s.plan = some st → s.governor.pauseSet.estop = false → s.pins.estop = false →
    (s.dust.stage = .clear ∨ s.dust.stage = .warn) → s.governor.deckHold = false → s.pins.beltRun = true →
    let mass := st.placed + s.weigher.lineTotal + s.governor.preact
    let target := s.governor.effective.getD 0
    let none5 : PauseSet := { dust := false, cabSilent := false, deckHold := false, beltStopped := false, estop := false }
    (mass + s.store.settings.dribbleBand * 100000 < target →
      exec .resume s = .next { s with
        governor := { s.governor with
          state := .ramping, feedPermit := true, level := 0, dutyStaged := 0, pauseSet := none5
          ceiling := feedCeiling s st.maxLevel }
        answer := some (.cab, answerOk [1]) }) ∧
    (mass < target → target ≤ mass + s.store.settings.dribbleBand * 100000 →
      exec .resume s = .next { s with
        governor := { s.governor with
          state := .dribble, feedPermit := true, level := 0, dutyStaged := 0, pauseSet := none5
          ceiling := min (feedCeiling s st.maxLevel) s.store.settings.dribbleLevel }
        answer := some (.cab, answerOk [3]) }) ∧
    (target ≤ mass → ¬ (s.weigher.lineTotal = 0 ∧ s.store.settings.tailSegments ≤ s.governor.tail) →
      exec .resume s = .next { s with
        plan := { s.plan with
          revision := (s.plan.revision + 1) % 65536
          steps := s.plan.steps.map (fun x =>
            if x.state = .active then { x with cutoffReason := some .target } else x) }
        events := s.events.raise (.planChanged ((s.plan.revision + 1) % 65536))
        governor := { s.governor with
          state := .cutoff, feedPermit := false, level := 0, dutyStaged := 0, pauseSet := none5
          ceiling := feedCeiling s st.maxLevel }
        answer := some (.cab, answerOk [5]) }) ∧
    -- with the run-out test already holding, the step is DONE at once, and a clean finish adapts the preact
    (target ≤ mass → s.weigher.lineTotal = 0 → s.store.settings.tailSegments ≤ s.governor.tail →
      exec .resume s = .next (swapTest { s with
        plan := { s.plan with
          revision := ((s.plan.revision + 1) % 65536 + 1) % 65536
          steps := s.plan.steps.map (fun x =>
            if x.state = .active then
              { x with state := .done, holdReason := none, cutoffReason := none, effective := none } else x) }
        events := ((s.events.raise (.planChanged ((s.plan.revision + 1) % 65536))).raise
          (.planChanged (((s.plan.revision + 1) % 65536 + 1) % 65536))).raise (.stepDone st.id .none st.placed)
        governor := { s.governor with
          state := .idle, feedPermit := false, level := 0, dutyStaged := 0, pauseSet := none5, effective := none
          ceiling := feedCeiling s none
          preact := if s.governor.clean then
              (min (max 0 ((s.governor.preact : Int) + ((st.placed : Int) - target).tdiv 4))
                (s.store.settings.preactMax * 100000 : Nat)).toNat
            else s.governor.preact }
        answer := some (.cab, answerOk [0]) }))

/-- Set Feed Level outside 10..100 is BAD_VALUE; otherwise it is stored, the ceiling follows, a level above the ceiling falls
to it with its duty, and RUNNING below the ceiling becomes RAMPING. -/
def Obligations.SetFeedLevelBoundsTheLevel : Prop :=
  ∀ (level : Byte) (s : State), s.phase = .running →
    (¬ (10 ≤ level.toNat ∧ level.toNat ≤ 100) → exec (.setFeedLevel level) s = .next (s.replied .cab .badValue [])) ∧
    (10 ≤ level.toNat → level.toNat ≤ 100 →
      let s0 := { s with governor := { s.governor with requested := level.toNat } }
      let ceiling := if s.governor.state = .dribble then
          min (feedCeiling s0 (activeMaximum s)) s.store.settings.dribbleLevel
        else feedCeiling s0 (activeMaximum s)
      exec (.setFeedLevel level) s = .next { s with
        governor := { s.governor with
          requested := level.toNat
          ceiling := ceiling
          level := min s.governor.level ceiling
          dutyStaged := if ceiling < s.governor.level then (ceiling * 255 + 50) / 100 else s.governor.dutyStaged
          state := if s.governor.state = .running ∧ s.governor.level < ceiling then .ramping else s.governor.state }
        answer := some (.cab, answerOk []) })

/-- The presence timer and the pauses: a cause taken while feeding shuts the gate and enters PAUSED with its reason; in
PAUSED it adds a reason that is not in the set; in CUTOFF it clears clean; in IDLE it does nothing more. The causes are the
fall of BELT_RUN, a Hold Pour with deck hold clear, and presence expiry while feeding.
The reply byte of Hold Pour is the model's choice (log entry 20). -/
def Obligations.PauseCausesStopTheFeed : Prop :=
  ∀ (s s0 : State) (c : Instr) (r : PauseReason), s.phase = .running →
    ((c = .beltRunFall ∧ r = .beltStopped ∧ s0 = { s with pins := { s.pins with beltRun := false } }) ∨
     (c = .holdPour ∧ r = .deckHold ∧ s.governor.deckHold = false ∧
       s0 = { s with governor := { s.governor with deckHold := true }, answer := some (.deck, answerOk [1]) }) ∨
     (c = .presenceTimerExpiry ∧ r = .cabSilent ∧ s.governor.presenceTimer.isSome = true ∧
       s.governor.state.feeding = true ∧
       s0 = { s with governor := { s.governor with presenceTimer := none, presenceLive := false } })) →
    (s.governor.state.feeding = true →
      exec c s = .next { s0 with
        governor := s0.governor.pausedFor r (ceilingLeft s), events := s.events.raise (.feedPaused r) }) ∧
    (s.governor.state = .paused → s.governor.pauseSet.has r = false →
      exec c s = .next { s0 with
        governor := { s0.governor with pauseSet := s.governor.pauseSet.add r }
        events := s.events.raise (.feedPaused r) }) ∧
    (s.governor.state = .paused → s.governor.pauseSet.has r = true → exec c s = .next s0) ∧
    (s.governor.state = .cutoff → exec c s = .next { s0 with governor := { s0.governor with clean := false } }) ∧
    (s.governor.state = .idle → exec c s = .next s0)

/-- The inputs and requests that let go of a stop start no feed: presence, presence expiry outside the feeding states, BELT_RUN
rising, a Hold Pour already in force, Release Pour, ESTOP released and Clear Stop. Clear Stop is refused while ESTOP is
asserted; otherwise it clears the latch, takes ESTOP out of the pause set and lets the carriage out of STOPPED. A stopped
timer has no expiry (log entry 7).
The reply bytes of Hold Pour and Release Pour are the model's choice (log entry 20). -/
def Obligations.ReleasesRestartNoFeed : Prop :=
  (∀ (s : State), s.phase = .running →
    (∀ body, exec (.presence body) s = .next { s with
      governor := { s.governor with presenceTimer := some 0, presenceLive := true }
      answer := some (.cab, answerOk []) }) ∧
    (s.governor.presenceTimer.isSome = true → s.governor.state.feeding = false →
      exec .presenceTimerExpiry s = .next { s with
        governor := { s.governor with presenceTimer := none, presenceLive := false } }) ∧
    (s.governor.presenceTimer = none → exec .presenceTimerExpiry s = .next s) ∧
    exec .beltRunRise s = .next { s with pins := { s.pins with beltRun := true } } ∧
    (s.governor.deckHold = true → exec .holdPour s = .next (s.replied .deck .ok [1])) ∧
    exec .releasePour s = .next { s with
      governor := { s.governor with deckHold := false }, answer := some (.deck, answerOk [0]) }) ∧
  ∀ (s : State), s.phase = .running →
    exec .estopReleased s = .next { s with
      pins := { s.pins with estop := false }
      governor := { s.governor with beltPermit := s.dust.stage != .trip }
      events := s.events.raise (.estop true) } ∧
    (s.pins.estop = true → exec .clearStop s = .next (s.notReady .cab .estop)) ∧
    (s.pins.estop = false → SwapLaw s →
      exec .clearStop s = .next { s with
        governor := { s.governor with
          estopLatch := false, pauseSet := { s.governor.pauseSet with estop := false } }
        travel := { s.travel with
          state := if s.travel.state = .stopped then (if s.travel.referenced then .parked else .unreferenced)
            else s.travel.state }
        answer := some (.cab, answerOk []) })

/-- A governor period: in RAMPING and DRIBBLE the level rises by a tenth of the ramp rate, not above the ceiling, with its duty
staged; RAMPING at the ceiling becomes RUNNING; in any other state the expiry only starts the next period. The end of a
FEED_RATE period brings the staged duty into force. The one-second clock counts, and at its greatest value clears time valid
instead; Set Time sets the count and restarts its second. -/
def Obligations.PeriodsAndTheClock : Prop :=
  ∀ (s : State), s.phase = .running →
    let level := min (s.governor.level + s.store.settings.rampRate / 10) s.governor.ceiling
    (s.governor.state = .ramping →
      exec .governorPeriodExpiry s = .next { s with
        governor := { s.governor with
          level := level, dutyStaged := (level * 255 + 50) / 100, period := some 0
          state := if level = s.governor.ceiling then .running else .ramping } }) ∧
    (s.governor.state = .dribble →
      exec .governorPeriodExpiry s = .next { s with
        governor := { s.governor with
          level := level, dutyStaged := (level * 255 + 50) / 100, period := some 0 } }) ∧
    (s.governor.state ≠ .ramping → s.governor.state ≠ .dribble →
      exec .governorPeriodExpiry s = .next { s with governor := { s.governor with period := some 0 } }) ∧
    -- the end of a FEED_RATE period (R110)
    exec .feedRatePeriodEnd s = .next { s with governor := { s.governor with dutyForce := s.governor.dutyStaged } } ∧
    -- the one-second clock (R152)
    (s.accounts.seconds < 4294967295 → exec .secondsTick s = .next { s with
      accounts := { s.accounts with seconds := s.accounts.seconds + 1, second := some 0 } }) ∧
    (4294967295 ≤ s.accounts.seconds → exec .secondsTick s = .next { s with
      accounts := { s.accounts with timeValid := false, second := some 0 } }) ∧
    ∀ seconds : BitVec 32, exec (.setTime seconds) s = .next { s with
      accounts := { s.accounts with seconds := seconds.toNat, timeValid := true, second := some 0 }
      answer := some (.office, answerOk (le 4 seconds.toNat)) }

/-- ESTOP asserted: BELT_PERMIT falls, the latch is set, ESTOP is raised and then the pause; the carriage comes to rest in
STOPPED with its work abandoned, its position and the flag kept; a carriage STOPPED already is left as it is. A pending swap
is taken when its other conditions hold. The whole next state is named. An edge is taken whatever the earlier level (log
entry 11). -/
def Obligations.EstopStopsTheLoader : Prop :=
  ∀ (s : State), s.phase = .running →
    let g := { s.governor with beltPermit := false, estopLatch := true }
    let rest := if s.travel.state = .stopped then s.travel else { s.travel with
      direction := none, brakeRelease := false, dutyStaged := 0, stopping := false, travelTimer := none
      runOutTimer := none, faultCause := none, request := none, state := .stopped }
    let other := otherPage s.travel.activePage
    let swaps := s.travel.swapPending = true ∧ s.travel.state ≠ .stopped ∧ stepActive s = false ∧
      s.weigher.lineTotal = 0
    let swapped := { rest with swapPending := false, activePage := other }
    ∃ t, exec .estopAsserted s = .next t ∧
      t = { s with
        pins := { s.pins with estop := true }, governor := t.governor, travel := t.travel, accounts := t.accounts
        events := t.events } ∧
      (s.governor.state.feeding = true → t.governor = g.pausedFor .estop (ceilingLeft s)) ∧
      (s.governor.state = .paused → t.governor = { g with pauseSet := { s.governor.pauseSet with estop := true } }) ∧
      (s.governor.state = .cutoff → t.governor = { g with clean := false }) ∧
      (s.governor.state = .idle → t.governor = g) ∧
      (¬ swaps → t.travel = rest ∧ t.accounts = s.accounts) ∧
      (swaps →
        t.travel = { swapped with spoutOver := spoutOverNow swapped s.store.settings.pourMargin } ∧
        t.accounts = { s.accounts with
          moment := momentOf (momentOn (s.travel.pages.get other) s.accounts.credited) }) ∧
      t.events = ([Event.estop false] ++
        (if s.governor.state.feeding ∨ (s.governor.state = .paused ∧ s.governor.pauseSet.estop = false) then
          [Event.feedPaused .estop] else []) ++
        (if s.travel.state.inMotion ∨ s.travel.state = .pending then
          [Event.travelDone true s.travel.spoutOver] else []) ++
        (if swaps then [Event.pageSwapped other] else [])).foldl (fun x e => x.raise e) s.events

/-! ### TRAVEL requests and the carriage -/

/-- Each travel request answers with the first of its tests that applies, and then changes nothing. A travel request accepted
behind an empty belt, or with the diverter at REJECT, starts its motion at once. A Go To is in position
already, or faults on the limit switch ahead, or is MOVING at the cruise duty or CREEPING at the creep duty toward its target.
Reference Travel runs aft at the creep duty with the position unreferenced, unless LIM_AFT faults it or HOME, already closed,
sets the position at once.
The reply byte is the model's choice (log entry 20). -/
def Obligations.TravelRequestsStartTheirMotion : Prop :=
  (∀ (s : State) (a : Answer), s.phase = .running →
    let tests := fun (bad goTo absent : Bool) =>
      [(bad, answerOnly .badValue), (stepActive s, answerOnly .busy),
       (s.travel.state.inMotion || decide (s.travel.state = .pending), answerOnly .busy),
       (decide (s.travel.state = .fault), answerNotReady .faulted),
       (decide (s.travel.state = .stopped), answerNotReady .stopped),
       (goTo && decide (s.travel.state = .unreferenced), answerNotReady .unreferenced), (absent, answerOnly .notFound)]
    (∀ b : Byte,
      FirstTest (tests (decide (¬ (1 ≤ b.toNat ∧ b.toNat ≤ 8))) true
        (decide (∃ h : Hold, b.toNat = h.val + 1 ∧ s.travel.activeMap.get h = none))) a →
      exec (.goToHold b) s = .next { s with answer := some (.cab, a) }) ∧
    (∀ p : BitVec 32, FirstTest (tests (decide (s.store.settings.railLength < p.toNat)) true false) a →
      exec (.goToPosition p) s = .next { s with answer := some (.cab, a) }) ∧
    (FirstTest (tests false false false) a →
      exec .referenceTravel s = .next { s with answer := some (.cab, a) })) ∧
  (∀ (s : State) (c : Instr) (r : TravelRequest) (x : Nat), s.phase = .running → stepActive s = false →
    s.travel.state = .parked → (s.weigher.lineTotal = 0 ∨ s.travel.diverter = .reject) →
    ((∃ (b : Byte) (h : Hold) (e : Hatch), c = .goToHold b ∧ b.toNat = h.val + 1 ∧ s.travel.activeMap.get h = some e ∧
        r = .goToHold h ∧ x = (e.fore + e.aft) / 2) ∨
      ∃ p : BitVec 32, c = .goToPosition p ∧ p.toNat ≤ s.store.settings.railLength ∧ r = .goToPosition x ∧
        x = p.toNat) →
    let distance := (s.travel.position - x).natAbs
    let direction : Direction := if s.travel.position < x then .aft else .fore
    let limit := if s.travel.position < x then s.pins.limAft else s.pins.limFore
    let started := { s.travel with target := some x, reversals := 0, runOutTimer := none, stopping := false }
    (distance ≤ s.store.settings.stopBand →
      exec c s = .next { s with
        travel := { started with state := .parked, request := none }
        events := s.events.raise (.travelDone false s.travel.spoutOver), answer := some (.cab, answerOk [2]) }) ∧
    (s.store.settings.stopBand < distance → limit = true →
      exec c s = .next (swapTest { s with
        travel := { started with
          state := .fault, faultCause := some .limit, request := none, travelTimer := none, direction := none
          brakeRelease := false, dutyStaged := 0 }
        events := s.events.raise (.travelFault .limit), answer := some (.cab, answerOk [6]) })) ∧
    (s.store.settings.stopBand < distance → limit = false → s.store.settings.creepDistance < distance →
      exec c s = .next { s with
        travel := { started with
          state := .moving, request := some r, travelTimer := some 0, direction := some direction
          brakeRelease := true, dutyStaged := s.store.settings.cruiseDuty }
        answer := some (.cab, answerOk [4]) }) ∧
    (s.store.settings.stopBand < distance → limit = false → distance ≤ s.store.settings.creepDistance →
      exec c s = .next { s with
        travel := { started with
          state := .creeping, request := some r, travelTimer := some 0, direction := some direction
          brakeRelease := true, dutyStaged := s.store.settings.creepDuty }
        answer := some (.cab, answerOk [5]) })) ∧
  ∀ (s : State), s.phase = .running → stepActive s = false →
    (s.travel.state = .parked ∨ s.travel.state = .unreferenced) →
    (s.weigher.lineTotal = 0 ∨ s.travel.diverter = .reject) →
    let started := { s.travel with target := none, reversals := 0, runOutTimer := none, stopping := false }
    (s.pins.limAft = true →
      exec .referenceTravel s = .next (swapTest { s with
        travel := { started with
          state := .fault, faultCause := some .limit, request := none, travelTimer := none, direction := none
          brakeRelease := false, dutyStaged := 0 }
        events := s.events.raise (.travelFault .limit), answer := some (.cab, answerOk [6]) })) ∧
    (s.pins.limAft = false → s.pins.home = true →
      let home := { started with
        state := .parked, position := s.store.settings.homePosition, referenced := true, request := none
        travelTimer := none, direction := none, brakeRelease := false, dutyStaged := 0 }
      let over_ := spoutOverNow home s.store.settings.pourMargin
      exec .referenceTravel s = .next (swapTest { s with
        travel := { home with spoutOver := over_ }
        events := s.events.raise (.travelDone false over_), answer := some (.cab, answerOk [2]) })) ∧
    (s.pins.limAft = false → s.pins.home = false →
      exec .referenceTravel s = .next { s with
        travel := { started with
          state := .referencing, request := some .reference, travelTimer := some 0, direction := some .aft
          brakeRelease := true, dutyStaged := s.store.settings.creepDuty, referenced := false, spoutOver := none }
        answer := some (.cab, answerOk [1]) })

/-- A travel request accepted with grain in the line and the diverter at NORMAL waits in PENDING; an accepted Set Diverter to
REJECT starts it, as the same request given anew to a PARKED carriage would start, and abandons it for a hold that has
vanished. Set Diverter is refused while a step is ACTIVE, and to NORMAL in motion over a loaded line.
The reply byte is the model's choice (log entry 20). -/
def Obligations.WaitingTravelAndTheDiverter : Prop :=
  ∀ (s : State), s.phase = .running →
    (∀ b : Byte, b ≠ 0 → b ≠ 1 → exec (.setDiverter b) s = .next (s.replied .cab .badValue [])) ∧
    (stepActive s = true →
      exec (.setDiverter 0) s = .next (s.replied .cab .busy []) ∧
      exec (.setDiverter 1) s = .next (s.replied .cab .busy [])) ∧
    (stepActive s = false →
      (∀ (c : Instr) (r : TravelRequest), s.weigher.lineTotal ≠ 0 → s.travel.diverter = .normal →
        ((∃ (b : Byte) (h : Hold), c = .goToHold b ∧ b.toNat = h.val + 1 ∧ (s.travel.activeMap.get h).isSome = true ∧
            r = .goToHold h ∧ s.travel.state = .parked) ∨
          (∃ p : BitVec 32, c = .goToPosition p ∧ p.toNat ≤ s.store.settings.railLength ∧
            r = .goToPosition p.toNat ∧ s.travel.state = .parked) ∨
          (c = .referenceTravel ∧ r = .reference ∧ (s.travel.state = .parked ∨ s.travel.state = .unreferenced))) →
        exec c s = .next { s with
          travel := { s.travel with
            request := some r, beforePending := s.travel.state, state := .pending, runOutTimer := some 0 }
          answer := some (.cab, answerOk [3]) }) ∧
      (s.travel.state ≠ .pending → exec (.setDiverter 1) s = .next { s with
        travel := { s.travel with diverter := .reject }, answer := some (.cab, answerOk []) }) ∧
      (s.travel.state = .pending → exec (.setDiverter 1) s = .next
        { startMotion { s with travel := { s.travel with diverter := .reject } } with
          answer := some (.cab, answerOk []) }) ∧
      (∀ (c : Instr) (r : TravelRequest), s.travel.state = .pending → s.travel.request = some r →
        ((∃ (b : Byte) (h : Hold), c = .goToHold b ∧ b.toNat = h.val + 1 ∧ (s.travel.activeMap.get h).isSome = true ∧
            r = .goToHold h) ∨
          (∃ p : BitVec 32, c = .goToPosition p ∧ p.toNat ≤ s.store.settings.railLength ∧
            r = .goToPosition p.toNat) ∨
          (c = .referenceTravel ∧ r = .reference)) →
        ∃ u, exec c { s with travel := { s.travel with state := .parked, diverter := .reject } } = .next u ∧
          exec (.setDiverter 1) s = .next { u with answer := some (.cab, answerOk []) }) ∧
      (∀ h : Hold, s.travel.state = .pending → s.travel.request = some (.goToHold h) →
        s.travel.activeMap.get h = none →
        exec (.setDiverter 1) s = .next { s with
          travel := { s.travel with
            diverter := .reject, request := none, runOutTimer := none, reversals := 0, stopping := false
            state := s.travel.beforePending }
          events := s.events.raise (.travelDone true s.travel.spoutOver), answer := some (.cab, answerOk []) }) ∧
      (¬ (s.travel.state.inMotion = true ∧ s.weigher.lineTotal ≠ 0) → exec (.setDiverter 0) s = .next { s with
        travel := { s.travel with diverter := .normal }, answer := some (.cab, answerOk []) }) ∧
      (s.travel.state.inMotion = true → s.weigher.lineTotal ≠ 0 →
        exec (.setDiverter 0) s = .next (s.replied .cab .busy [])))

/-- Cancel Travel is always answered OK: a motion comes to rest, a waiting request is dropped, and a carriage at rest is left
as it is; no TRAVEL_DONE is raised. A second Cancel Travel changes nothing. -/
def Obligations.CancelTravelEndsTheMotion : Prop :=
  ∀ (s : State), s.phase = .running →
    (s.travel.state = .moving ∨ s.travel.state = .creeping ∨ s.travel.state = .referencing →
      exec .cancelTravel s = .next (swapTest { s with
        travel := { s.travel with
          direction := none, brakeRelease := false, dutyStaged := 0, stopping := false, travelTimer := none
          request := none, state := if s.travel.referenced then .parked else .unreferenced }
        answer := some (.cab, answerOk []) })) ∧
    (s.travel.state = .pending →
      exec .cancelTravel s = .next { s with
        travel := { s.travel with runOutTimer := none, request := none, state := s.travel.beforePending }
        answer := some (.cab, answerOk []) }) ∧
    (s.travel.state = .unreferenced ∨ s.travel.state = .parked ∨ s.travel.state = .fault ∨ s.travel.state = .stopped →
      exec .cancelTravel s = .next (s.replied .cab .ok [])) ∧
    ((s.travel.state = .pending →
        s.travel.beforePending = .parked ∨ s.travel.beforePending = .unreferenced) →
      ∀ t, exec .cancelTravel s = .next t → exec .cancelTravel t = .next t)

/-- The spout is over a hold exactly while the position is referenced and lies in the pour window of the hold's entry on the active
page. An encoder count moves the position by one, within a signed 32-bit number, and recomputes the spout-over hold; in
motion it begins the creep and the stop; and away from the ACTIVE step's hold a step being fed or PAUSED is cut off for POSITION
in the same arrival, while one in CUTOFF keeps its recorded reason. -/
def Obligations.EncoderCountMovesThePosition : Prop :=
  (∀ (t : Travel) (m : Nat),
    (∀ h, spoutOverNow t m = some h → t.referenced = true ∧ ∃ e, t.activeMap.get h = some e ∧
      (e.fore : Int) + m ≤ t.position ∧ t.position ≤ (e.aft : Int) - m) ∧
    (spoutOverNow t m = none → t.referenced = true → ∀ h e, t.activeMap.get h = some e →
      ¬ ((e.fore : Int) + m ≤ t.position ∧ t.position ≤ (e.aft : Int) - m)) ∧
    (t.activeMap.windowsOk m = true → t.referenced = true → ∀ h e, t.activeMap.get h = some e →
      (e.fore : Int) + m ≤ t.position → t.position ≤ (e.aft : Int) - m → spoutOverNow t m = some h)) ∧
  ∀ (s : State) (d : Direction), s.phase = .running →
    let x := match d with
      | .aft => if s.travel.position < 2147483647 then s.travel.position + 1 else s.travel.position
      | .fore => if -2147483648 < s.travel.position then s.travel.position - 1 else s.travel.position
    let over_ := spoutOverNow { s.travel with position := x } s.store.settings.pourMargin
    -- at rest, or referencing, with no step ACTIVE
    (stepActive s = false → s.travel.state ≠ .moving → s.travel.state ≠ .creeping →
      exec (.encoderCount d) s = .next { s with travel := { s.travel with position := x, spoutOver := over_ } }) ∧
    -- MOVING: within the creep distance the creep duty is staged
    (∀ y, stepActive s = false → s.travel.state = .moving → s.travel.target = some y →
      exec (.encoderCount d) s = .next { s with
        travel := if (x - y).natAbs ≤ s.store.settings.creepDistance then
            { s.travel with
              position := x, spoutOver := over_, dutyStaged := s.store.settings.creepDuty, state := .creeping }
          else { s.travel with position := x, spoutOver := over_ } }) ∧
    -- CREEPING: within the stop band the stop is begun
    (∀ y, stepActive s = false → s.travel.state = .creeping → s.travel.target = some y →
      exec (.encoderCount d) s = .next { s with
        travel := if s.travel.stopping = false ∧ (x - y).natAbs ≤ s.store.settings.stopBand then
            { s.travel with position := x, spoutOver := over_, dutyStaged := 0, stopping := true }
          else { s.travel with position := x, spoutOver := over_ } }) ∧
    -- a step ACTIVE with the carriage at rest: over the same hold as before, or away from it
    (∀ st, activeStep s.plan = some st → s.travel.state ≠ .moving → s.travel.state ≠ .creeping →
      (over_ = s.travel.spoutOver ∨ s.travel.spoutOver ≠ some st.hold →
        exec (.encoderCount d) s = .next { s with travel := { s.travel with position := x, spoutOver := over_ } }) ∧
      (s.travel.spoutOver = some st.hold → over_ ≠ some st.hold → s.governor.state.feeding = true →
        exec (.encoderCount d) s = .next { s with
          travel := { s.travel with position := x, spoutOver := over_ }
          plan := { s.plan with
            revision := (s.plan.revision + 1) % 65536
            steps := s.plan.steps.map (fun y =>
              if y.state = .active then { y with cutoffReason := some .position } else y) }
          events := s.events.raise (.planChanged ((s.plan.revision + 1) % 65536))
          governor := { s.governor with
            state := .cutoff, feedPermit := false, level := 0, dutyStaged := 0, tail := 0
            pauseSet := { dust := false, cabSilent := false, deckHold := false, beltStopped := false, estop := false }
            ceiling := ceilingLeft s } }) ∧
      (s.travel.spoutOver = some st.hold → over_ ≠ some st.hold →
          s.governor.state = .cutoff ∨ s.governor.state = .idle →
        exec (.encoderCount d) s = .next { s with travel := { s.travel with position := x, spoutOver := over_ } }) ∧
      (s.travel.spoutOver = some st.hold → over_ ≠ some st.hold → s.governor.state = .paused →
          ¬ (s.weigher.lineTotal = 0 ∧ s.store.settings.tailSegments ≤ s.governor.tail) →
        exec (.encoderCount d) s = .next { s with
          travel := { s.travel with position := x, spoutOver := over_ }
          plan := { s.plan with
            revision := (s.plan.revision + 1) % 65536
            steps := s.plan.steps.map (fun y =>
              if y.state = .active then { y with cutoffReason := some .position } else y) }
          events := s.events.raise (.planChanged ((s.plan.revision + 1) % 65536))
          governor := { s.governor with
            state := .cutoff, feedPermit := false, level := 0, dutyStaged := 0
            pauseSet := { dust := false, cabSilent := false, deckHold := false, beltStopped := false, estop := false }
            } }) ∧
      -- from PAUSED with the run-out test already holding, the step completes at once as HELD(POSITION)
      (s.travel.spoutOver = some st.hold → over_ ≠ some st.hold → s.governor.state = .paused →
          s.weigher.lineTotal = 0 → s.store.settings.tailSegments ≤ s.governor.tail →
        exec (.encoderCount d) s = .next (swapTest { s with
          travel := { s.travel with position := x, spoutOver := over_ }
          plan := { s.plan with
            revision := ((s.plan.revision + 1) % 65536 + 1) % 65536
            steps := s.plan.steps.map (fun y =>
              if y.state = .active then
                { y with state := .held, holdReason := some .position, cutoffReason := none } else y) }
          events := ((s.events.raise (.planChanged ((s.plan.revision + 1) % 65536))).raise
            (.planChanged (((s.plan.revision + 1) % 65536 + 1) % 65536))).raise (.stepHeld st.id .position)
          governor := { s.governor with
            state := .idle, feedPermit := false, level := 0, dutyStaged := 0, effective := none
            pauseSet := { dust := false, cabSilent := false, deckHold := false, beltStopped := false, estop := false }
            } })))

/-- The end of a TRAVEL_SPEED period brings the staged duty into force. A stop begun is then judged: in position, past the
target (a reversal, or HUNTING at the third), or short of it.
That a reversal counts before a limit fault is the model's choice (log entry 23). -/
def Obligations.SpeedPeriodEndJudgesTheStop : Prop :=
  ∀ (s : State), s.phase = .running →
    (¬ (s.travel.state = .creeping ∧ s.travel.stopping = true) →
      exec .travelSpeedPeriodEnd s = .next { s with travel := { s.travel with dutyForce := s.travel.dutyStaged } }) ∧
    ∀ (x : Nat) (d : Direction), s.travel.state = .creeping → s.travel.stopping = true → s.travel.target = some x →
      s.travel.direction = some d →
      let distance := (s.travel.position - x).natAbs
      let past := if d = .aft then (x : Int) < s.travel.position else s.travel.position < (x : Int)
      let back : Direction := if d = .aft then .fore else .aft
      let limit := if d = .aft then s.pins.limFore else s.pins.limAft
      let judged := { s.travel with
        dutyForce := s.travel.dutyStaged, direction := none, brakeRelease := false, stopping := false }
      (distance ≤ s.store.settings.stopBand →
        exec .travelSpeedPeriodEnd s = .next (swapTest { s with
          travel := { judged with state := .parked, travelTimer := none, request := none }
          events := s.events.raise (.travelDone false s.travel.spoutOver) })) ∧
      (s.store.settings.stopBand < distance → past → s.travel.reversals < 2 → limit = false →
        exec .travelSpeedPeriodEnd s = .next { s with
          travel := { judged with
            reversals := s.travel.reversals + 1, direction := some back, brakeRelease := true
            dutyStaged := s.store.settings.creepDuty } }) ∧
      (s.store.settings.stopBand < distance → past → s.travel.reversals < 2 → limit = true →
        exec .travelSpeedPeriodEnd s = .next (swapTest { s with
          travel := { judged with
            reversals := s.travel.reversals + 1, state := .fault, faultCause := some .limit, request := none
            travelTimer := none, dutyStaged := 0 }
          events := s.events.raise (.travelFault .limit) })) ∧
      (s.store.settings.stopBand < distance → past → 2 ≤ s.travel.reversals →
        exec .travelSpeedPeriodEnd s = .next (swapTest { s with
          travel := { judged with
            state := .fault, faultCause := some .hunting, request := none, travelTimer := none, dutyStaged := 0 }
          events := s.events.raise (.travelFault .hunting) })) ∧
      (s.store.settings.stopBand < distance → ¬ past →
        exec .travelSpeedPeriodEnd s = .next { s with
          travel := { judged with
            direction := some d, brakeRelease := true, dutyStaged := s.store.settings.creepDuty } })

/-- HOME closing while REFERENCING sets the position; the limit switch of the direction of motion, and the travel timer, enter FAULT;
the run-out timer abandons a waiting request. Clear Travel Fault leaves FAULT for PARKED or UNREFERENCED by the flag, and
elsewhere changes nothing. A switch is seen at its level in every state, and a stopped timer has no expiry (log entries 7
and 11). -/
def Obligations.SwitchesTimersAndTheFault : Prop :=
  (∀ (s : State), s.phase = .running →
    let rest := { s.travel with
      direction := none, brakeRelease := false, dutyStaged := 0, travelTimer := none, request := none }
    -- HOME
    (s.travel.state = .referencing →
      let home := { rest with state := .parked, position := s.store.settings.homePosition, referenced := true }
      let over_ := spoutOverNow home s.store.settings.pourMargin
      exec (.homeCloses true) s = .next (swapTest { s with
        pins := { s.pins with home := true }
        travel := { home with spoutOver := over_ }
        events := s.events.raise (.travelDone false over_) })) ∧
    (∀ closed, ¬ (closed = true ∧ s.travel.state = .referencing) →
      exec (.homeCloses closed) s = .next { s with pins := { s.pins with home := closed } }) ∧
    -- LIM_FORE and LIM_AFT
    (∀ d level,
      let pins := if d = Direction.fore then { s.pins with limFore := level } else { s.pins with limAft := level }
      (level = true ∧ s.travel.state.inMotion = true ∧ s.travel.direction = some d →
        exec (.limitSwitchAsserted d level) s = .next (swapTest { s with
          pins := pins
          travel := { rest with state := .fault, faultCause := some .limit, stopping := false }
          events := s.events.raise (.travelFault .limit) })) ∧
      (¬ (level = true ∧ s.travel.state.inMotion = true ∧ s.travel.direction = some d) →
        exec (.limitSwitchAsserted d level) s = .next { s with pins := pins })) ∧
    -- the travel timer
    (s.travel.travelTimer.isSome = true →
      exec .travelTimerExpiry s = .next (swapTest { s with
        travel := { rest with state := .fault, faultCause := some .timeout, stopping := false }
        events := s.events.raise (.travelFault .timeout) })) ∧
    (s.travel.travelTimer = none → exec .travelTimerExpiry s = .next s) ∧
    -- the run-out timer
    (s.travel.runOutTimer.isSome = true →
      exec .runOutTimerExpiry s = .next { s with
        travel := { s.travel with request := none, runOutTimer := none, state := s.travel.beforePending }
        events := s.events.raise (.travelDone true s.travel.spoutOver) }) ∧
    (s.travel.runOutTimer = none → exec .runOutTimerExpiry s = .next s)) ∧
  ∀ (s : State), s.phase = .running →
    (s.travel.state = .fault →
      exec .clearTravelFault s = .next { s with
        travel := { s.travel with
          faultCause := none, state := if s.travel.referenced then .parked else .unreferenced }
        answer := some (.cab, answerOk []) }) ∧
    (s.travel.state ≠ .fault → exec .clearTravelFault s = .next (s.replied .cab .ok []))

/-! ### PLAN and HATCH requests -/

/-- Open Call while no call is open stores the id and the band, 1000 t·m when none is given; Close Call with nothing unfinished
empties the plan, the hold records, the unassigned account and both pages, and clears the weighing lot. Both replies carry the
new revision; that it is all that the reply of Close Call carries is the model's choice (log entry 20). -/
def Obligations.CallsOpenAndClose : Prop :=
  ∀ (s : State), s.phase = .running →
    let revision := (s.plan.revision + 1) % 65536
    (∀ id band, s.plan.callOpen = true → exec (.openCall id band) s = .next (s.replied .deck .busy [])) ∧
    (∀ id band, s.plan.callOpen = false → (id = 0 ∨ band = some 0) →
      exec (.openCall id band) s = .next (s.replied .deck .badValue [])) ∧
    (∀ (id : BitVec 32) (band : Option (BitVec 16)), s.plan.callOpen = false → id ≠ 0 → band ≠ some 0 →
      let given := (band.map BitVec.toNat).getD 1000
      exec (.openCall id band) s = .next { s with
        plan := { s.plan with callOpen := true, callId := id.toNat, trimBand := given, revision := revision }
        events := s.events.raise (.planChanged revision)
        answer := some (.deck, answerOk (le 4 id.toNat ++ le 2 given ++ le 2 revision)) }) ∧
    (s.plan.callOpen = false → exec .closeCall s = .next (s.notReady .deck .noCall)) ∧
    (s.plan.callOpen = true → ((∃ x ∈ s.plan.steps, x.state = .active ∨ x.state = .held) ∨ s.weigher.lineTotal ≠ 0 ∨
        ∃ i, (s.accounts.lots.get i).isOpen = true) →
      exec .closeCall s = .next (s.replied .deck .busy [])) ∧
    (s.plan.callOpen = true → (∀ x ∈ s.plan.steps, x.state ≠ .active ∧ x.state ≠ .held) → s.weigher.lineTotal = 0 →
        (∀ i, (s.accounts.lots.get i).isOpen = false) →
      exec .closeCall s = .next { s with
        plan := { s.plan with steps := [], callOpen := false, callId := 0, revision := revision }
        events := s.events.raise (.planChanged revision)
        accounts := { s.accounts with
          credited := Vector.replicate 8 0, moment := 0
          unassigned := { weighed := 0, estimated := 0, overRange := false, unweighed := 0, splits := [], rejected := 0,
                          spilled := 0, unplaced := 0 } }
        travel := { s.travel with
          pages := Vector.replicate 2 (Vector.replicate 8 none), swapPending := false, spoutOver := none }
        weigher := { s.weigher with weighingLot := none }
        answer := some (.deck, answerOk (le 2 revision)) })

/-- An accepted Insert Step puts a PENDING step with a new id at its position, the later steps moving one place on; the
positions allowed never lie before an ACTIVE or HELD step, nor before the current step. The id is the first, tried from the
counter on and wrapping from 65535 to 1, that no step of the plan carries.
That the position has one byte in the reply is the model's choice (log entry 20). -/
def Obligations.InsertStepPlacesANewStep : Prop :=
  (∀ (s : State) (position hold slot level : Byte) (target : BitVec 16), s.phase = .running →
    (s.plan.callOpen = false →
      exec (.insertStep position hold slot target level) s = .next (s.notReady .deck .noCall)) ∧
    (s.plan.callOpen = true →
      ¬ (1 ≤ hold.toNat ∧ hold.toNat ≤ 8 ∧ slot.toNat ≤ 15 ∧ 1 ≤ target.toNat ∧ target.toNat ≤ 20000 ∧
          (level.toNat = 0 ∨ (10 ≤ level.toNat ∧ level.toNat ≤ 100))) ∨
        (∃ i : Slot, slot.toNat = i.val ∧ (s.accounts.lots.get i).isOpen = false) →
      exec (.insertStep position hold slot target level) s = .next (s.replied .deck .badValue []))) ∧
  ∀ (s : State) (position hold slot level : Byte) (target : BitVec 16) (h : Hold) (i : Slot), s.phase = .running →
    s.plan.callOpen = true → hold.toNat = h.val + 1 → slot.toNat = i.val → 1 ≤ target.toNat → target.toNat ≤ 20000 →
    (level.toNat = 0 ∨ (10 ≤ level.toNat ∧ level.toNat ≤ 100)) → (s.accounts.lots.get i).isOpen = true →
    let first := match currentStep s.plan with
      | none => s.plan.steps.length + 1
      | some x => if x.state = .pending then currentPosition s.plan else currentPosition s.plan + 1
    (¬ (first ≤ position.toNat ∧ position.toNat ≤ s.plan.steps.length + 1) →
      exec (.insertStep position hold slot target level) s = .next (s.replied .deck .badValue [])) ∧
    (first ≤ position.toNat → position.toNat ≤ s.plan.steps.length + 1 → 48 ≤ s.plan.steps.length →
      exec (.insertStep position hold slot target level) s = .next (s.replied .deck .full [])) ∧
    (first ≤ position.toNat → position.toNat ≤ s.plan.steps.length + 1 → s.plan.steps.length < 48 →
        1 ≤ s.plan.stepIdCounter → s.plan.stepIdCounter ≤ 65535 →
      let tried := fun (k : Nat) => (s.plan.stepIdCounter - 1 + k) % 65535 + 1
      ∃ k id, id = tried k ∧ (∀ x ∈ s.plan.steps, x.id ≠ id) ∧
        (∀ j, j < k → ∃ x ∈ s.plan.steps, x.id = tried j) ∧
        exec (.insertStep position hold slot target level) s = .next { s with
          plan := { s.plan with
            revision := (s.plan.revision + 1) % 65536
            stepIdCounter := if id = 65535 then 1 else id + 1
            steps := s.plan.steps.take (position.toNat - 1) ++
              [{ id := id, hold := h, slot := i, target := target.toNat * 1000000
                 maxLevel := if level.toNat = 0 then none else some level.toNat, state := .pending, holdReason := none
                 cutoffReason := none, placed := 0, effective := none, shortClosed := false }] ++
              s.plan.steps.drop (position.toNat - 1) }
          events := s.events.raise (.planChanged ((s.plan.revision + 1) % 65536))
          answer := some (.deck, answerOk (le 2 id ++ [position] ++ le 2 ((s.plan.revision + 1) % 65536))) })

/-- Modify Step is refused NO_CALL, BAD_VALUE, NOT_FOUND, and BUSY for a DONE or CANCELLED step. Otherwise it writes the fields
given, a level of FFh removing the maximum, and moves the revision when a field changed. A PENDING or HELD step is left at
that; the ACTIVE step is re-evaluated with its new fields. -/
def Obligations.ModifyStepOfAWaitingStep : Prop :=
  ∀ (s : State) (id target : BitVec 16) (level : Byte), s.phase = .running →
    let modify := exec (.modifyStep id target level) s
    let good := (target.toNat ≠ 0 ∨ level.toNat ≠ 0) ∧ target.toNat ≤ 20000 ∧
      (level.toNat = 0 ∨ level.toNat = 255 ∨ (10 ≤ level.toNat ∧ level.toNat ≤ 100))
    (s.plan.callOpen = false → modify = .next (s.notReady .deck .noCall)) ∧
    (s.plan.callOpen = true → ¬ good → modify = .next (s.replied .deck .badValue [])) ∧
    (s.plan.callOpen = true → good → stepOf s.plan id.toNat = none → modify = .next (s.replied .deck .notFound [])) ∧
    ∀ x, s.plan.callOpen = true → good → stepOf s.plan id.toNat = some x →
      let mass := if target.toNat = 0 then x.target else target.toNat * 1000000
      let maximum := if level.toNat = 0 then x.maxLevel else if level.toNat = 255 then none else some level.toNat
      let changed := mass ≠ x.target ∨ maximum ≠ x.maxLevel
      let revision := if changed then (s.plan.revision + 1) % 65536 else s.plan.revision
      let x1 := { x with target := mass, maxLevel := maximum }
      let s1 := { s with
        plan := { s.plan with
          revision := revision
          steps := s.plan.steps.map (fun y =>
            if y.id = id.toNat then { y with target := mass, maxLevel := maximum } else y) }
        events := if changed then s.events.raise (.planChanged revision) else s.events }
      (x.state = .done ∨ x.state = .cancelled → modify = .next (s.replied .deck .busy [])) ∧
      (x.state = .pending ∨ x.state = .held → PlanLaw s →
        modify = .next { s1 with answer := some (.deck, answerOk (stepRecord x1 ++ le 2 revision)) }) ∧
      (x.state = .active → PlanLaw s →
        ∃ t x2, ReEvaluated s1 x1 t ∧ stepOf t.plan id.toNat = some x2 ∧
          modify = .next { t with answer := some (.deck, answerOk (stepRecord x2 ++ le 2 t.plan.revision)) })

/-- Set Trim Band is refused NO_CALL and BAD_VALUE; a new band is stored and moves the revision, and the ACTIVE step is
re-evaluated under it in every governor state. The reply carries the band as stored and the revision after the request. -/
def Obligations.SetTrimBandReEvaluates : Prop :=
  ∀ (s : State) (band : BitVec 16), s.phase = .running →
    (s.plan.callOpen = false → exec (.setTrimBand band) s = .next (s.notReady .deck .noCall)) ∧
    (s.plan.callOpen = true → band = 0 → exec (.setTrimBand band) s = .next (s.replied .deck .badValue [])) ∧
    (s.plan.callOpen = true → band ≠ 0 → band.toNat = s.plan.trimBand →
      exec (.setTrimBand band) s = .next (s.replied .deck .ok (le 2 band.toNat ++ le 2 s.plan.revision))) ∧
    (s.plan.callOpen = true → band ≠ 0 → band.toNat ≠ s.plan.trimBand →
      let revision := (s.plan.revision + 1) % 65536
      let s1 := { s with
        plan := { s.plan with trimBand := band.toNat, revision := revision }
        events := s.events.raise (.planChanged revision) }
      (stepActive s = false → exec (.setTrimBand band) s = .next { s1 with
        answer := some (.deck, answerOk (le 2 band.toNat ++ le 2 revision)) }) ∧
      ∀ x, activeStep s.plan = some x →
        ∃ t, ReEvaluated s1 x t ∧ t.plan.trimBand = band.toNat ∧
          exec (.setTrimBand band) s = .next { t with
            answer := some (.deck, answerOk (le 2 band.toNat ++ le 2 t.plan.revision)) })

/-- Delete Step removes a PENDING step, the later ones moving up, and raises no step event. -/
def Obligations.DeleteStepRemovesAPendingStep : Prop :=
  ∀ (s : State) (id : BitVec 16), s.phase = .running →
    (s.plan.callOpen = false → exec (.deleteStep id) s = .next (s.notReady .deck .noCall)) ∧
    (s.plan.callOpen = true → (∀ x ∈ s.plan.steps, x.id ≠ id.toNat) →
      exec (.deleteStep id) s = .next (s.replied .deck .notFound [])) ∧
    ∀ before x after, s.plan.callOpen = true → s.plan.steps = before ++ x :: after → x.id = id.toNat →
      s.plan.steps.Pairwise (fun a b => a.id ≠ b.id) →
      (x.state ≠ .pending → exec (.deleteStep id) s = .next (s.replied .deck .busy [])) ∧
      (x.state = .pending → ∃ t, exec (.deleteStep id) s = .next t ∧
        t = { s with
          plan := { s.plan with steps := before ++ after, revision := (s.plan.revision + 1) % 65536 }
          events := s.events.raise (.planChanged ((s.plan.revision + 1) % 65536))
          answer := some (.deck, answerOk (le 2 ((s.plan.revision + 1) % 65536))) } ∧
        (currentStep s.plan = some x → currentStep t.plan = after.find? Step.unfinished))

/-- Close Step Short ends a HELD step as DONE, short-closed, with the placed mass kept. -/
def Obligations.CloseStepShortEndsAHeldStep : Prop :=
  ∀ (s : State) (id : BitVec 16), s.phase = .running →
    (s.plan.callOpen = false → exec (.closeStepShort id) s = .next (s.notReady .deck .noCall)) ∧
    (s.plan.callOpen = true → (∀ x ∈ s.plan.steps, x.id ≠ id.toNat) →
      exec (.closeStepShort id) s = .next (s.replied .deck .notFound [])) ∧
    ∀ x, s.plan.callOpen = true → x ∈ s.plan.steps → x.id = id.toNat →
      s.plan.steps.Pairwise (fun a b => a.id ≠ b.id) →
      (x.state ≠ .held → exec (.closeStepShort id) s = .next (s.replied .deck .busy [])) ∧
      (x.state = .held → exec (.closeStepShort id) s = .next { s with
        plan := { s.plan with
          revision := (s.plan.revision + 1) % 65536
          steps := s.plan.steps.map (fun y => if y.id = id.toNat then
            { y with state := .done, shortClosed := true, holdReason := none, effective := none } else y) }
        events := (s.events.raise (.planChanged ((s.plan.revision + 1) % 65536))).raise
          (.stepDone x.id .shortClosed x.placed)
        answer := some (.deck, answerOk (le 2 ((s.plan.revision + 1) % 65536))) })

/-- Cancel Step and Release Hold are refused NO_CALL, NOT_FOUND and BUSY. Cancel Step ends a PENDING or HELD step at once
and turns the ACTIVE step's cutoff reason into DECK, which cuts off a step being fed; Release Hold takes the reason off a
HELD step. Every reply OK carries the revision after the request; that it comes last is the model's choice (log entry 20). -/
def Obligations.CancelStepAndReleaseHold : Prop :=
  (∀ (s : State) (id : BitVec 16), s.phase = .running →
    (s.plan.callOpen = false →
      exec (.cancelStep id) s = .next (s.notReady .deck .noCall) ∧
      exec (.releaseHold id) s = .next (s.notReady .deck .noCall)) ∧
    (s.plan.callOpen = true → stepOf s.plan id.toNat = none →
      exec (.cancelStep id) s = .next (s.replied .deck .notFound []) ∧
      exec (.releaseHold id) s = .next (s.replied .deck .notFound []))) ∧
  ∀ (s : State) (id : BitVec 16) (x : Step), s.phase = .running → s.plan.callOpen = true →
    stepOf s.plan id.toNat = some x →
    let revision := (s.plan.revision + 1) % 65536
    (x.state = .done ∨ x.state = .cancelled → exec (.cancelStep id) s = .next (s.replied .deck .busy [])) ∧
    (x.state = .pending ∨ x.state = .held →
      exec (.cancelStep id) s = .next { s with
        plan := { s.plan with
          revision := revision
          steps := s.plan.steps.map (fun y => if y.id = id.toNat then
            { y with state := .cancelled, holdReason := none, effective := none } else y) }
        events := (s.events.raise (.planChanged revision)).raise (.stepDone x.id .cancelled x.placed)
        answer := some (.deck, answerOk ([4] ++ le 2 revision)) }) ∧
    (x.state = .active → x.cutoffReason = some .deck →
      exec (.cancelStep id) s = .next (s.replied .deck .ok ([1, 5] ++ le 2 s.plan.revision))) ∧
    (x.state = .active → x.cutoffReason ≠ some .deck → s.governor.state.feeding = true ∨
        (s.governor.state = .paused ∧
          ¬ (s.weigher.lineTotal = 0 ∧ s.store.settings.tailSegments ≤ s.governor.tail)) →
      exec (.cancelStep id) s = .next { s with
        plan := { s.plan with
          revision := revision
          steps := s.plan.steps.map (fun y =>
            if y.state = .active then { y with cutoffReason := some .deck } else y) }
        events := s.events.raise (.planChanged revision)
        governor := { s.governor with
          state := .cutoff, feedPermit := false, level := 0, dutyStaged := 0
          tail := if s.governor.state.feeding then 0 else s.governor.tail
          pauseSet := { dust := false, cabSilent := false, deckHold := false, beltStopped := false, estop := false }
          ceiling := ceilingLeft s }
        answer := some (.deck, answerOk ([1, 5] ++ le 2 revision)) }) ∧
    (x.state = .active → activeStep s.plan = some x → x.cutoffReason ≠ some .deck → s.governor.state = .paused →
        s.weigher.lineTotal = 0 → s.store.settings.tailSegments ≤ s.governor.tail →
      exec (.cancelStep id) s = .next (swapTest { s with
        plan := { s.plan with
          revision := (revision + 1) % 65536
          steps := s.plan.steps.map (fun y => if y.state = .active then
            { y with state := .cancelled, holdReason := none, cutoffReason := none, effective := none } else y) }
        events := ((s.events.raise (.planChanged revision)).raise (.planChanged ((revision + 1) % 65536))).raise
          (.stepDone x.id .cancelled x.placed)
        governor := { s.governor with
          state := .idle, feedPermit := false, level := 0, dutyStaged := 0, effective := none
          pauseSet := { dust := false, cabSilent := false, deckHold := false, beltStopped := false, estop := false } }
        answer := some (.deck, answerOk ([1, 5] ++ le 2 ((revision + 1) % 65536))) })) ∧
    (x.state = .active → x.cutoffReason ≠ some .deck → s.governor.state = .cutoff →
      exec (.cancelStep id) s = .next { s with
        plan := { s.plan with
          revision := revision
          steps := s.plan.steps.map (fun y =>
            if y.state = .active then { y with cutoffReason := some .deck } else y) }
        events := s.events.raise (.planChanged revision)
        answer := some (.deck, answerOk ([1, 5] ++ le 2 revision)) }) ∧
    (x.state ≠ .held → exec (.releaseHold id) s = .next (s.replied .deck .busy [])) ∧
    (x.state = .held → x.holdReason.isSome = true →
      exec (.releaseHold id) s = .next { s with
        plan := { s.plan with
          revision := revision
          steps := s.plan.steps.map (fun y => if y.id = id.toNat then { y with holdReason := none } else y) }
        events := s.events.raise (.planChanged revision), answer := some (.deck, answerOk (le 2 revision)) }) ∧
    (x.state = .held → x.holdReason = none → exec (.releaseHold id) s = .next (s.replied .deck .ok (le 2 s.plan.revision)))

/-- Write Hatch Entry writes the inactive page alone: an entry, present with a pour window that shares no position with
another of the page, or absent; everything else is left. With no call open it is refused NO_CALL, and a page above 1 or a hold
outside 1..8 is BAD_VALUE.
What a present byte beyond 1 answers, and that an absent entry's fields are ignored, is the model's choice (log entry 19). -/
def Obligations.WriteHatchEntryWritesTheInactivePage : Prop :=
  (∀ (s : State) (page hold present : Byte) (fore aft : BitVec 32) (lever limit : BitVec 16), s.phase = .running →
    let write := exec (.writeHatchEntry page hold present fore aft lever limit) s
    (s.plan.callOpen = false → write = .next (s.notReady .deck .noCall)) ∧
    (s.plan.callOpen = true → 2 ≤ page.toNat ∨ hold.toNat = 0 ∨ 9 ≤ hold.toNat →
      write = .next (s.replied .deck .badValue []))) ∧
  ∀ (s : State) (page hold present : Byte) (fore aft : BitVec 32) (lever limit : BitVec 16) (p : Page) (h : Hold),
    s.phase = .running → s.plan.callOpen = true → page.toNat = p.val → hold.toNat = h.val + 1 →
    let write := exec (.writeHatchEntry page hold present fore aft lever limit) s
    let e : Hatch := { fore := fore.toNat, aft := aft.toNat, lever := lever.toInt, limit := limit.toNat }
    let inRange := fore.toNat ≤ 250000 ∧ aft.toNat ≤ 250000 ∧ -999 ≤ lever.toInt ∧ lever.toInt ≤ 999 ∧
      limit.toNat ≤ 20000
    let m := s.store.settings.pourMargin
    let placed := fore.toNat < aft.toNat ∧ aft.toNat ≤ s.store.settings.railLength ∧
      fore.toNat + m + m ≤ aft.toNat ∧
      ∀ k f, k ≠ h → (s.travel.pages.get p).get k = some f → ¬ ∃ x : Int,
        ((fore.toNat : Int) + m ≤ x ∧ x ≤ (aft.toNat : Int) - m) ∧ (f.fore : Int) + m ≤ x ∧ x ≤ (f.aft : Int) - m
    (present ≠ 0 → present ≠ 1 → write = .next (s.replied .deck .badValue [])) ∧
    (present = 1 → ¬ inRange → write = .next (s.replied .deck .badValue [])) ∧
    (present = 0 ∨ (present = 1 ∧ inRange) → p = s.travel.activePage ∨ s.travel.swapPending = true →
      write = .next (s.replied .deck .busy [])) ∧
    (present = 1 → inRange → p ≠ s.travel.activePage → s.travel.swapPending = false → ¬ placed →
      write = .next (s.replied .deck .badValue [])) ∧
    (present = 1 → inRange → p ≠ s.travel.activePage → s.travel.swapPending = false → placed →
      write = .next { s with
        travel := { s.travel with pages := s.travel.pages.set p ((s.travel.pages.get p).set h (some e)) }
        answer := some (.deck, answerOk (hatchRecord h (some e))) }) ∧
    (present = 0 → p ≠ s.travel.activePage → s.travel.swapPending = false →
      write = .next { s with
        travel := { s.travel with pages := s.travel.pages.set p ((s.travel.pages.get p).set h none) }
        answer := some (.deck, answerOk (hatchRecord h none)) })

/-- Request Swap sets the swap pending and takes it at once when the carriage is at rest, no step is ACTIVE and the line is
empty: the other page becomes active, and the moment and the spout-over hold follow it.
The reply byte is the model's choice (log entry 20). -/
def Obligations.RequestSwapTakesTheOtherPage : Prop :=
  ∀ (s : State), s.phase = .running →
    (s.plan.callOpen = false → exec .requestSwap s = .next (s.notReady .deck .noCall)) ∧
    (s.plan.callOpen = true → s.travel.swapPending = true →
      exec .requestSwap s = .next (s.replied .deck .busy [])) ∧
    (s.plan.callOpen = true → s.travel.swapPending = false →
      let other := otherPage s.travel.activePage
      let page := s.travel.pages.get other
      let lacks := ∃ x, currentStep s.plan = some x ∧ page.get x.hold = none
      let free := s.travel.state.inMotion = false ∧ stepActive s = false ∧ s.weigher.lineTotal = 0
      (lacks → exec .requestSwap s = .next (s.replied .deck .badValue [])) ∧
      (¬ lacks → ¬ free → exec .requestSwap s = .next { s with
        travel := { s.travel with swapPending := true }, answer := some (.deck, answerOk [1]) }) ∧
      (¬ lacks → free →
        let over_ := spoutOverNow { s.travel with activePage := other } s.store.settings.pourMargin
        exec .requestSwap s = .next { s with
          travel := { s.travel with swapPending := false, activePage := other, spoutOver := over_ }
          accounts := { s.accounts with moment := momentOf (momentOn page s.accounts.credited) }
          events := s.events.raise (.pageSwapped other)
          answer := some (.deck, answerOk [0]) }))

/-- Cancel Swap withdraws a pending swap and is answered OK with none pending; after it no command takes the swap, until a new
Request Swap (also one that waits in the Deck's queue) is taken, and the inactive page can be written again. -/
def Obligations.CancelSwapWithdrawsTheSwap : Prop :=
  ∀ (s : State), s.phase = .running →
    (s.plan.callOpen = false → exec .cancelSwap s = .next (s.notReady .deck .noCall)) ∧
    (s.plan.callOpen = true → ∃ t, exec .cancelSwap s = .next t ∧
      t = { s with travel := { s.travel with swapPending := false }, answer := some (.deck, answerOk []) } ∧
      swapTest t = t ∧
      (∀ (c : Instr) (u : State), c ≠ .requestSwap →
        (∀ k, c = .takeRequest .deck k → ∀ e ∈ (t.ports.get .deck).queue.head?, e.code ≠ 0x41) →
        exec c t = .next u → u.travel.swapPending = false ∧ u.travel.activePage = t.travel.activePage) ∧
      (s.travel.swapPending = false → t = { s with answer := some (.deck, answerOk []) }) ∧
      (∀ h : Hold, ∃ u, exec (.writeHatchEntry (BitVec.ofNat 8 (otherPage s.travel.activePage).val)
          (BitVec.ofNat 8 (h.val + 1)) 0 0 0 0 0) t = .next u ∧
        u.answer = some (.deck, answerOk (hatchRecord h none)) ∧
        (u.travel.pages.get (otherPage s.travel.activePage)).get h = none))

/-! ### LOT, SETTINGS and CALIBRATION requests -/

/-- Open Lot takes the lowest FREE slot with everything in it at 0, once its values are good, no OPEN slot carries the number
and a slot is FREE. Close Lot of an OPEN lot that no unfinished step names and that has no grain in the line issues one
bill from the lot record, frees the slot and clears a weighing lot that named it.
That the bill tonnage has eight bytes in the reply is the model's choice (log entry 20). -/
def Obligations.LotsOpenAndClose : Prop :=
  ∀ (s : State), s.phase = .running →
    let stamp := if s.accounts.timeValid then some s.accounts.seconds else none
    let nothing : Ledger := { weighed := 0, estimated := 0, overRange := false, unweighed := 0, splits := [], rejected := 0,
                              spilled := 0, unplaced := 0 }
    (∀ (number : BitVec 32) (grade length : Byte) (chars : List Byte) (declared : BitVec 32),
      let request := exec (.openLot number grade length chars declared) s
      let reference := chars.take length.toNat
      let good := number ≠ 0 ∧ grade ≠ 0 ∧ 1 ≤ length.toNat ∧ length.toNat ≤ 24 ∧
        (∀ c ∈ reference, 0x20 ≤ c.toNat ∧ c.toNat ≤ 0x7E) ∧ declared.toNat ≤ 999999999
      let carried := ∃ i, slotOpen s i ∧ (s.accounts.lots.get i).number = number.toNat
      (¬ good ∨ carried → request = .next (s.replied .office .badValue [])) ∧
      (good → ¬ carried → (∀ i, slotOpen s i) → request = .next (s.replied .office .full [])) ∧
      ∀ i : Slot, good → ¬ carried → ¬ slotOpen s i → (∀ j, j < i → slotOpen s j) →
        request = .next { s with
          accounts := { s.accounts with
            lots := s.accounts.lots.set i
              { isOpen := true, number := number.toNat, grade := grade.toNat, reference := reference
                declared := if declared = 0 then none else some declared.toNat, opened := stamp, ledger := nothing } }
          answer := some (.office,
            answerOk ([BitVec.ofNat 8 i.val, yesNo stamp.isSome] ++ le 4 (stamp.getD 0))) }) ∧
    ∀ number : BitVec 32,
      let request := exec (.closeLot number) s
      (number = 0 → request = .next (s.replied .office .badValue [])) ∧
      (number ≠ 0 → (∀ i, slotOpen s i → (s.accounts.lots.get i).number ≠ number.toNat) →
        request = .next (s.replied .office .notFound [])) ∧
      ∀ i : Slot, number ≠ 0 → slotOpen s i → (s.accounts.lots.get i).number = number.toNat →
        (∀ j, j < i → slotOpen s j → (s.accounts.lots.get j).number ≠ number.toNat) →
        let lot := s.accounts.lots.get i
        let net := lot.ledger.weighed - lot.ledger.rejected
        let held := (∃ x ∈ s.plan.steps, x.unfinished = true ∧ x.slot = i) ∨
          ∃ e ∈ s.weigher.line, e.mass ≠ 0 ∧ e.tag = some (.lot i)
        (held → request = .next (s.replied .office .busy [])) ∧
        (¬ held → 32 ≤ s.accounts.bills.length ∨ s.accounts.billCounter = none →
          request = .next (s.replied .office .full [])) ∧
        ∀ n, ¬ held → s.accounts.bills.length < 32 → s.accounts.billCounter = some n →
          request = .next { s with
            accounts := { s.accounts with
              bills := s.accounts.bills ++ [
                { number := n, slot := i, lotNumber := number.toNat, grade := lot.grade, reference := lot.reference
                  declared := lot.declared, ledger := lot.ledger, net := net, tonnage := (net + 500) / 1000
                  opened := lot.opened, closed := stamp, calibrationCount := s.store.calibrationCount
                  callId := s.plan.callId }]
              billCounter := if n < 4294967295 then some (n + 1) else none
              lots := s.accounts.lots.set i
                { isOpen := false, number := 0, grade := 0, reference := [], declared := none, opened := none
                  ledger := nothing } }
            weigher := { s.weigher with
              weighingLot := if s.weigher.weighingLot = some i then none else s.weigher.weighingLot }
            events := s.events.raise (.billIssued n)
            answer := some (.office, answerOk (le 4 n ++ le 8 net ++ le 8 ((net + 500) / 1000))) }

/-- Release Bill is the Office's: number 0 is BAD_VALUE, a number that no bill carries is NOT_FOUND, and otherwise the bill
leaves the store, the others keeping their order, with no event. Before the release every station reads the bill; after it
a read, and a second release, are NOT_FOUND.
That the count in the reply is one byte is the model's choice (log entry 20). -/
def Obligations.ReleaseBillRemovesTheBill : Prop :=
  requestOf 0x52 = some .releaseBill ∧ (∀ st, Request.releaseBill.cls.allowed st = true ↔ st = .office) ∧
  ∀ (s : State) (n : BitVec 32), s.phase = .running →
    (n = 0 → exec (.releaseBill n) s = .next (s.replied .office .badValue [])) ∧
    (n ≠ 0 → (∀ b ∈ s.accounts.bills, b.number ≠ n.toNat) →
      exec (.releaseBill n) s = .next (s.replied .office .notFound [])) ∧
    ∀ before b after, n ≠ 0 → s.accounts.bills = before ++ b :: after → b.number = n.toNat →
      s.accounts.bills.Pairwise (fun x y => x.number < y.number) →
      ∃ t, exec (.releaseBill n) s = .next t ∧
        t = { s with
          accounts := { s.accounts with bills := before ++ after }
          answer := some (.office, answerOk [BitVec.ofNat 8 (before.length + after.length)]) } ∧
        exec (.releaseBill n) t = .next (t.replied .office .notFound []) ∧
        ∀ (st : Station) (offset limit : BitVec 16), 16 ≤ limit.toNat → limit.toNat ≤ 508 →
          (∃ d, exec (.readBill st n offset limit) s = .next (s.replied st .ok d) ∧
            ReadInParts d (le 4 b.number ++ [BitVec.ofNat 8 s.accounts.bills.length])
              ((billRecord b).map (fun x => [x])) offset.toNat limit.toNat) ∧
          exec (.readBill st n offset limit) t = .next (t.replied st .notFound [])

/-- Write Setting: what each owner refuses, and that an accepted value is stored, leaves every other setting, and is given
its effect and no other. An accepted value of Pmax clamps the stored preact; a changed enable mask restarts each channel that
it changes, and the loader stage follows; and a limit that a running timer has reached takes the timer's expiry at once.
The order of an owner's tests, and that a value equal to the stored one has its effect, is the model's choice (log entry 18). -/
def Obligations.WriteSettingStoresTheValue : Prop :=
  ∀ (s : State) (identifier : BitVec 16) (value : BitVec 32), s.phase = .running →
    let v := value.toNat
    let write := exec (.writeSetting identifier value) s
    let x := s.store.settings
    let accepted := answerOk (le 2 identifier.toNat ++ le 4 v)
    (keyOf identifier.toNat = none → write = .next (s.replied .office .badValue [])) ∧
    ∀ k, keyOf identifier.toNat = some k →
      let bad := settingBad s v k
      let busy := settingBusy s k
      let malformed := k = .zero ∨ k = .span ∨ k = .band ∨ k.inRange v = false
      -- BAD_VALUE is tested before BUSY, but for the pour margin (R67)
      (malformed → write = .next (s.replied .office .badValue [])) ∧
      (¬ malformed → bad → (k = .pourMargin → ¬ busy) → write = .next (s.replied .office .badValue [])) ∧
      (¬ malformed → busy → (k ≠ .pourMargin → ¬ bad) → write = .next (s.replied .office .busy [])) ∧
      (¬ malformed → ¬ bad → ¬ busy → ∃ t, write = .next t ∧ t.answer = some (.office, accepted) ∧
        -- the value, the other settings, the check word and DEFAULTED
        settingValue t.store.settings t.governor.preact k = v ∧
        (∀ k', k' ≠ k → k' ≠ .preact → settingValue t.store.settings 0 k' = settingValue x 0 k') ∧
        t.governor.preact = (if k = .preact then v * 1000
          else if k = .preactMax then min s.governor.preact (v * 100000) else s.governor.preact) ∧
        (k ≠ .preact → t.store.checkWord = checkWord t.store.settings) ∧
        (k = .preact → t.store = s.store) ∧
        t.store.defaulted = s.store.defaulted ∧ t.store.calibrationCount = s.store.calibrationCount ∧
        -- what no write changes
        t.ports = s.ports ∧ t.pins = s.pins ∧ t.plan.steps.length = s.plan.steps.length ∧
        t.accounts.lots = s.accounts.lots ∧ t.accounts.bills = s.accounts.bills ∧
        -- the weigher
        t.weigher = (if k = .lineLength then
          { s.weigher with line := List.replicate v { mass := 0, tag := none }, lineTotal := 0 } else s.weigher) ∧
        -- the monitor: a channel's settings and the enable mask
        (∀ c k', k = .channel c k' → t.dust = { s.dust with
          channels := s.dust.channels.set c
            { s.dust.channels.get c with
              warnRise := 0, highRise := 0, highFall := 0, warnFall := 0
              refillPending := (s.dust.channels.get c).refillPending || k' == .offset || k' == .gain } }) ∧
        (k = .mask → (∀ c, t.dust.channels.get c =
            if enabled x.mask c = enabled (BitVec.ofNat 8 v) c then s.dust.channels.get c
            else { s.dust.channels.get c with
              stage := .normal, warnRise := 0, highRise := 0, highFall := 0, warnFall := 0, faultCount := 0
              recoveryCount := 0, refillPending := true }) ∧
          (x.mask = BitVec.ofNat 8 v → t = { s with store := t.store, answer := t.answer }) ∧
          (x.mask ≠ BitVec.ofNat 8 v →
            t = { s with
              store := t.store, converter := t.converter, dust := t.dust, governor := t.governor, events := t.events
              answer := t.answer } ∧
            t.converter = (if s.converter.state = .running then { s.converter with position := .p1, slot := 0 }
              else s.converter) ∧
            t.dust.reference = s.dust.reference ∧ t.dust.referenceTimer = s.dust.referenceTimer ∧
            (DustLaw s → t.dust.tripLatch = s.dust.tripLatch) ∧ StageFollows s t)) ∧
        (k ≠ .mask → t.converter = s.converter) ∧
        (k = .highHoldTime → (∃ e, s.dust.highHold = some e ∧ v * 1000 ≤ e) → t.dust.stage = .trip) ∧
        -- the carriage and the governor
        (k = .pourMargin → t.travel = { s.travel with spoutOver := spoutOverNow s.travel v }) ∧
        (k = .travelTimeLimit → (∃ e, s.travel.travelTimer = some e ∧ v * 1000 ≤ e) →
          t.travel.state = .fault ∧ t.travel.faultCause = some .timeout ∧ t.travel.brakeRelease = false) ∧
        (k = .runOutLimit → (∃ e, s.travel.runOutTimer = some e ∧ v * 1000 ≤ e) →
          t.travel.state = s.travel.beforePending ∧ t.travel.request = none) ∧
        (k = .warnFeedLevel ∨ k = .dribbleLevel → t.governor.ceiling = ceilingNow t ∧
          t.governor.level = min s.governor.level t.governor.ceiling) ∧
        (k = .presenceWindow → (∃ e, s.governor.presenceTimer = some e ∧ v * 1000 ≤ e) →
          t.governor.presenceLive = false ∧ (s.governor.state.feeding = true →
            t.governor.state = .paused ∧ t.governor.feedPermit = false ∧ t.governor.level = 0)) ∧
        (k = .preact → t.governor.clean = false) ∧
        -- and nothing else: of the state, each setting leaves all but its own effect
        let stored := { s with store := t.store, answer := t.answer }
        let reached := fun (timer : Option Nat) => ∃ e, timer = some e ∧ v * 1000 ≤ e
        (k = .lineLength → t = { stored with weigher := t.weigher }) ∧
        (∀ c k', k = .channel c k' → t = { stored with dust := t.dust }) ∧
        (k = .pourMargin → t = { stored with travel := t.travel }) ∧
        (k = .warnFeedLevel ∨ k = .dribbleLevel →
          t = { stored with governor := s.governor.under (ceilingNow t) }) ∧
        (k = .preactMax → t = { stored with governor := { s.governor with preact := t.governor.preact } }) ∧
        (k = .preact → t = { stored with governor := { s.governor with preact := v * 1000, clean := false } }) ∧
        (k = .highHoldTime → reached s.dust.highHold →
          ∃ u, exec .highHoldExpiry { s with store := t.store } = .next u ∧ t = { u with answer := t.answer }) ∧
        (k = .travelTimeLimit → reached s.travel.travelTimer →
          ∃ u, exec .travelTimerExpiry { s with store := t.store } = .next u ∧ t = { u with answer := t.answer }) ∧
        (k = .runOutLimit → reached s.travel.runOutTimer →
          ∃ u, exec .runOutTimerExpiry { s with store := t.store } = .next u ∧ t = { u with answer := t.answer }) ∧
        (k = .presenceWindow → reached s.governor.presenceTimer →
          ∃ u, exec .presenceTimerExpiry { s with store := t.store } = .next u ∧ t = { u with answer := t.answer }) ∧
        ((match k with
          | .lineLength | .channel _ _ | .mask | .pourMargin | .warnFeedLevel | .dribbleLevel | .preactMax | .preact => False
          | .highHoldTime => ¬ reached s.dust.highHold
          | .travelTimeLimit => ¬ reached s.travel.travelTimer
          | .runOutLimit => ¬ reached s.travel.runOutTimer
          | .presenceWindow => ¬ reached s.governor.presenceTimer
          | _ => True) → t = stored)) ∧
    -- Accept Settings
    exec .acceptSettings s = .next { s with
      store := { s.store with defaulted := false }, answer := some (.office, answerOk []) }

/-- Write Calibration: BAD_VALUE for a value out of range, then BUSY while an OPEN lot has weighed mass, and otherwise the four
changes of an accepted calibration and no more. The key switch is read with the command (log entry 12), and without it the
request is LOCKED. -/
def Obligations.WriteCalibrationMakesFourChanges : Prop :=
  ∀ (s : State) (zero span : BitVec 16) (band : Byte), s.phase = .running →
    let s0 := { s with pins := { s.pins with calUnlock := true } }
    let good := zero.toNat ≤ 4095 ∧ 1 ≤ span.toNat ∧ span.toNat ≤ 9999
    let weighed := ∃ i, slotOpen s i ∧ 0 < (s.accounts.lots.get i).ledger.weighed
    let x := { s.store.settings with zero := zero.toNat, span := span.toNat, band := band.toNat }
    exec (.writeCalibration zero span band false) s = .next
      { s with pins := { s.pins with calUnlock := false }, answer := some (.office, answerOnly .locked) } ∧
    (¬ good → exec (.writeCalibration zero span band true) s = .next (s0.replied .office .badValue [])) ∧
    (good → weighed → exec (.writeCalibration zero span band true) s = .next (s0.replied .office .busy [])) ∧
    (good → ¬ weighed → exec (.writeCalibration zero span band true) s = .next { s0 with
      store := { s.store with
        settings := x, checkWord := checkWord x
        calibrationCount := if s.store.calibrationCount < 4294967295 then s.store.calibrationCount + 1 else 4294967295 }
      weigher := { s.weigher with segmentSum := 0, segmentCount := 0, lastMean := 0 }
      answer := some (.office, answerOk []) })

/-! ### The Dust Monitor -/

/-- The two timers of the monitor trip the loader: the latch takes the cause unless it is set already, the cause is raised,
every suppression output is on, and a feeding governor pauses. A stopped timer has no expiry (log entry 7). Acknowledge Trip
is refused for a reference fault and for an enabled channel in FAULT or HIGH, in that order, and otherwise clears the
latch. -/
def Obligations.TripsAndTheirAcknowledgement : Prop :=
  ∀ (s : State), s.phase = .running → DustLaw s →
    let mask := s.store.settings.mask
    (∀ c cause, (c = .highHoldExpiry ∧ cause = TripCause.holdTime ∧ s.dust.highHold.isSome = true) ∨
        (c = .referenceTimerExpiry ∧ cause = .reference ∧ s.dust.referenceTimer.isSome = true) →
      ∃ t, exec c s = .next t ∧
        t.dust = { s.dust with
          highHold := none
          referenceTimer := if c = .referenceTimerExpiry then none else s.dust.referenceTimer
          tripLatch := if s.dust.tripLatch.isSome then s.dust.tripLatch else some cause
          stage := .trip, suppress := { spout := true, boom := true, tower := true, gallery := true } } ∧
        t.governor.state = (if s.governor.state.feeding = true ∧ s.dust.stage ≠ .trip then .paused
          else s.governor.state) ∧
        (s.governor.state.feeding = true → s.dust.stage ≠ .trip →
          t.governor.feedPermit = false ∧ t.governor.level = 0 ∧ t.governor.dutyStaged = 0 ∧ t.governor.tail = 0 ∧
          t.governor.pauseSet = s.governor.pauseSet.add .dust) ∧
        t.governor.beltPermit = (if s.dust.stage = .trip then s.governor.beltPermit else false) ∧
        t.events = ([Event.dustTrip cause] ++
          (if s.dust.stage ≠ .trip ∧ (s.governor.state.feeding = true ∨
            (s.governor.state = .paused ∧ s.governor.pauseSet.dust = false)) then [Event.feedPaused .dust] else []) ++
          (if s.dust.stage ≠ .trip then [Event.dustStage .trip] else [])).foldl (fun x e => x.raise e) s.events ∧
        t = { s with dust := t.dust, governor := t.governor, events := t.events }) ∧
    (s.dust.highHold = none → exec .highHoldExpiry s = .next s) ∧
    (s.dust.referenceTimer = none → exec .referenceTimerExpiry s = .next s) ∧
    (s.dust.reference = .fault → exec .acknowledgeTrip s = .next (s.notReady .cab .referenceFault)) ∧
    (s.dust.reference = .good → s.dust.someIn mask .fault →
      exec .acknowledgeTrip s = .next (s.notReady .cab .channelFault)) ∧
    (s.dust.reference = .good → ¬ s.dust.someIn mask .fault → s.dust.someIn mask .high →
      exec .acknowledgeTrip s = .next (s.notReady .cab .channelHigh)) ∧
    (s.dust.reference = .good → ¬ s.dust.someIn mask .fault → ¬ s.dust.someIn mask .high → s.dust.tripLatch = none →
      exec .acknowledgeTrip s = .next (s.replied .cab .ok [])) ∧
    (s.dust.reference = .good → ¬ s.dust.someIn mask .fault → ¬ s.dust.someIn mask .high →
        s.dust.tripLatch.isSome = true →
      ∃ t, exec .acknowledgeTrip s = .next t ∧ t.answer = some (.cab, answerOk []) ∧ t.dust.tripLatch = none ∧
        t.dust.channels = s.dust.channels ∧ (t.dust.stage = .warn ↔ s.dust.someIn mask .warn) ∧
        (t.dust.stage = .clear ↔ ¬ s.dust.someIn mask .warn) ∧
        t.governor.beltPermit = !s.pins.estop ∧ t.governor.feedPermit = s.governor.feedPermit ∧
        (s.governor.state.feeding = false → t.governor.state = s.governor.state) ∧
        t.events = s.events.raise (.dustStage t.dust.stage) ∧
        t = { s with dust := t.dust, governor := t.governor, events := t.events, answer := t.answer })

/-- A D group at the monitor. Each of its channels takes its code as the last code. A disabled channel takes no more. Outside
FAULT, a code in range gives the value, the filtered value, the four level counts and a stage at most one step away, and a
code out of range counts toward FAULT; in FAULT, codes in range count toward NORMAL. The other half of the channels is left
alone. The latch records the first channel that entered FAULT, the loader stage is TRIP with the latch set and otherwise the
highest of the enabled channels' stages, the high-hold timer and the suppression outputs follow it, and a change is noticed by
the governor and raised. A D group that is not the oldest delivery is not taken (log entry 8); no code taken in FAULT gives a
value (log entry 28). -/
def Obligations.DustGroupSamplesItsChannels : Prop :=
  ∀ (s : State), s.phase = .running →
    ((∀ k q rest, s.converter.toMonitor ≠ .group k q :: rest) → exec .dGroupArrival s = .next s) ∧
    ∀ (k : GroupKind) (q : Quad) (rest : List Delivery), (k = .d1 ∨ k = .d2) →
      s.converter.toMonitor = .group k q :: rest →
      ∃ t, exec .dGroupArrival s = .next t ∧ t.converter = { s.converter with toMonitor := rest } ∧
        t = { s with converter := t.converter, dust := t.dust, governor := t.governor, events := t.events } ∧
        (∀ c : ChannelNo, (c.val < 4 ↔ k = .d2) → t.dust.channels.get c = s.dust.channels.get c) ∧
        (∀ c : ChannelNo, (c.val < 4 ↔ k = .d1) →
          let code := [q.c0, q.c1, q.c2, q.c3].getD (c.val % 4) 0
          let x := s.store.settings.channels.get c
          let n := s.store.settings.qualification
          let ch := { s.dust.channels.get c with lastCode := some code }
          let t' := t.dust.channels.get c
          let good := 17 ≤ code.toNat ∧ code.toNat ≤ 4078
          (enabled s.store.settings.mask c = false → t' = ch) ∧
          (enabled s.store.settings.mask c = true →
            (ch.stage = .fault → ¬ good → t' = { ch with recoveryCount := 0 }) ∧
            (ch.stage = .fault → good → min (ch.recoveryCount + 1) 15 < n →
              t' = { ch with recoveryCount := min (ch.recoveryCount + 1) 15 }) ∧
            (ch.stage = .fault → good → n ≤ min (ch.recoveryCount + 1) 15 →
              t' = { ch with
                stage := .normal, recoveryCount := 0, refillPending := true
                warnRise := 0, highRise := 0, highFall := 0, warnFall := 0 }) ∧
            (ch.stage ≠ .fault → ¬ good → min (ch.faultCount + 1) 15 < n →
              t' = { ch with faultCount := min (ch.faultCount + 1) 15 }) ∧
            (ch.stage ≠ .fault → ¬ good → n ≤ min (ch.faultCount + 1) 15 →
              t' = { ch with
                stage := .fault, faultCount := 0, recoveryCount := 0
                warnRise := 0, highRise := 0, highFall := 0, warnFall := 0 } ∧ t.dust.tripLatch.isSome = true) ∧
            (ch.stage ≠ .fault → good →
              let v := min (((code.toNat - x.offset) * x.gain + 128) / 256) 9999
              let value := if code.toNat ≤ x.offset then 0 else v
              let ring : Ring := if ch.refillPending then ⟨value, value, value, value⟩
                else ⟨ch.ring.v1, ch.ring.v2, ch.ring.v3, value⟩
              let mean := (ring.v0 + ring.v1 + ring.v2 + ring.v3 + 2) / 4
              let count := fun (holds : Bool) (was : Nat) => if holds then min (was + 1) 15 else 0
              let warnRise := count (decide (x.warnLevel ≤ mean)) ch.warnRise
              let highRise := count (decide (x.highLevel ≤ mean)) ch.highRise
              let highFall := count (decide (mean < x.highLevel - x.hysteresis)) ch.highFall
              let warnFall := count (decide (mean < x.warnLevel - x.hysteresis)) ch.warnFall
              t' = { ch with
                value := value, ring := ring, refillPending := false, filtered := mean, faultCount := 0
                warnRise := warnRise, highRise := highRise, highFall := highFall, warnFall := warnFall
                stage := t'.stage } ∧
              t'.stage = (if ch.stage = .high then (if n ≤ highFall then .warn else .high)
                else if n ≤ highRise then .high
                else if ch.stage = .normal then (if n ≤ warnRise then .warn else .normal)
                else if n ≤ warnFall then .normal else .warn)))) ∧
        let mask := s.store.settings.mask
        let changed := t.dust.stage ≠ s.dust.stage
        let stops := t.dust.stage = .high ∨ t.dust.stage = .trip
        -- the latch
        (s.dust.tripLatch.isSome = true → t.dust.tripLatch = s.dust.tripLatch) ∧
        (s.dust.tripLatch = none → DustLaw s →
          (¬ t.dust.someIn mask .fault → t.dust.tripLatch = none) ∧
          ∀ c : ChannelNo, enabled mask c = true → (t.dust.channels.get c).stage = .fault →
            (∀ k : ChannelNo, k < c → enabled mask k = true → (t.dust.channels.get k).stage ≠ .fault) →
            t.dust.tripLatch = some (.channel c)) ∧
        -- the loader stage, the high-hold timer and the suppression outputs
        (t.dust.tripLatch.isSome = true → t.dust.stage = .trip) ∧
        (t.dust.tripLatch = none →
          t.dust.stage = if t.dust.someIn mask .high then .high else if t.dust.someIn mask .warn then .warn else .clear) ∧
        t.dust.highHold = (if t.dust.stage = .high ∧ (s.dust.stage = .clear ∨ s.dust.stage = .warn) then some 0
          else if s.dust.stage = .high ∧ t.dust.stage ≠ .high then none else s.dust.highHold) ∧
        t.dust.reference = s.dust.reference ∧ t.dust.referenceTimer = s.dust.referenceTimer ∧
        (t.dust.suppress.spout = true ↔ t.dust.tripLatch.isSome = true ∨ t.dust.raised mask [0, 1, 2, 3]) ∧
        (t.dust.suppress.boom = true ↔ t.dust.tripLatch.isSome = true ∨ t.dust.raised mask [4]) ∧
        (t.dust.suppress.tower = true ↔ t.dust.tripLatch.isSome = true ∨ t.dust.raised mask [5, 6]) ∧
        (t.dust.suppress.gallery = true ↔ t.dust.tripLatch.isSome = true ∨ t.dust.raised mask [7]) ∧
        -- the governor
        (¬ changed → t.governor = s.governor) ∧
        (changed → stops → s.governor.state.feeding = true →
          t.governor = { s.governor.pausedFor .dust (feedCeiling t (activeMaximum s)) with
            beltPermit := t.dust.stage != .trip && !s.pins.estop }) ∧
        (changed → ¬ (stops ∧ s.governor.state.feeding = true) →
          let g : Governor := { s.governor with
            pauseSet := if stops ∧ s.governor.state = .paused then s.governor.pauseSet.add .dust
              else s.governor.pauseSet
            clean := if stops ∧ s.governor.state = .cutoff then false else s.governor.clean }
          t.governor = { g.under (if s.governor.state = .dribble then
              min (feedCeiling t (activeMaximum s)) s.store.settings.dribbleLevel
            else feedCeiling t (activeMaximum s)) with
            beltPermit := t.dust.stage != .trip && !s.pins.estop }) ∧
        -- the events: each channel that entered FAULT, the pause, and the stage
        t.events = (((allChannels.filter (fun c => enabled mask c && (s.dust.channels.get c).stage != .fault &&
            (t.dust.channels.get c).stage == .fault)).map (fun c => Event.dustTrip (.channel c))) ++
          (if changed ∧ stops ∧ (s.governor.state.feeding = true ∨
            (s.governor.state = .paused ∧ s.governor.pauseSet.dust = false)) then [Event.feedPaused .dust] else []) ++
          (if changed then [Event.dustStage t.dust.stage] else [])).foldl (fun x e => x.raise e) s.events

/-! ### The Measurement Converter and its consumers -/

/-- A conversion in a RUNNING converter fills the next slot; slot 3 completes the group, which is latched, counted and delivered to
the consumer of its kind, and the cycle passes to the next position whose group has an enabled channel. A fall of REF_OK
halts a RUNNING converter and a rise starts a HALTED one, at position 1, slot 0, with a notice to each consumer. The slots
are undefined after a fall (log entry 4). Each consumer takes its notice when it is the oldest delivery made to it (log entry
8). -/
def Obligations.ConverterCycleAndReference : Prop :=
  (∀ (s : State) (code : Code), s.phase = .running →
    let c := s.converter
    let m := s.store.settings.mask
    let filled : Quad := match c.slot with
      | 0 => { c.slots with c0 := code }
      | 1 => { c.slots with c1 := code }
      | 2 => { c.slots with c2 := code }
      | 3 => { c.slots with c3 := code }
    (c.state = .halted → exec (.conversionComplete code) s = .next s) ∧
    (c.state = .running → c.slot ≠ 3 →
      exec (.conversionComplete code) s = .next { s with
        converter := { c with slots := filled, slot := c.slot + 1 } }) ∧
    (c.state = .running → c.slot = 3 → c.position = .p1 ∨ c.position = .p3 →
      exec (.conversionComplete code) s = .next { s with
        converter := { c with
          slots := filled, slot := 0, latchW := some filled, countW := (c.countW + 1) % 65536
          toWeigher := c.toWeigher ++ [.group .w filled]
          position := if c.position = .p1 then (if m &&& 0x0F#8 = 0#8 then .p3 else .p2)
            else if m &&& 0xF0#8 = 0#8 then .p1 else .p4 } }) ∧
    (c.state = .running → c.slot = 3 → c.position = .p2 →
      exec (.conversionComplete code) s = .next { s with
        converter := { c with
          slots := filled, slot := 0, latchD1 := some filled, countD1 := (c.countD1 + 1) % 65536
          toMonitor := c.toMonitor ++ [.group .d1 filled], position := .p3 } }) ∧
    (c.state = .running → c.slot = 3 → c.position = .p4 →
      exec (.conversionComplete code) s = .next { s with
        converter := { c with
          slots := filled, slot := 0, latchD2 := some filled, countD2 := (c.countD2 + 1) % 65536
          toMonitor := c.toMonitor ++ [.group .d2 filled], position := .p1 } })) ∧
  ∀ (s : State), s.phase = .running →
    let c := s.converter
    let low := { s.pins with refOk := false }
    let high := { s.pins with refOk := true }
    (c.state = .running → ∃ q n, exec .refOkFall s = .next { s with
      pins := low
      converter := { c with
        state := .halted, position := .p1, slot := 0, slots := q, freeCount := n
        toWeigher := c.toWeigher ++ [.referenceFault], toMonitor := c.toMonitor ++ [.referenceFault] } }) ∧
    (c.state = .halted → exec .refOkFall s = .next { s with pins := low }) ∧
    (c.state = .halted → exec .refOkRise s = .next { s with
      pins := high
      converter := { c with
        state := .running, position := .p1, slot := 0
        toWeigher := c.toWeigher ++ [.referenceGood], toMonitor := c.toMonitor ++ [.referenceGood] } }) ∧
    (c.state = .running → exec .refOkRise s = .next { s with pins := high }) ∧
    (∀ rest, c.toWeigher = .referenceFault :: rest →
      exec (.referenceFaultNotice .weigher) s = .next { s with
        converter := { c with toWeigher := rest }, weigher := { s.weigher with input := .noReference } }) ∧
    (∀ rest, c.toWeigher = .referenceGood :: rest →
      exec (.referenceGoodNotice .weigher) s = .next { s with converter := { c with toWeigher := rest } }) ∧
    (∀ rest, c.toMonitor = .referenceFault :: rest →
      exec (.referenceFaultNotice .monitor) s = .next { s with
        converter := { c with toMonitor := rest }
        dust := { s.dust with reference := .fault, referenceTimer := some 0 } }) ∧
    (∀ rest, c.toMonitor = .referenceGood :: rest →
      exec (.referenceGoodNotice .monitor) s = .next { s with
        converter := { c with toMonitor := rest }
        dust := { s.dust with reference := .good, referenceTimer := none } }) ∧
    ((∀ rest, c.toWeigher ≠ .referenceFault :: rest) → exec (.referenceFaultNotice .weigher) s = .next s) ∧
    ((∀ rest, c.toMonitor ≠ .referenceFault :: rest) → exec (.referenceFaultNotice .monitor) s = .next s) ∧
    ((∀ rest, c.toWeigher ≠ .referenceGood :: rest) → exec (.referenceGoodNotice .weigher) s = .next s) ∧
    ((∀ rest, c.toMonitor ≠ .referenceGood :: rest) → exec (.referenceGoodNotice .monitor) s = .next s)

/-! ### The Belt Weigher -/

/-- A W group at the weigher: a stuck group shows in the scale input alone; any other gives a load, blanked up to 4 B above
4 Z and saturated at 999,999 g/m with the over-range flag, which enters the segment unless its count is at its greatest. A
group that is not the oldest delivery is not taken (log entry 8). That a saturated group sets the flag although its load is
dropped at the greatest count is the model's choice (log entry 27). -/
def Obligations.LoadGroupsEnterTheSegment : Prop :=
  ∀ (s : State), s.phase = .running →
    ((∀ q rest, s.converter.toWeigher ≠ .group .w q :: rest) → exec .wGroupArrival s = .next s) ∧
    ∀ q rest, s.converter.toWeigher = .group .w q :: rest →
      let taken := { s.converter with toWeigher := rest }
      let sum := q.c0.toNat + q.c1.toNat + q.c2.toNat + q.c3.toNat
      let stuck := (q.c0 = 0 ∧ q.c1 = 0 ∧ q.c2 = 0 ∧ q.c3 = 0) ∨
        (q.c0 = 4095 ∧ q.c1 = 4095 ∧ q.c2 = 4095 ∧ q.c3 = 4095)
      let net : Int := (sum : Int) - 4 * s.store.settings.zero
      (stuck → exec .wGroupArrival s = .next { s with
        converter := taken, weigher := { s.weigher with input := .stuck } }) ∧
      (¬ stuck → ∀ load : Nat,
        (if net ≤ 4 * s.store.settings.band then load = 0
          else (load : Int) = (net * s.store.settings.span + 2) / 4) →
        let w := { s.weigher with
          input := .live
          segmentSum := if s.weigher.segmentCount < 4294967295 then s.weigher.segmentSum + min load 999999
            else s.weigher.segmentSum
          segmentCount := if s.weigher.segmentCount < 4294967295 then s.weigher.segmentCount + 1
            else s.weigher.segmentCount }
        (load ≤ 999999 → exec .wGroupArrival s = .next { s with converter := taken, weigher := w }) ∧
        (999999 < load → ∃ t, exec .wGroupArrival s = .next t ∧
          t = { s with converter := taken, weigher := w, accounts := t.accounts } ∧
          t.accounts = { s.accounts with lots := t.accounts.lots, unassigned := t.accounts.unassigned } ∧
          (∀ acc, t.accounts.ledger acc = { s.accounts.ledger acc with
            overRange := decide (acc = weighingAccount s) || (s.accounts.ledger acc).overRange }) ∧
          ∀ i, t.accounts.lots.get i = { s.accounts.lots.get i with ledger := t.accounts.ledger (.lot i) }))

/-- A tachometer pulse below K is counted. At K the segment closes: its mass is billed to the weighing lot's account, it
enters the line, and the leaving entry is credited by the diverter and the spout-over hold. With the governor IDLE, a close
that empties the line first takes a pending swap and then starts a motion waiting in PENDING, under the page now active. The
free value of a sum beyond 64 bits stands behind `massAdd` and `momentOf` (log entry 3). The order of the blocks at a close
is the model's choice (log entry 22). -/
def Obligations.SegmentCloseMovesTheLine : Prop :=
  ∀ (s : State), s.phase = .running → WeigherLaw s →
    let w := s.weigher
    let live := 0 < w.segmentCount
    let bridged := w.segmentCount = 0 ∧ w.scale = .normal ∧ w.holdLast < 4
    let mean := (w.segmentSum + w.segmentCount / 2) / w.segmentCount
    let load := if live then mean else if bridged then w.lastMean else 0
    let mass := (load * s.store.settings.segmentLength + 500) / 1000
    let acc : Account := match w.weighingLot with
      | some i => .lot i
      | none => .unassigned
    let leaving := w.line.headD { mass := 0, tag := none }
    let goes := fun (b : Account) (d : Destination) =>
      leaving.mass ≠ 0 ∧ leaving.tag = some b ∧ destination s = d
    let moved := match destination s with
      | .hold h => if leaving.mass = 0 then s.accounts.moment
          else momentOf (s.accounts.moment + (leaving.mass : Int) * leverOn s.travel.activeMap h)
      | _ => s.accounts.moment
    (w.pulseCount + 1 < s.store.settings.pulsesPerSegment →
      exec .tachPulse s = .next { s with weigher := { w with pulseCount := w.pulseCount + 1 } }) ∧
    (s.store.settings.pulsesPerSegment ≤ w.pulseCount + 1 → ∃ t, exec .tachPulse s = .next t ∧
      -- the weigher
      t.weigher = { w with
        pulseCount := 0, segmentSum := 0, segmentCount := 0
        lastMean := if live then mean else w.lastMean
        holdLast := if live then 0 else if bridged then w.holdLast + 1 else w.holdLast
        scale := if live then .normal else if bridged then w.scale else .scaleFault
        line := w.line.tail ++ [{ mass := mass, tag := if mass = 0 then none else some acc }]
        lineTotal := w.lineTotal + mass - leaving.mass
        spillRun := if leaving.mass = 0 then w.spillRun else decide (destination s = .spill) } ∧
      -- every account
      (∀ b, t.accounts.ledger b = { s.accounts.ledger b with
        weighed := if b = acc ∧ mass ≠ 0 then massAdd (s.accounts.ledger b).weighed mass
          else (s.accounts.ledger b).weighed
        estimated := if b = acc ∧ mass ≠ 0 ∧ bridged then massAdd (s.accounts.ledger b).estimated mass
          else (s.accounts.ledger b).estimated
        unweighed := if b = acc ∧ ¬ live ∧ ¬ bridged then min ((s.accounts.ledger b).unweighed + 1) 65535
          else (s.accounts.ledger b).unweighed
        rejected := if goes b .reject then massAdd (s.accounts.ledger b).rejected leaving.mass
          else (s.accounts.ledger b).rejected
        spilled := if goes b .spill then massAdd (s.accounts.ledger b).spilled leaving.mass
          else (s.accounts.ledger b).spilled
        splits := match destination s with
          | .hold h => if leaving.mass ≠ 0 ∧ leaving.tag = some b then
              addSplit h leaving.mass (s.accounts.ledger b).splits else (s.accounts.ledger b).splits
          | _ => (s.accounts.ledger b).splits }) ∧
      -- the holds
      (∀ h, t.accounts.credited.get h = if leaving.mass ≠ 0 ∧ destination s = .hold h then
        massAdd (s.accounts.credited.get h) leaving.mass else s.accounts.credited.get h) ∧
      (s.travel.swapPending = false → t.accounts.moment = moved) ∧
      t.accounts.bills = s.accounts.bills ∧ t.store = s.store ∧ t.dust = s.dust ∧ t.converter = s.converter ∧
      t.ports = s.ports ∧ t.pins = s.pins ∧ t.answer = s.answer ∧
      -- a carriage in motion: grain entering its line turns the diverter to REJECT (R83)
      (s.travel.state.inMotion = true →
        t.travel = if t.weigher.lineTotal = 0 then s.travel else { s.travel with diverter := .reject }) ∧
      -- with the governor IDLE: a pending swap, then a waiting motion, and the events
      (s.governor.state = .idle →
        let total := w.lineTotal + mass - leaving.mass
        let swaps := s.travel.swapPending = true ∧ s.travel.state.inMotion = false ∧ stepActive s = false ∧ total = 0
        let other := otherPage s.travel.activePage
        let swapped := { s.travel with swapPending := false, activePage := other }
        let u := { s with
          travel := if swaps then { swapped with spoutOver := spoutOverNow swapped s.store.settings.pourMargin }
            else s.travel
          events := ((if w.scale = .normal ∧ ¬ live ∧ ¬ bridged then [Event.scaleFault] else []) ++
            (if leaving.mass ≠ 0 ∧ destination s = .spill ∧ w.spillRun = false then
              [Event.spill (spillDetail s)] else []) ++
            (if swaps then [Event.pageSwapped other] else [])).foldl (fun x e => x.raise e) s.events }
        t.plan = s.plan ∧ t.governor = s.governor ∧
        (swaps → t.accounts.moment = momentOf (momentOn (s.travel.pages.get other) t.accounts.credited)) ∧
        (¬ swaps → t.accounts.moment = moved) ∧
        (s.travel.state ≠ .pending ∨ total ≠ 0 → s.travel.state.inMotion = false →
          t.travel = u.travel ∧ t.events = u.events) ∧
        (s.travel.state.inMotion = true → t.events = u.events) ∧
        (s.travel.state = .pending → total = 0 →
          t.travel = (startMotion u).travel ∧ t.events = (startMotion u).events)))

/-- A segment close while a step is ACTIVE, of a live, a bridged or an unweighed segment: the placed mass, the tail count and clean
are booked; in a feeding state the committed mass less the preact decides between cutoff on target, dribble and neither; in
CUTOFF the run-out test completes the step by its cutoff reason, and a clean finish on target adapts the preact. The fifth
missing-scale close in a row enters SCALE FAULT first: the effective target is computed anew, the step is cut off for SCALE
or, in CUTOFF, loses clean, and the close then counts as one of mass 0. A completed step lets a pending swap be taken.
The order of the blocks at a close is the model's choice (log entry 22). -/
def Obligations.SegmentCloseDrivesTheGovernor : Prop :=
  ∀ (s : State) (st : Step), s.phase = .running → WeigherLaw s → PlanLaw s →
    s.store.settings.pulsesPerSegment ≤ s.weigher.pulseCount + 1 → activeStep s.plan = some st →
    let w := s.weigher
    let live := 0 < w.segmentCount
    let bridged := w.segmentCount = 0 ∧ w.scale = .normal ∧ w.holdLast < 4
    let faults := w.scale = .normal ∧ ¬ live ∧ ¬ bridged
    let load := if live then (w.segmentSum + w.segmentCount / 2) / w.segmentCount else if bridged then w.lastMean else 0
    let mass := (load * s.store.settings.segmentLength + 500) / 1000
    let leaving := (w.line.headD { mass := 0, tag := none }).mass
    let total := w.lineTotal + mass - leaving
    let atHold := destination s = .hold st.hold
    let placed := if atHold then massAdd st.placed leaving else st.placed
    let tail := if mass = 0 then min (s.governor.tail + 1) 255 else 0
    let clean := s.governor.clean && (leaving == 0 || decide atHold) && (mass == 0 || !decide bridged)
    let sum := placed + total + s.governor.preact
    let target := s.governor.effective.getD 0
    let band := s.store.settings.dribbleBand * 100000
    let runsOut := fun (tail : Nat) => total = 0 ∧ s.store.settings.tailSegments ≤ tail
    let ended := fun (reason : Option CutoffReason) (eff : Option Nat) => s.plan.steps.map (fun x =>
      if x.state = .active then
        { x with
          placed := placed, cutoffReason := none
          state := match reason with
            | some .target => .done
            | some .deck => .cancelled
            | _ => .held
          holdReason := match reason with
            | some .operator => some .operator
            | some .position => some .position
            | some .trim => some .trim
            | some .scale => some .scale
            | _ => none
          effective := if reason = some .target ∨ reason = some .deck then none else eff }
      else x)
    let other := otherPage s.travel.activePage
    let swapped := { s.travel with swapPending := false, activePage := other }
    -- a completed step lets a pending swap be taken, with the carriage at rest
    let swaps := fun (t : State) => s.travel.state = .parked ∨ s.travel.state = .stopped →
      if s.travel.swapPending = true then
        t.travel = { swapped with spoutOver := spoutOverNow swapped s.store.settings.pourMargin } ∧
        t.accounts.moment = momentOf (momentOn (s.travel.pages.get other) t.accounts.credited)
      else t.travel = s.travel
    ∃ t, exec .tachPulse s = .next t ∧
     (¬ faults →
      (s.governor.state.feeding = true → target ≤ sum →
        t.governor = { s.governor with
          state := .cutoff, feedPermit := false, level := 0, dutyStaged := 0, tail := 0, clean := clean
          pauseSet := { dust := false, cabSilent := false, deckHold := false, beltStopped := false, estop := false }
          ceiling := ceilingLeft s } ∧
        t.plan = { s.plan with
          revision := (s.plan.revision + 1) % 65536
          steps := s.plan.steps.map (fun x => if x.state = .active then
            { x with placed := placed, cutoffReason := some .target } else x) }) ∧
      (s.governor.state = .ramping ∨ s.governor.state = .running → sum < target → target ≤ sum + band →
        t.governor.state = .dribble ∧ t.governor.feedPermit = s.governor.feedPermit ∧
        t.governor.ceiling = min (feedCeiling s st.maxLevel) s.store.settings.dribbleLevel ∧
        t.governor.level = min s.governor.level t.governor.ceiling ∧ t.governor.tail = tail ∧
        t.governor.clean = clean ∧ t.plan.revision = s.plan.revision) ∧
      (s.governor.state.feeding = true → sum < target → s.governor.state = .dribble ∨ sum + band < target →
        t.governor = { s.governor with tail := tail, clean := clean }) ∧
      (s.governor.state = .paused → t.governor = { s.governor with tail := tail, clean := clean }) ∧
      (s.governor.state = .cutoff → ¬ runsOut tail →
        t.governor = { s.governor with tail := tail, clean := clean }) ∧
      ((s.governor.state.feeding = true ∧ sum < target) ∨ s.governor.state = .paused ∨
          (s.governor.state = .cutoff ∧ ¬ runsOut tail) →
        t.plan = { s.plan with
          steps := s.plan.steps.map (fun x => if x.state = .active then { x with placed := placed } else x) }) ∧
      (s.governor.state = .cutoff → runsOut tail →
        t.governor = { s.governor with
          state := .idle, effective := none, tail := tail, clean := clean
          preact := if st.cutoffReason = some .target ∧ clean = true then
              (min (max 0 ((s.governor.preact : Int) + ((placed : Int) - target).tdiv 4))
                (s.store.settings.preactMax * 100000 : Nat)).toNat
            else s.governor.preact } ∧
        t.plan = { s.plan with
          revision := (s.plan.revision + 1) % 65536, steps := ended st.cutoffReason st.effective } ∧ swaps t)) ∧
     -- the entry into SCALE FAULT
     (faults →
      let eff := effectiveTarget s st
      let g := { s.governor with
        feedPermit := false, level := 0, dutyStaged := 0, ceiling := ceilingLeft s
        pauseSet := { dust := false, cabSilent := false, deckHold := false, beltStopped := false, estop := false } }
      let done := s.governor.state = .paused ∧ s.weigher.lineTotal = 0 ∧
        s.store.settings.tailSegments ≤ s.governor.tail
      let tail := min ((if s.governor.state.feeding = true then 0 else s.governor.tail) + 1) 255
      let revision := (s.plan.revision + 1) % 65536
      (s.governor.state.feeding = true ∨ s.governor.state = .paused → ¬ done → ¬ runsOut tail →
        t.governor = { g with state := .cutoff, effective := some eff, tail := tail, clean := clean } ∧
        t.plan = { s.plan with
          revision := revision
          steps := s.plan.steps.map (fun x => if x.state = .active then
            { x with placed := placed, effective := some eff, cutoffReason := some .scale } else x) }) ∧
      (s.governor.state.feeding = true ∨ s.governor.state = .paused → ¬ done → runsOut tail →
        t.governor = { g with state := .idle, effective := none, tail := tail, clean := clean } ∧
        t.plan = { s.plan with
          revision := (revision + 1) % 65536, steps := ended (some .scale) (some eff) } ∧ swaps t) ∧
      -- from PAUSED with the run-out test already holding, the step completes at the notice
      (done →
        t.governor = { g with state := .idle, effective := none } ∧
        t.plan = { s.plan with
          revision := (revision + 1) % 65536
          steps := s.plan.steps.map (fun x => if x.state = .active then
            { x with
              state := .held, holdReason := some .scale, cutoffReason := none, effective := some eff } else x) }) ∧
      (s.governor.state = .cutoff → ¬ runsOut tail →
        t.governor = { s.governor with effective := some eff, tail := tail, clean := false } ∧
        t.plan = { s.plan with
          steps := s.plan.steps.map (fun x => if x.state = .active then
            { x with placed := placed, effective := some eff } else x) }) ∧
      (s.governor.state = .cutoff → runsOut tail →
        t.governor = { s.governor with state := .idle, effective := none, tail := tail, clean := false } ∧
        t.plan = { s.plan with
          revision := revision, steps := ended st.cutoffReason (some eff) } ∧ swaps t))

/-! ### The station ports -/

/-- A frame with any code, tag and body of at most 512 bytes, its header check right, is received whole by a framer in READY:
one queue entry with that code, tag and body, marked with whether the footer was the body's CRC, and the framer waits for a
gap. A full queue discards it. On the CAB port a well-formed frame, queued or discarded, makes presence live. A frame is its
characters taken one after another (log entry 13). -/
def Obligations.FramesAreReceivedWhole : Prop :=
  (∀ (s : State) (st : Station) (code tag : Byte) (body footer : List Byte), s.phase = .running → body.length ≤ 512 →
    (s.ports.get st).framer = .ready → footer.length = (if body = [] then 0 else 2) →
    let header := [code, tag] ++ le 2 body.length
    let good := decide (body = [] ∨ footer = le 2 (crc16 body).toNat)
    let port := { s.ports.get st with framer := FramerState.waitGap, frame := ([] : List Byte) }
    let presence := if st = .cab ∧ good = true then { s.governor with presenceTimer := some 0, presenceLive := true }
      else s.governor
    ((s.ports.get st).queue.length < 4 →
      exec (.frameComplete st (header ++ [headerCheck header] ++ body ++ footer)) s = .next { s with
        governor := presence
        ports := s.ports.set { port with
          queue := (s.ports.get st).queue ++ [{ code := code, tag := tag, body := body, footerGood := good }]
          holdoff := decide ((s.ports.get st).queue.length = 3) } st }) ∧
    (4 ≤ (s.ports.get st).queue.length →
      exec (.frameComplete st (header ++ [headerCheck header] ++ body ++ footer)) s = .next { s with
        governor := presence, ports := s.ports.set { port with discarded := true } st })) ∧
  ∀ (s : State) (st : Station), exec (.frameComplete st []) s = .next s ∧
    ∀ chars b t, exec (.frameComplete st chars) s = .next t →
      exec (.frameComplete st (chars ++ [b])) s = exec (.characterReceived st b) t

/-- The framer ignores a character in WAIT_GAP and drops a frame for a wrong header check, a wrong length or a missing stop bit; an idle
gap makes it READY; a line break resets the port and nothing else. A port takes the head of its queue when the transmitter is
IDLE, and the first case of R161 that applies gives the result; the reply names the request's code plus 80h and its tag, and
carries the result, the port status and the data; its last byte removes the entry.
That a take or a reply's end with nothing to take or send changes nothing is the model's choice (log entry 14). -/
def Obligations.PortsJudgeAndAnswer : Prop :=
  (∀ (s : State) (st : Station), s.phase = .running →
    let port := s.ports.get st
    let dropped := { port with framer := FramerState.waitGap, frame := ([] : List Byte) }
    (∀ b, port.framer = .waitGap → exec (.characterReceived st b) s = .next s) ∧
    (∀ b, port.framer = .ready → exec (.characterReceived st b) s = .next { s with
      ports := s.ports.set { port with framer := .header, frame := [b] } st }) ∧
    (∀ b, port.framer = .header → port.frame.length < 4 → exec (.characterReceived st b) s = .next { s with
      ports := s.ports.set { port with frame := port.frame ++ [b] } st }) ∧
    (∀ b0 b1 b2 b3 b4, port.framer = .header → port.frame = [b0, b1, b2, b3] →
      let check := (255 - (b0.toNat + b1.toNat + b2.toNat + b3.toNat) % 256) % 256
      let length := b2.toNat + 256 * b3.toNat
      (b4.toNat ≠ check ∨ 512 < length → exec (.characterReceived st b4) s = .next { s with
        ports := s.ports.set dropped st }) ∧
      (b4.toNat = check → 1 ≤ length → length ≤ 512 → exec (.characterReceived st b4) s = .next { s with
        ports := s.ports.set { port with framer := .body, frame := [b0, b1, b2, b3, b4] } st })) ∧
    exec (.stopBitMissing st) s = .next { s with ports := s.ports.set dropped st } ∧
    exec (.idleGap st) s = .next { s with
      ports := s.ports.set { port with
        framer := .ready, frame := if port.framer = .ready then port.frame else [] } st } ∧
    exec (.lineBreak st) s = .next { s with
      ports := s.ports.set { framer := .waitGap, frame := [], queue := [], discarded := false, sending := false
                             reply := [], holdoff := false } st }) ∧
  ∀ (s : State) (st : Station) (unlock : Bool), s.phase = .running →
    let port := s.ports.get st
    let s0 := { s with pins := { s.pins with calUnlock := unlock } }
    (port.sending = true ∨ port.queue = [] → exec (.takeRequest st unlock) s = .next s) ∧
    (port.sending = false → exec (.replySent st) s = .next s) ∧
    (∀ e rest, port.sending = true → port.queue = e :: rest →
      exec (.replySent st) s = .next { s with
        ports := s.ports.set { port with
          queue := rest, sending := false, reply := [], holdoff := decide (4 ≤ rest.length) } st }) ∧
    ∀ e rest, port.sending = false → port.queue = e :: rest →
      ∃ t a, exec (.takeRequest st unlock) s = .next t ∧
        t.ports = s.ports.set { port with
          discarded := false, sending := true
          reply := frameBytes (e.code + 0x80#8) e.tag
            ([a.result.code, BitVec.ofNat 8 (bitSet [port.discarded, !(t.events.get st).entries.isEmpty,
              t.governor.presenceLive, t.store.defaulted])] ++ a.data) } st ∧
        (e.footerGood = false → a = answerOnly .frameError ∧ t = { s0 with ports := t.ports }) ∧
        (e.footerGood = true → requestOf e.code.toNat = none →
          a = answerOnly .unknownRequest ∧ t = { s0 with ports := t.ports }) ∧
        ∀ r, e.footerGood = true → requestOf e.code.toNat = some r →
          (r.cls.allowed st = false → a = answerOnly .notPermitted ∧
            t = { s0 with ports := t.ports, events := s.events.raise (.rights st e.code) }) ∧
          (r.cls.allowed st = true → r = .writeCalibration → unlock = false →
            a = answerOnly .locked ∧ t = { s0 with ports := t.ports }) ∧
          (r.cls.allowed st = true → (r = .writeCalibration → unlock = true) → r.lengthOk e.body.length = false →
            a = answerOnly .badLength ∧ t = { s0 with ports := t.ports }) ∧
          (r.cls.allowed st = true → (r = .writeCalibration → unlock = true) → r.lengthOk e.body.length = true →
            t = { (handOver r st e.body s0).1 with ports := t.ports } ∧ a = (handOver r st e.body s0).2)

/-- A request put on its station's line as section 8.8 lays it out, queued and taken, has the effect and the answer of the
request command itself, for every operand of every request. Presence is left out: its frame has given its notice already
(log entry 1). -/
def Obligations.TakenRequestsDoWhatTheirCommandsDo : Prop :=
  ∀ (c : Instr) (st : Station) (code tag : Byte) (body : List Byte) (rest : List QueueEntry) (s : State) (unlock : Bool),
    s.phase = .running → c.wellFormed = true → requestSender c = some st → lineBytes c = some (code, body) →
    (∀ x, c ≠ .presence x) → (∀ z sp b k, c = .writeCalibration z sp b k → k = unlock) → s.pins.calUnlock = unlock →
    (s.ports.get st).sending = false →
    (s.ports.get st).queue = { code := code, tag := tag, body := body, footerGood := true } :: rest →
    ∃ t u a, exec (.takeRequest st unlock) s = .next t ∧ exec c s = .next u ∧ u.answer = some (st, a) ∧
      t = { u with answer := s.answer, ports := t.ports } ∧
      (t.ports.get st).sending = true ∧ (t.ports.get st).queue = (s.ports.get st).queue ∧
      (t.ports.get st).reply = frameBytes (code + 0x80#8) tag
        ([a.result.code, BitVec.ofNat 8 (bitSet [(s.ports.get st).discarded, !(u.events.get st).entries.isEmpty,
          u.governor.presenceLive, u.store.defaulted])] ++ a.data)

/-! ### The laws of the device, kept by every step -/

/-- Attention: whatever command is taken, ATTN is asserted at a station exactly while its pending set is not empty, and each set
holds at most one entry of a kind, in order of priority, with a count of 1 to 255. -/
def Obligations.AttentionLawIsKept : Prop :=
  Keeps AttentionLaw

/-- A port's queue never passes four entries, HOLDOFF is asserted exactly while it holds four, a reply is on the line only for
the entry at the head of the queue, and the frame in progress fits the framer. -/
def Obligations.PortLawIsKept : Prop :=
  Keeps PortLaw

/-- Every setting stays in its range, each channel keeps hysteresis below warn level below high level, and HOME stays on the
rail. While the check word matches the record, it goes on matching, the stored preact stays within 0..Pmax, and the entries of
both pages keep their ranges, their place on the rail, and pour windows that share no position under the stored margin. Where
it does not match, which no run reaches (log entry 5), the check of R175 defaults Pmax before the preact is clamped, and the
defaulted margin may leave windows that share a position (log entry 29). -/
def Obligations.SettingsAndPreactLawsAreKept : Prop :=
  Keeps SettingsLaw ∧
  (Keeps fun s => s.store.checkWord = checkWord s.store.settings ∧ PreactLaw s) ∧
  Keeps fun s => s.store.checkWord = checkWord s.store.settings ∧ HatchLaw s

/-- The line keeps N entries as N stands, its total is the sum of its masses, an entry is tagged exactly when its mass is not 0,
and the weigher's counts stay in their ranges. -/
def Obligations.WeigherLawIsKept : Prop :=
  Keeps fun s => SettingsLaw s ∧ WeigherLaw s

/-- The loader stage is TRIP exactly while the latch is set, and otherwise the highest of the enabled channels' stages; an enabled
channel in FAULT holds the latch; the high-hold timer runs exactly in HIGH; and each suppression output follows the latch
and its zone. -/
def Obligations.DustLawIsKept : Prop :=
  Keeps DustLaw

/-- Feed and travel are kept apart, feed is permitted only under its nine conditions, the spout is over a hold only at a
referenced position, and a step is ACTIVE only over a carriage at rest and referenced. A Start Step or Resume is taken with
presence live, as the frame that carries it has made it (log entry 1). -/
def Obligations.PlanAndLoaderLawsAreKept : Prop :=
  ∀ s t : State, PlanLaw s → LoaderLaw s →
    (∀ c ∈ s.pending.head?, (∃ r, c = .startStep r) ∨ c = .resume ∨ (∃ k, c = .takeRequest .cab k) →
      s.governor.presenceLive = true) →
    step s = .next t → PlanLaw t ∧ LoaderLaw t

/-- The commanded level is 0 with feed off, does not pass the ceiling with feed on, stands at it in RUNNING, and has its duty
staged; and the ceiling is the least of its terms as they stand. -/
def Obligations.LevelLawIsKept : Prop :=
  ∀ s t : State, PlanLaw s → LoaderLaw s → LevelLaw s → step s = .next t → LevelLaw t

/-- No swap stays pending over a step that brings its three conditions together. -/
def Obligations.SwapLawIsKept : Prop :=
  ∀ s t : State, PlanLaw s → LoaderLaw s → SwapLaw s → step s = .next t → SwapLaw t

/-- The bills in store keep their strictly rising numbers, all below the counter. A step only takes bills out whole and appends new
ones, and the counter never goes back, so a stored bill does not change and no number is issued twice. -/
def Obligations.BillLawIsKept : Prop :=
  ∀ s t : State, BillLaw s → step s = .next t → BillLaw t ∧
    (∃ kept new, t.accounts.bills = kept ++ new ∧ kept.Sublist s.accounts.bills ∧
      ∀ b ∈ new, ∃ n ∈ s.accounts.billCounter, n ≤ b.number) ∧
    ∀ m ∈ t.accounts.billCounter, ∃ n ∈ s.accounts.billCounter, n ≤ m

/-- Every account balances: what was weighed for it is in holds, rejected, spilled, unplaced or in the line. The split list of
every account, and of every bill, keeps at most one split for a hold. -/
def Obligations.BalanceLawIsKept : Prop :=
  (∀ s t : State, SettingsLaw s → WeigherLaw s → PlanLaw s → MassesFit s → BalanceLaw s → step s = .next t →
    BalanceLaw t) ∧
  Keeps SplitLaw

/-- The moment is the sum over the holds of credited mass times the lever on the active page, and nothing is left of it when no
call is open. -/
def Obligations.MomentLawIsKept : Prop :=
  ∀ s t : State, SettingsLaw s → WeigherLaw s → MomentFits s → MomentLaw s → step s = .next t → MomentLaw t
end

