-- ==== Sys2Proof/Laws/Bytes.lean ====
section
/-! SUPPORT. Byte strings: lengths and values of fields sent low byte first (chapter 00, "Numbers"), and where a field of a record starts. -/

namespace Sys2Proof.Machine

open Sys2Proof

@[simp] theorem le_length (n v : Nat) : (le n v).length = n := by
  induction n generalizing v with
  | zero => rfl
  | succ n ih => simp [le, ih]

theorem fromLE_le (n v : Nat) : fromLE (le n v) = v % 256 ^ n := by
  induction n generalizing v with
  | zero => simp [le, fromLE, Nat.mod_one]
  | succ n ih =>
    have h : 256 ^ (n + 1) = 256 * 256 ^ n := by rw [Nat.pow_succ, Nat.mul_comm]
    simp only [le, fromLE, ih, BitVec.toNat_ofNat]
    rw [h, Nat.mod_mul]

theorem field_le (n v : Nat) (rest : List Byte) : field (le n v ++ rest) 0 n = v % 256 ^ n := by
  simp only [field, List.drop_zero]
  rw [List.take_append_of_le_length (by simp), List.take_of_length_le (by simp), fromLE_le]

theorem field_skip (a rest : List Byte) (k n : Nat) (h : a.length ≤ k) :
    field (a ++ rest) k n = field rest (k - a.length) n := by
  simp [field, List.drop_append, List.drop_eq_nil_of_le h]

@[simp] theorem latchBytes_length (q : Option Quad) : (latchBytes q).length = 8 := by
  cases q <;> simp [latchBytes]

@[simp] theorem tripBytes_length (c : Option TripCause) : (tripBytes c).length = 2 := by
  rcases c with _ | c
  · rfl
  · cases c <;> rfl

@[simp] theorem timerBytes_length (n : Nat) (t : Option Nat) : (timerBytes n t).length = n := by
  cases t <;> simp [timerBytes]

@[simp] theorem requestBytes_length (r : Option TravelRequest) : (requestBytes r).length = 5 := by
  rcases r with _ | r
  · rfl
  · cases r <;> simp [requestBytes]

end Sys2Proof.Machine
end

