-- ==== Sys2Proof/Laws/Frames.lean ====
section
/-! SUPPORT. Frames: for every operation of the blocks, the fields of the state that it leaves as they are. Each lemma is a conjunction that `simp` uses field by field. -/

namespace Sys2Proof.Machine

open Sys2Proof

@[simp] theorem updateLedger_frame (acc : Account) (f : Ledger → Ledger) (s : State) :
    (updateLedger acc f s).phase = s.phase ∧
    (updateLedger acc f s).pins = s.pins ∧
    (updateLedger acc f s).store = s.store ∧
    (updateLedger acc f s).converter = s.converter ∧
    (updateLedger acc f s).weigher = s.weigher ∧
    (updateLedger acc f s).dust = s.dust ∧
    (updateLedger acc f s).travel = s.travel ∧
    (updateLedger acc f s).plan = s.plan ∧
    (updateLedger acc f s).governor = s.governor ∧
    (updateLedger acc f s).events = s.events ∧
    (updateLedger acc f s).ports = s.ports ∧
    (updateLedger acc f s).answer = s.answer ∧
    (updateLedger acc f s).pending = s.pending := by
  simp [updateLedger]

@[simp] theorem raise_frame (e : Event) (s : State) :
    (raise e s).phase = s.phase ∧
    (raise e s).pins = s.pins ∧
    (raise e s).store = s.store ∧
    (raise e s).converter = s.converter ∧
    (raise e s).weigher = s.weigher ∧
    (raise e s).dust = s.dust ∧
    (raise e s).travel = s.travel ∧
    (raise e s).plan = s.plan ∧
    (raise e s).governor = s.governor ∧
    (raise e s).accounts = s.accounts ∧
    (raise e s).ports = s.ports ∧
    (raise e s).answer = s.answer ∧
    (raise e s).pending = s.pending := by
  simp [raise]

@[simp] theorem bumpRevision_frame (s : State) :
    (bumpRevision s).phase = s.phase ∧
    (bumpRevision s).pins = s.pins ∧
    (bumpRevision s).store = s.store ∧
    (bumpRevision s).converter = s.converter ∧
    (bumpRevision s).weigher = s.weigher ∧
    (bumpRevision s).dust = s.dust ∧
    (bumpRevision s).travel = s.travel ∧
    (bumpRevision s).governor = s.governor ∧
    (bumpRevision s).accounts = s.accounts ∧
    (bumpRevision s).ports = s.ports ∧
    (bumpRevision s).answer = s.answer ∧
    (bumpRevision s).pending = s.pending := by
  simp [bumpRevision]

@[simp] theorem recomputeSpout_frame (s : State) :
    (recomputeSpout s).phase = s.phase ∧
    (recomputeSpout s).pins = s.pins ∧
    (recomputeSpout s).store = s.store ∧
    (recomputeSpout s).converter = s.converter ∧
    (recomputeSpout s).weigher = s.weigher ∧
    (recomputeSpout s).dust = s.dust ∧
    (recomputeSpout s).plan = s.plan ∧
    (recomputeSpout s).governor = s.governor ∧
    (recomputeSpout s).accounts = s.accounts ∧
    (recomputeSpout s).events = s.events ∧
    (recomputeSpout s).ports = s.ports ∧
    (recomputeSpout s).answer = s.answer ∧
    (recomputeSpout s).pending = s.pending := by
  simp [recomputeSpout]

@[simp] theorem recomputeMoment_frame (s : State) :
    (recomputeMoment s).phase = s.phase ∧
    (recomputeMoment s).pins = s.pins ∧
    (recomputeMoment s).store = s.store ∧
    (recomputeMoment s).converter = s.converter ∧
    (recomputeMoment s).weigher = s.weigher ∧
    (recomputeMoment s).dust = s.dust ∧
    (recomputeMoment s).travel = s.travel ∧
    (recomputeMoment s).plan = s.plan ∧
    (recomputeMoment s).governor = s.governor ∧
    (recomputeMoment s).events = s.events ∧
    (recomputeMoment s).ports = s.ports ∧
    (recomputeMoment s).answer = s.answer ∧
    (recomputeMoment s).pending = s.pending := by
  simp [recomputeMoment]

@[simp] theorem takeSwap_frame (s : State) :
    (takeSwap s).phase = s.phase ∧
    (takeSwap s).pins = s.pins ∧
    (takeSwap s).store = s.store ∧
    (takeSwap s).converter = s.converter ∧
    (takeSwap s).weigher = s.weigher ∧
    (takeSwap s).dust = s.dust ∧
    (takeSwap s).plan = s.plan ∧
    (takeSwap s).governor = s.governor ∧
    (takeSwap s).ports = s.ports ∧
    (takeSwap s).answer = s.answer ∧
    (takeSwap s).pending = s.pending := by
  simp [takeSwap]

@[simp] theorem swapTest_frame (s : State) :
    (swapTest s).phase = s.phase ∧
    (swapTest s).pins = s.pins ∧
    (swapTest s).store = s.store ∧
    (swapTest s).converter = s.converter ∧
    (swapTest s).weigher = s.weigher ∧
    (swapTest s).dust = s.dust ∧
    (swapTest s).plan = s.plan ∧
    (swapTest s).governor = s.governor ∧
    (swapTest s).ports = s.ports ∧
    (swapTest s).answer = s.answer ∧
    (swapTest s).pending = s.pending := by
  unfold swapTest
  (repeat' split) <;> simp

@[simp] theorem completionEvent_frame (st : Step) (s : State) :
    (completionEvent st s).phase = s.phase ∧
    (completionEvent st s).pins = s.pins ∧
    (completionEvent st s).store = s.store ∧
    (completionEvent st s).converter = s.converter ∧
    (completionEvent st s).weigher = s.weigher ∧
    (completionEvent st s).dust = s.dust ∧
    (completionEvent st s).travel = s.travel ∧
    (completionEvent st s).plan = s.plan ∧
    (completionEvent st s).governor = s.governor ∧
    (completionEvent st s).accounts = s.accounts ∧
    (completionEvent st s).ports = s.ports ∧
    (completionEvent st s).answer = s.answer ∧
    (completionEvent st s).pending = s.pending := by
  unfold completionEvent
  (repeat' split) <;> simp

@[simp] theorem completeStep_frame (s : State) :
    (completeStep s).phase = s.phase ∧
    (completeStep s).pins = s.pins ∧
    (completeStep s).store = s.store ∧
    (completeStep s).converter = s.converter ∧
    (completeStep s).weigher = s.weigher ∧
    (completeStep s).dust = s.dust ∧
    (completeStep s).governor = s.governor ∧
    (completeStep s).ports = s.ports ∧
    (completeStep s).answer = s.answer ∧
    (completeStep s).pending = s.pending := by
  unfold completeStep
  (repeat' split) <;> simp

@[simp] theorem stepStarted_frame (id eff : Nat) (s : State) :
    (stepStarted id eff s).phase = s.phase ∧
    (stepStarted id eff s).pins = s.pins ∧
    (stepStarted id eff s).store = s.store ∧
    (stepStarted id eff s).converter = s.converter ∧
    (stepStarted id eff s).weigher = s.weigher ∧
    (stepStarted id eff s).dust = s.dust ∧
    (stepStarted id eff s).travel = s.travel ∧
    (stepStarted id eff s).governor = s.governor ∧
    (stepStarted id eff s).accounts = s.accounts ∧
    (stepStarted id eff s).ports = s.ports ∧
    (stepStarted id eff s).answer = s.answer ∧
    (stepStarted id eff s).pending = s.pending := by
  simp [stepStarted]

@[simp] theorem heldAtStart_frame (id eff : Nat) (r : HoldReason) (s : State) :
    (heldAtStart id eff r s).phase = s.phase ∧
    (heldAtStart id eff r s).pins = s.pins ∧
    (heldAtStart id eff r s).store = s.store ∧
    (heldAtStart id eff r s).converter = s.converter ∧
    (heldAtStart id eff r s).weigher = s.weigher ∧
    (heldAtStart id eff r s).dust = s.dust ∧
    (heldAtStart id eff r s).travel = s.travel ∧
    (heldAtStart id eff r s).governor = s.governor ∧
    (heldAtStart id eff r s).accounts = s.accounts ∧
    (heldAtStart id eff r s).ports = s.ports ∧
    (heldAtStart id eff r s).answer = s.answer ∧
    (heldAtStart id eff r s).pending = s.pending := by
  simp [heldAtStart]

@[simp] theorem recordCutoff_frame (r : CutoffReason) (s : State) :
    (recordCutoff r s).phase = s.phase ∧
    (recordCutoff r s).pins = s.pins ∧
    (recordCutoff r s).store = s.store ∧
    (recordCutoff r s).converter = s.converter ∧
    (recordCutoff r s).weigher = s.weigher ∧
    (recordCutoff r s).dust = s.dust ∧
    (recordCutoff r s).travel = s.travel ∧
    (recordCutoff r s).governor = s.governor ∧
    (recordCutoff r s).accounts = s.accounts ∧
    (recordCutoff r s).ports = s.ports ∧
    (recordCutoff r s).answer = s.answer ∧
    (recordCutoff r s).pending = s.pending := by
  simp [recordCutoff]

@[simp] theorem raiseTravelDone_frame (abandoned : Bool) (s : State) :
    (raiseTravelDone abandoned s).phase = s.phase ∧
    (raiseTravelDone abandoned s).pins = s.pins ∧
    (raiseTravelDone abandoned s).store = s.store ∧
    (raiseTravelDone abandoned s).converter = s.converter ∧
    (raiseTravelDone abandoned s).weigher = s.weigher ∧
    (raiseTravelDone abandoned s).dust = s.dust ∧
    (raiseTravelDone abandoned s).travel = s.travel ∧
    (raiseTravelDone abandoned s).plan = s.plan ∧
    (raiseTravelDone abandoned s).governor = s.governor ∧
    (raiseTravelDone abandoned s).accounts = s.accounts ∧
    (raiseTravelDone abandoned s).ports = s.ports ∧
    (raiseTravelDone abandoned s).answer = s.answer ∧
    (raiseTravelDone abandoned s).pending = s.pending := by
  simp [raiseTravelDone]

@[simp] theorem enterFault_frame (c : FaultCause) (s : State) :
    (enterFault c s).phase = s.phase ∧
    (enterFault c s).pins = s.pins ∧
    (enterFault c s).store = s.store ∧
    (enterFault c s).converter = s.converter ∧
    (enterFault c s).weigher = s.weigher ∧
    (enterFault c s).dust = s.dust ∧
    (enterFault c s).plan = s.plan ∧
    (enterFault c s).governor = s.governor ∧
    (enterFault c s).ports = s.ports ∧
    (enterFault c s).answer = s.answer ∧
    (enterFault c s).pending = s.pending := by
  simp [enterFault]

@[simp] theorem homeSet_frame (s : State) :
    (homeSet s).phase = s.phase ∧
    (homeSet s).pins = s.pins ∧
    (homeSet s).store = s.store ∧
    (homeSet s).converter = s.converter ∧
    (homeSet s).weigher = s.weigher ∧
    (homeSet s).dust = s.dust ∧
    (homeSet s).plan = s.plan ∧
    (homeSet s).governor = s.governor ∧
    (homeSet s).ports = s.ports ∧
    (homeSet s).answer = s.answer ∧
    (homeSet s).pending = s.pending := by
  simp [homeSet]

@[simp] theorem abandonPending_frame (s : State) :
    (abandonPending s).phase = s.phase ∧
    (abandonPending s).pins = s.pins ∧
    (abandonPending s).store = s.store ∧
    (abandonPending s).converter = s.converter ∧
    (abandonPending s).weigher = s.weigher ∧
    (abandonPending s).dust = s.dust ∧
    (abandonPending s).plan = s.plan ∧
    (abandonPending s).governor = s.governor ∧
    (abandonPending s).accounts = s.accounts ∧
    (abandonPending s).ports = s.ports ∧
    (abandonPending s).answer = s.answer ∧
    (abandonPending s).pending = s.pending := by
  simp [abandonPending]

@[simp] theorem startGoTo_frame (x : Nat) (s : State) :
    (startGoTo x s).phase = s.phase ∧
    (startGoTo x s).pins = s.pins ∧
    (startGoTo x s).store = s.store ∧
    (startGoTo x s).converter = s.converter ∧
    (startGoTo x s).weigher = s.weigher ∧
    (startGoTo x s).dust = s.dust ∧
    (startGoTo x s).plan = s.plan ∧
    (startGoTo x s).governor = s.governor ∧
    (startGoTo x s).ports = s.ports ∧
    (startGoTo x s).answer = s.answer ∧
    (startGoTo x s).pending = s.pending := by
  unfold startGoTo
  dsimp only
  (repeat' split) <;> simp

@[simp] theorem startReference_frame (s : State) :
    (startReference s).phase = s.phase ∧
    (startReference s).pins = s.pins ∧
    (startReference s).store = s.store ∧
    (startReference s).converter = s.converter ∧
    (startReference s).weigher = s.weigher ∧
    (startReference s).dust = s.dust ∧
    (startReference s).plan = s.plan ∧
    (startReference s).governor = s.governor ∧
    (startReference s).ports = s.ports ∧
    (startReference s).answer = s.answer ∧
    (startReference s).pending = s.pending := by
  unfold startReference
  dsimp only
  (repeat' split) <;> simp

@[simp] theorem startMotion_frame (s : State) :
    (startMotion s).phase = s.phase ∧
    (startMotion s).pins = s.pins ∧
    (startMotion s).store = s.store ∧
    (startMotion s).converter = s.converter ∧
    (startMotion s).weigher = s.weigher ∧
    (startMotion s).dust = s.dust ∧
    (startMotion s).plan = s.plan ∧
    (startMotion s).governor = s.governor ∧
    (startMotion s).ports = s.ports ∧
    (startMotion s).answer = s.answer ∧
    (startMotion s).pending = s.pending := by
  unfold startMotion
  dsimp only
  (repeat' split) <;> simp

@[simp] theorem inPosition_frame (s : State) :
    (inPosition s).phase = s.phase ∧
    (inPosition s).pins = s.pins ∧
    (inPosition s).store = s.store ∧
    (inPosition s).converter = s.converter ∧
    (inPosition s).weigher = s.weigher ∧
    (inPosition s).dust = s.dust ∧
    (inPosition s).plan = s.plan ∧
    (inPosition s).governor = s.governor ∧
    (inPosition s).ports = s.ports ∧
    (inPosition s).answer = s.answer ∧
    (inPosition s).pending = s.pending := by
  simp [inPosition]

@[simp] theorem creepOn_frame (d : Direction) (s : State) :
    (creepOn d s).phase = s.phase ∧
    (creepOn d s).pins = s.pins ∧
    (creepOn d s).store = s.store ∧
    (creepOn d s).converter = s.converter ∧
    (creepOn d s).weigher = s.weigher ∧
    (creepOn d s).dust = s.dust ∧
    (creepOn d s).plan = s.plan ∧
    (creepOn d s).governor = s.governor ∧
    (creepOn d s).accounts = s.accounts ∧
    (creepOn d s).events = s.events ∧
    (creepOn d s).ports = s.ports ∧
    (creepOn d s).answer = s.answer ∧
    (creepOn d s).pending = s.pending := by
  simp [creepOn]

@[simp] theorem reversal_frame (d : Direction) (s : State) :
    (reversal d s).phase = s.phase ∧
    (reversal d s).pins = s.pins ∧
    (reversal d s).store = s.store ∧
    (reversal d s).converter = s.converter ∧
    (reversal d s).weigher = s.weigher ∧
    (reversal d s).dust = s.dust ∧
    (reversal d s).plan = s.plan ∧
    (reversal d s).governor = s.governor ∧
    (reversal d s).ports = s.ports ∧
    (reversal d s).answer = s.answer ∧
    (reversal d s).pending = s.pending := by
  unfold reversal
  dsimp only
  (repeat' split) <;> simp

@[simp] theorem stopJudgement_frame (s : State) :
    (stopJudgement s).phase = s.phase ∧
    (stopJudgement s).pins = s.pins ∧
    (stopJudgement s).store = s.store ∧
    (stopJudgement s).converter = s.converter ∧
    (stopJudgement s).weigher = s.weigher ∧
    (stopJudgement s).dust = s.dust ∧
    (stopJudgement s).plan = s.plan ∧
    (stopJudgement s).governor = s.governor ∧
    (stopJudgement s).ports = s.ports ∧
    (stopJudgement s).answer = s.answer ∧
    (stopJudgement s).pending = s.pending := by
  unfold stopJudgement
  dsimp only
  (repeat' split) <;> simp

@[simp] theorem profileTest_frame (s : State) :
    (profileTest s).phase = s.phase ∧
    (profileTest s).pins = s.pins ∧
    (profileTest s).store = s.store ∧
    (profileTest s).converter = s.converter ∧
    (profileTest s).weigher = s.weigher ∧
    (profileTest s).dust = s.dust ∧
    (profileTest s).plan = s.plan ∧
    (profileTest s).governor = s.governor ∧
    (profileTest s).accounts = s.accounts ∧
    (profileTest s).events = s.events ∧
    (profileTest s).ports = s.ports ∧
    (profileTest s).answer = s.answer ∧
    (profileTest s).pending = s.pending := by
  unfold profileTest
  (repeat' split) <;> simp

@[simp] theorem runOutExpiry_frame (s : State) :
    (runOutExpiry s).phase = s.phase ∧
    (runOutExpiry s).pins = s.pins ∧
    (runOutExpiry s).store = s.store ∧
    (runOutExpiry s).converter = s.converter ∧
    (runOutExpiry s).weigher = s.weigher ∧
    (runOutExpiry s).dust = s.dust ∧
    (runOutExpiry s).plan = s.plan ∧
    (runOutExpiry s).governor = s.governor ∧
    (runOutExpiry s).accounts = s.accounts ∧
    (runOutExpiry s).ports = s.ports ∧
    (runOutExpiry s).answer = s.answer ∧
    (runOutExpiry s).pending = s.pending := by
  unfold runOutExpiry
  (repeat' split) <;> simp

@[simp] theorem travelExpiry_frame (s : State) :
    (travelExpiry s).phase = s.phase ∧
    (travelExpiry s).pins = s.pins ∧
    (travelExpiry s).store = s.store ∧
    (travelExpiry s).converter = s.converter ∧
    (travelExpiry s).weigher = s.weigher ∧
    (travelExpiry s).dust = s.dust ∧
    (travelExpiry s).plan = s.plan ∧
    (travelExpiry s).governor = s.governor ∧
    (travelExpiry s).ports = s.ports ∧
    (travelExpiry s).answer = s.answer ∧
    (travelExpiry s).pending = s.pending := by
  unfold travelExpiry
  (repeat' split) <;> simp

@[simp] theorem travelSegmentClosed_frame (s : State) :
    (travelSegmentClosed s).phase = s.phase ∧
    (travelSegmentClosed s).pins = s.pins ∧
    (travelSegmentClosed s).store = s.store ∧
    (travelSegmentClosed s).converter = s.converter ∧
    (travelSegmentClosed s).weigher = s.weigher ∧
    (travelSegmentClosed s).dust = s.dust ∧
    (travelSegmentClosed s).plan = s.plan ∧
    (travelSegmentClosed s).governor = s.governor ∧
    (travelSegmentClosed s).ports = s.ports ∧
    (travelSegmentClosed s).answer = s.answer ∧
    (travelSegmentClosed s).pending = s.pending := by
  unfold travelSegmentClosed
  dsimp only
  (repeat' split) <;> simp

@[simp] theorem travelStop_frame (s : State) :
    (travelStop s).phase = s.phase ∧
    (travelStop s).pins = s.pins ∧
    (travelStop s).store = s.store ∧
    (travelStop s).converter = s.converter ∧
    (travelStop s).weigher = s.weigher ∧
    (travelStop s).dust = s.dust ∧
    (travelStop s).plan = s.plan ∧
    (travelStop s).governor = s.governor ∧
    (travelStop s).ports = s.ports ∧
    (travelStop s).answer = s.answer ∧
    (travelStop s).pending = s.pending := by
  unfold travelStop
  dsimp only
  (repeat' split) <;> simp

@[simp] theorem stopCleared_frame (s : State) :
    (stopCleared s).phase = s.phase ∧
    (stopCleared s).pins = s.pins ∧
    (stopCleared s).store = s.store ∧
    (stopCleared s).converter = s.converter ∧
    (stopCleared s).weigher = s.weigher ∧
    (stopCleared s).dust = s.dust ∧
    (stopCleared s).plan = s.plan ∧
    (stopCleared s).governor = s.governor ∧
    (stopCleared s).ports = s.ports ∧
    (stopCleared s).answer = s.answer ∧
    (stopCleared s).pending = s.pending := by
  unfold stopCleared
  (repeat' split) <;> simp

@[simp] theorem waitPending_frame (s : State) :
    (waitPending s).phase = s.phase ∧
    (waitPending s).pins = s.pins ∧
    (waitPending s).store = s.store ∧
    (waitPending s).converter = s.converter ∧
    (waitPending s).weigher = s.weigher ∧
    (waitPending s).dust = s.dust ∧
    (waitPending s).plan = s.plan ∧
    (waitPending s).governor = s.governor ∧
    (waitPending s).accounts = s.accounts ∧
    (waitPending s).events = s.events ∧
    (waitPending s).ports = s.ports ∧
    (waitPending s).answer = s.answer ∧
    (waitPending s).pending = s.pending := by
  simp [waitPending]

@[simp] theorem acceptTravel_frame (r : TravelRequest) (s : State) :
    (acceptTravel r s).1.phase = s.phase ∧
    (acceptTravel r s).1.pins = s.pins ∧
    (acceptTravel r s).1.store = s.store ∧
    (acceptTravel r s).1.converter = s.converter ∧
    (acceptTravel r s).1.weigher = s.weigher ∧
    (acceptTravel r s).1.dust = s.dust ∧
    (acceptTravel r s).1.plan = s.plan ∧
    (acceptTravel r s).1.governor = s.governor ∧
    (acceptTravel r s).1.ports = s.ports ∧
    (acceptTravel r s).1.answer = s.answer ∧
    (acceptTravel r s).1.pending = s.pending := by
  unfold acceptTravel
  dsimp only
  (repeat' split) <;> simp

@[simp] theorem cancelMotion_frame (s : State) :
    (cancelMotion s).phase = s.phase ∧
    (cancelMotion s).pins = s.pins ∧
    (cancelMotion s).store = s.store ∧
    (cancelMotion s).converter = s.converter ∧
    (cancelMotion s).weigher = s.weigher ∧
    (cancelMotion s).dust = s.dust ∧
    (cancelMotion s).plan = s.plan ∧
    (cancelMotion s).governor = s.governor ∧
    (cancelMotion s).ports = s.ports ∧
    (cancelMotion s).answer = s.answer ∧
    (cancelMotion s).pending = s.pending := by
  simp [cancelMotion]

@[simp] theorem setLevel_frame (level : Nat) (s : State) :
    (setLevel level s).phase = s.phase ∧
    (setLevel level s).pins = s.pins ∧
    (setLevel level s).store = s.store ∧
    (setLevel level s).converter = s.converter ∧
    (setLevel level s).weigher = s.weigher ∧
    (setLevel level s).dust = s.dust ∧
    (setLevel level s).travel = s.travel ∧
    (setLevel level s).plan = s.plan ∧
    (setLevel level s).accounts = s.accounts ∧
    (setLevel level s).events = s.events ∧
    (setLevel level s).ports = s.ports ∧
    (setLevel level s).answer = s.answer ∧
    (setLevel level s).pending = s.pending := by
  simp [setLevel]

@[simp] theorem recomputeCeiling_frame (s : State) :
    (recomputeCeiling s).phase = s.phase ∧
    (recomputeCeiling s).pins = s.pins ∧
    (recomputeCeiling s).store = s.store ∧
    (recomputeCeiling s).converter = s.converter ∧
    (recomputeCeiling s).weigher = s.weigher ∧
    (recomputeCeiling s).dust = s.dust ∧
    (recomputeCeiling s).travel = s.travel ∧
    (recomputeCeiling s).plan = s.plan ∧
    (recomputeCeiling s).accounts = s.accounts ∧
    (recomputeCeiling s).events = s.events ∧
    (recomputeCeiling s).ports = s.ports ∧
    (recomputeCeiling s).answer = s.answer ∧
    (recomputeCeiling s).pending = s.pending := by
  unfold recomputeCeiling
  dsimp only
  (repeat' split) <;> simp

@[simp] theorem shutGate_frame (s : State) :
    (shutGate s).phase = s.phase ∧
    (shutGate s).pins = s.pins ∧
    (shutGate s).store = s.store ∧
    (shutGate s).converter = s.converter ∧
    (shutGate s).weigher = s.weigher ∧
    (shutGate s).dust = s.dust ∧
    (shutGate s).travel = s.travel ∧
    (shutGate s).plan = s.plan ∧
    (shutGate s).accounts = s.accounts ∧
    (shutGate s).events = s.events ∧
    (shutGate s).ports = s.ports ∧
    (shutGate s).answer = s.answer ∧
    (shutGate s).pending = s.pending := by
  simp [shutGate]

@[simp] theorem leftDribble_frame (was : GovernorState) (s : State) :
    (leftDribble was s).phase = s.phase ∧
    (leftDribble was s).pins = s.pins ∧
    (leftDribble was s).store = s.store ∧
    (leftDribble was s).converter = s.converter ∧
    (leftDribble was s).weigher = s.weigher ∧
    (leftDribble was s).dust = s.dust ∧
    (leftDribble was s).travel = s.travel ∧
    (leftDribble was s).plan = s.plan ∧
    (leftDribble was s).accounts = s.accounts ∧
    (leftDribble was s).events = s.events ∧
    (leftDribble was s).ports = s.ports ∧
    (leftDribble was s).answer = s.answer ∧
    (leftDribble was s).pending = s.pending := by
  unfold leftDribble
  (repeat' split) <;> simp

@[simp] theorem enterDribble_frame (s : State) :
    (enterDribble s).phase = s.phase ∧
    (enterDribble s).pins = s.pins ∧
    (enterDribble s).store = s.store ∧
    (enterDribble s).converter = s.converter ∧
    (enterDribble s).weigher = s.weigher ∧
    (enterDribble s).dust = s.dust ∧
    (enterDribble s).travel = s.travel ∧
    (enterDribble s).plan = s.plan ∧
    (enterDribble s).accounts = s.accounts ∧
    (enterDribble s).events = s.events ∧
    (enterDribble s).ports = s.ports ∧
    (enterDribble s).answer = s.answer ∧
    (enterDribble s).pending = s.pending := by
  simp [enterDribble]

@[simp] theorem adaptPreact_frame (s : State) :
    (adaptPreact s).phase = s.phase ∧
    (adaptPreact s).pins = s.pins ∧
    (adaptPreact s).store = s.store ∧
    (adaptPreact s).converter = s.converter ∧
    (adaptPreact s).weigher = s.weigher ∧
    (adaptPreact s).dust = s.dust ∧
    (adaptPreact s).travel = s.travel ∧
    (adaptPreact s).plan = s.plan ∧
    (adaptPreact s).accounts = s.accounts ∧
    (adaptPreact s).events = s.events ∧
    (adaptPreact s).ports = s.ports ∧
    (adaptPreact s).answer = s.answer ∧
    (adaptPreact s).pending = s.pending := by
  unfold adaptPreact
  (repeat' split) <;> simp

@[simp] theorem complete_frame (s : State) :
    (complete s).phase = s.phase ∧
    (complete s).pins = s.pins ∧
    (complete s).store = s.store ∧
    (complete s).converter = s.converter ∧
    (complete s).weigher = s.weigher ∧
    (complete s).dust = s.dust ∧
    (complete s).ports = s.ports ∧
    (complete s).answer = s.answer ∧
    (complete s).pending = s.pending := by
  simp [complete]

@[simp] theorem enterCutoff_frame (s : State) :
    (enterCutoff s).phase = s.phase ∧
    (enterCutoff s).pins = s.pins ∧
    (enterCutoff s).store = s.store ∧
    (enterCutoff s).converter = s.converter ∧
    (enterCutoff s).weigher = s.weigher ∧
    (enterCutoff s).dust = s.dust ∧
    (enterCutoff s).travel = s.travel ∧
    (enterCutoff s).plan = s.plan ∧
    (enterCutoff s).accounts = s.accounts ∧
    (enterCutoff s).events = s.events ∧
    (enterCutoff s).ports = s.ports ∧
    (enterCutoff s).answer = s.answer ∧
    (enterCutoff s).pending = s.pending := by
  unfold enterCutoff
  dsimp only
  (repeat' split) <;> simp

@[simp] theorem cutoff_frame (r : CutoffReason) (s : State) :
    (cutoff r s).phase = s.phase ∧
    (cutoff r s).pins = s.pins ∧
    (cutoff r s).store = s.store ∧
    (cutoff r s).converter = s.converter ∧
    (cutoff r s).weigher = s.weigher ∧
    (cutoff r s).dust = s.dust ∧
    (cutoff r s).ports = s.ports ∧
    (cutoff r s).answer = s.answer ∧
    (cutoff r s).pending = s.pending := by
  unfold cutoff
  dsimp only
  (repeat' split) <;> simp

@[simp] theorem pauseCause_frame (r : PauseReason) (s : State) :
    (pauseCause r s).phase = s.phase ∧
    (pauseCause r s).pins = s.pins ∧
    (pauseCause r s).store = s.store ∧
    (pauseCause r s).converter = s.converter ∧
    (pauseCause r s).weigher = s.weigher ∧
    (pauseCause r s).dust = s.dust ∧
    (pauseCause r s).travel = s.travel ∧
    (pauseCause r s).plan = s.plan ∧
    (pauseCause r s).accounts = s.accounts ∧
    (pauseCause r s).ports = s.ports ∧
    (pauseCause r s).answer = s.answer ∧
    (pauseCause r s).pending = s.pending := by
  unfold pauseCause
  dsimp only
  (repeat' split) <;> simp

@[simp] theorem setBeltPermit_frame (s : State) :
    (setBeltPermit s).phase = s.phase ∧
    (setBeltPermit s).pins = s.pins ∧
    (setBeltPermit s).store = s.store ∧
    (setBeltPermit s).converter = s.converter ∧
    (setBeltPermit s).weigher = s.weigher ∧
    (setBeltPermit s).dust = s.dust ∧
    (setBeltPermit s).travel = s.travel ∧
    (setBeltPermit s).plan = s.plan ∧
    (setBeltPermit s).accounts = s.accounts ∧
    (setBeltPermit s).events = s.events ∧
    (setBeltPermit s).ports = s.ports ∧
    (setBeltPermit s).answer = s.answer ∧
    (setBeltPermit s).pending = s.pending := by
  simp [setBeltPermit]

@[simp] theorem stageNotice_frame (s : State) :
    (stageNotice s).phase = s.phase ∧
    (stageNotice s).pins = s.pins ∧
    (stageNotice s).store = s.store ∧
    (stageNotice s).converter = s.converter ∧
    (stageNotice s).weigher = s.weigher ∧
    (stageNotice s).dust = s.dust ∧
    (stageNotice s).travel = s.travel ∧
    (stageNotice s).plan = s.plan ∧
    (stageNotice s).accounts = s.accounts ∧
    (stageNotice s).ports = s.ports ∧
    (stageNotice s).answer = s.answer ∧
    (stageNotice s).pending = s.pending := by
  unfold stageNotice
  (repeat' split) <;> simp

@[simp] theorem bookSegment_frame (entering : Nat) (w : Weighing) (leaving : Nat) (dest : Destination) (s : State) :
    (bookSegment entering w leaving dest s).phase = s.phase ∧
    (bookSegment entering w leaving dest s).pins = s.pins ∧
    (bookSegment entering w leaving dest s).store = s.store ∧
    (bookSegment entering w leaving dest s).converter = s.converter ∧
    (bookSegment entering w leaving dest s).weigher = s.weigher ∧
    (bookSegment entering w leaving dest s).dust = s.dust ∧
    (bookSegment entering w leaving dest s).travel = s.travel ∧
    (bookSegment entering w leaving dest s).accounts = s.accounts ∧
    (bookSegment entering w leaving dest s).events = s.events ∧
    (bookSegment entering w leaving dest s).ports = s.ports ∧
    (bookSegment entering w leaving dest s).answer = s.answer ∧
    (bookSegment entering w leaving dest s).pending = s.pending := by
  unfold bookSegment
  (repeat' split) <;> simp

@[simp] theorem feedTests_frame (s : State) :
    (feedTests s).phase = s.phase ∧
    (feedTests s).pins = s.pins ∧
    (feedTests s).store = s.store ∧
    (feedTests s).converter = s.converter ∧
    (feedTests s).weigher = s.weigher ∧
    (feedTests s).dust = s.dust ∧
    (feedTests s).ports = s.ports ∧
    (feedTests s).answer = s.answer ∧
    (feedTests s).pending = s.pending := by
  unfold feedTests
  (repeat' split) <;> simp

@[simp] theorem segmentClosedNotice_frame (entering : Nat) (w : Weighing) (leaving : Nat) (dest : Destination) (s : State) :
    (segmentClosedNotice entering w leaving dest s).phase = s.phase ∧
    (segmentClosedNotice entering w leaving dest s).pins = s.pins ∧
    (segmentClosedNotice entering w leaving dest s).store = s.store ∧
    (segmentClosedNotice entering w leaving dest s).converter = s.converter ∧
    (segmentClosedNotice entering w leaving dest s).weigher = s.weigher ∧
    (segmentClosedNotice entering w leaving dest s).dust = s.dust ∧
    (segmentClosedNotice entering w leaving dest s).ports = s.ports ∧
    (segmentClosedNotice entering w leaving dest s).answer = s.answer ∧
    (segmentClosedNotice entering w leaving dest s).pending = s.pending := by
  unfold segmentClosedNotice
  dsimp only
  (repeat' split) <;> simp

@[simp] theorem recomputeEffective_frame (s : State) :
    (recomputeEffective s).phase = s.phase ∧
    (recomputeEffective s).pins = s.pins ∧
    (recomputeEffective s).store = s.store ∧
    (recomputeEffective s).converter = s.converter ∧
    (recomputeEffective s).weigher = s.weigher ∧
    (recomputeEffective s).dust = s.dust ∧
    (recomputeEffective s).travel = s.travel ∧
    (recomputeEffective s).accounts = s.accounts ∧
    (recomputeEffective s).events = s.events ∧
    (recomputeEffective s).ports = s.ports ∧
    (recomputeEffective s).answer = s.answer ∧
    (recomputeEffective s).pending = s.pending := by
  unfold recomputeEffective
  (repeat' split) <;> simp

@[simp] theorem reEvaluate_frame (s : State) :
    (reEvaluate s).phase = s.phase ∧
    (reEvaluate s).pins = s.pins ∧
    (reEvaluate s).store = s.store ∧
    (reEvaluate s).converter = s.converter ∧
    (reEvaluate s).weigher = s.weigher ∧
    (reEvaluate s).dust = s.dust ∧
    (reEvaluate s).ports = s.ports ∧
    (reEvaluate s).answer = s.answer ∧
    (reEvaluate s).pending = s.pending := by
  unfold reEvaluate
  dsimp only
  (repeat' split) <;> simp

@[simp] theorem scaleFaultNotice_frame (s : State) :
    (scaleFaultNotice s).phase = s.phase ∧
    (scaleFaultNotice s).pins = s.pins ∧
    (scaleFaultNotice s).store = s.store ∧
    (scaleFaultNotice s).converter = s.converter ∧
    (scaleFaultNotice s).weigher = s.weigher ∧
    (scaleFaultNotice s).dust = s.dust ∧
    (scaleFaultNotice s).ports = s.ports ∧
    (scaleFaultNotice s).answer = s.answer ∧
    (scaleFaultNotice s).pending = s.pending := by
  unfold scaleFaultNotice
  dsimp only
  (repeat' split) <;> simp

@[simp] theorem positionLost_frame (s : State) :
    (positionLost s).phase = s.phase ∧
    (positionLost s).pins = s.pins ∧
    (positionLost s).store = s.store ∧
    (positionLost s).converter = s.converter ∧
    (positionLost s).weigher = s.weigher ∧
    (positionLost s).dust = s.dust ∧
    (positionLost s).ports = s.ports ∧
    (positionLost s).answer = s.answer ∧
    (positionLost s).pending = s.pending := by
  unfold positionLost
  (repeat' split) <;> simp

@[simp] theorem cancelNotice_frame (s : State) :
    (cancelNotice s).phase = s.phase ∧
    (cancelNotice s).pins = s.pins ∧
    (cancelNotice s).store = s.store ∧
    (cancelNotice s).converter = s.converter ∧
    (cancelNotice s).weigher = s.weigher ∧
    (cancelNotice s).dust = s.dust ∧
    (cancelNotice s).ports = s.ports ∧
    (cancelNotice s).answer = s.answer ∧
    (cancelNotice s).pending = s.pending := by
  unfold cancelNotice
  (repeat' split) <;> simp

@[simp] theorem presenceNotice_frame (s : State) :
    (presenceNotice s).phase = s.phase ∧
    (presenceNotice s).pins = s.pins ∧
    (presenceNotice s).store = s.store ∧
    (presenceNotice s).converter = s.converter ∧
    (presenceNotice s).weigher = s.weigher ∧
    (presenceNotice s).dust = s.dust ∧
    (presenceNotice s).travel = s.travel ∧
    (presenceNotice s).plan = s.plan ∧
    (presenceNotice s).accounts = s.accounts ∧
    (presenceNotice s).events = s.events ∧
    (presenceNotice s).ports = s.ports ∧
    (presenceNotice s).answer = s.answer ∧
    (presenceNotice s).pending = s.pending := by
  simp [presenceNotice]

@[simp] theorem presenceExpiry_frame (s : State) :
    (presenceExpiry s).phase = s.phase ∧
    (presenceExpiry s).pins = s.pins ∧
    (presenceExpiry s).store = s.store ∧
    (presenceExpiry s).converter = s.converter ∧
    (presenceExpiry s).weigher = s.weigher ∧
    (presenceExpiry s).dust = s.dust ∧
    (presenceExpiry s).travel = s.travel ∧
    (presenceExpiry s).plan = s.plan ∧
    (presenceExpiry s).accounts = s.accounts ∧
    (presenceExpiry s).ports = s.ports ∧
    (presenceExpiry s).answer = s.answer ∧
    (presenceExpiry s).pending = s.pending := by
  unfold presenceExpiry
  dsimp only
  (repeat' split) <;> simp

@[simp] theorem openGate_frame (g : GovernorState) (s : State) :
    (openGate g s).phase = s.phase ∧
    (openGate g s).pins = s.pins ∧
    (openGate g s).store = s.store ∧
    (openGate g s).converter = s.converter ∧
    (openGate g s).weigher = s.weigher ∧
    (openGate g s).dust = s.dust ∧
    (openGate g s).travel = s.travel ∧
    (openGate g s).plan = s.plan ∧
    (openGate g s).accounts = s.accounts ∧
    (openGate g s).events = s.events ∧
    (openGate g s).ports = s.ports ∧
    (openGate g s).answer = s.answer ∧
    (openGate g s).pending = s.pending := by
  simp [openGate]

@[simp] theorem recomputeStage_frame (s : State) :
    (recomputeStage s).phase = s.phase ∧
    (recomputeStage s).pins = s.pins ∧
    (recomputeStage s).store = s.store ∧
    (recomputeStage s).converter = s.converter ∧
    (recomputeStage s).weigher = s.weigher ∧
    (recomputeStage s).travel = s.travel ∧
    (recomputeStage s).plan = s.plan ∧
    (recomputeStage s).accounts = s.accounts ∧
    (recomputeStage s).ports = s.ports ∧
    (recomputeStage s).answer = s.answer ∧
    (recomputeStage s).pending = s.pending := by
  unfold recomputeStage
  dsimp only
  (repeat' split) <;> simp

@[simp] theorem setTrip_frame (cause : TripCause) (s : State) :
    (setTrip cause s).phase = s.phase ∧
    (setTrip cause s).pins = s.pins ∧
    (setTrip cause s).store = s.store ∧
    (setTrip cause s).converter = s.converter ∧
    (setTrip cause s).weigher = s.weigher ∧
    (setTrip cause s).travel = s.travel ∧
    (setTrip cause s).plan = s.plan ∧
    (setTrip cause s).governor = s.governor ∧
    (setTrip cause s).accounts = s.accounts ∧
    (setTrip cause s).ports = s.ports ∧
    (setTrip cause s).answer = s.answer ∧
    (setTrip cause s).pending = s.pending := by
  unfold setTrip
  (repeat' split) <;> simp

@[simp] theorem highHoldExpires_frame (s : State) :
    (highHoldExpires s).phase = s.phase ∧
    (highHoldExpires s).pins = s.pins ∧
    (highHoldExpires s).store = s.store ∧
    (highHoldExpires s).converter = s.converter ∧
    (highHoldExpires s).weigher = s.weigher ∧
    (highHoldExpires s).travel = s.travel ∧
    (highHoldExpires s).plan = s.plan ∧
    (highHoldExpires s).accounts = s.accounts ∧
    (highHoldExpires s).ports = s.ports ∧
    (highHoldExpires s).answer = s.answer ∧
    (highHoldExpires s).pending = s.pending := by
  unfold highHoldExpires
  (repeat' split) <;> simp

@[simp] theorem referenceTimerExpires_frame (s : State) :
    (referenceTimerExpires s).phase = s.phase ∧
    (referenceTimerExpires s).pins = s.pins ∧
    (referenceTimerExpires s).store = s.store ∧
    (referenceTimerExpires s).converter = s.converter ∧
    (referenceTimerExpires s).weigher = s.weigher ∧
    (referenceTimerExpires s).travel = s.travel ∧
    (referenceTimerExpires s).plan = s.plan ∧
    (referenceTimerExpires s).accounts = s.accounts ∧
    (referenceTimerExpires s).ports = s.ports ∧
    (referenceTimerExpires s).answer = s.answer ∧
    (referenceTimerExpires s).pending = s.pending := by
  unfold referenceTimerExpires
  (repeat' split) <;> simp

@[simp] theorem setChannel_frame (c : ChannelNo) (ch : Channel) (s : State) :
    (setChannel c ch s).phase = s.phase ∧
    (setChannel c ch s).pins = s.pins ∧
    (setChannel c ch s).store = s.store ∧
    (setChannel c ch s).converter = s.converter ∧
    (setChannel c ch s).weigher = s.weigher ∧
    (setChannel c ch s).travel = s.travel ∧
    (setChannel c ch s).plan = s.plan ∧
    (setChannel c ch s).governor = s.governor ∧
    (setChannel c ch s).accounts = s.accounts ∧
    (setChannel c ch s).events = s.events ∧
    (setChannel c ch s).ports = s.ports ∧
    (setChannel c ch s).answer = s.answer ∧
    (setChannel c ch s).pending = s.pending := by
  simp [setChannel]

@[simp] theorem takeCode_frame (c : ChannelNo) (code : Code) (s : State) :
    (takeCode c code s).phase = s.phase ∧
    (takeCode c code s).pins = s.pins ∧
    (takeCode c code s).store = s.store ∧
    (takeCode c code s).converter = s.converter ∧
    (takeCode c code s).weigher = s.weigher ∧
    (takeCode c code s).travel = s.travel ∧
    (takeCode c code s).plan = s.plan ∧
    (takeCode c code s).governor = s.governor ∧
    (takeCode c code s).accounts = s.accounts ∧
    (takeCode c code s).ports = s.ports ∧
    (takeCode c code s).answer = s.answer ∧
    (takeCode c code s).pending = s.pending := by
  unfold takeCode
  dsimp only
  (repeat' split) <;> simp

@[simp] theorem takeGroup_frame (c0 c1 c2 c3 : ChannelNo) (q : Quad) (s : State) :
    (takeGroup c0 c1 c2 c3 q s).phase = s.phase ∧
    (takeGroup c0 c1 c2 c3 q s).pins = s.pins ∧
    (takeGroup c0 c1 c2 c3 q s).store = s.store ∧
    (takeGroup c0 c1 c2 c3 q s).converter = s.converter ∧
    (takeGroup c0 c1 c2 c3 q s).weigher = s.weigher ∧
    (takeGroup c0 c1 c2 c3 q s).travel = s.travel ∧
    (takeGroup c0 c1 c2 c3 q s).plan = s.plan ∧
    (takeGroup c0 c1 c2 c3 q s).governor = s.governor ∧
    (takeGroup c0 c1 c2 c3 q s).accounts = s.accounts ∧
    (takeGroup c0 c1 c2 c3 q s).ports = s.ports ∧
    (takeGroup c0 c1 c2 c3 q s).answer = s.answer ∧
    (takeGroup c0 c1 c2 c3 q s).pending = s.pending := by
  simp [takeGroup]

@[simp] theorem dustGroup_frame (k : GroupKind) (q : Quad) (s : State) :
    (dustGroup k q s).phase = s.phase ∧
    (dustGroup k q s).pins = s.pins ∧
    (dustGroup k q s).store = s.store ∧
    (dustGroup k q s).converter = s.converter ∧
    (dustGroup k q s).weigher = s.weigher ∧
    (dustGroup k q s).travel = s.travel ∧
    (dustGroup k q s).plan = s.plan ∧
    (dustGroup k q s).accounts = s.accounts ∧
    (dustGroup k q s).ports = s.ports ∧
    (dustGroup k q s).answer = s.answer ∧
    (dustGroup k q s).pending = s.pending := by
  unfold dustGroup
  (repeat' split) <;> simp

@[simp] theorem applyMaskTo_frame (was now : BitVec 8) (c : ChannelNo) (s : State) :
    (applyMaskTo was now c s).phase = s.phase ∧
    (applyMaskTo was now c s).pins = s.pins ∧
    (applyMaskTo was now c s).store = s.store ∧
    (applyMaskTo was now c s).converter = s.converter ∧
    (applyMaskTo was now c s).weigher = s.weigher ∧
    (applyMaskTo was now c s).travel = s.travel ∧
    (applyMaskTo was now c s).plan = s.plan ∧
    (applyMaskTo was now c s).governor = s.governor ∧
    (applyMaskTo was now c s).accounts = s.accounts ∧
    (applyMaskTo was now c s).events = s.events ∧
    (applyMaskTo was now c s).ports = s.ports ∧
    (applyMaskTo was now c s).answer = s.answer ∧
    (applyMaskTo was now c s).pending = s.pending := by
  unfold applyMaskTo
  (repeat' split) <;> simp

@[simp] theorem applyMask_frame (was now : BitVec 8) (s : State) :
    (applyMask was now s).phase = s.phase ∧
    (applyMask was now s).pins = s.pins ∧
    (applyMask was now s).store = s.store ∧
    (applyMask was now s).converter = s.converter ∧
    (applyMask was now s).weigher = s.weigher ∧
    (applyMask was now s).travel = s.travel ∧
    (applyMask was now s).plan = s.plan ∧
    (applyMask was now s).accounts = s.accounts ∧
    (applyMask was now s).ports = s.ports ∧
    (applyMask was now s).answer = s.answer ∧
    (applyMask was now s).pending = s.pending := by
  simp [applyMask, allChannels]

@[simp] theorem markOverRange_frame (s : State) :
    (markOverRange s).phase = s.phase ∧
    (markOverRange s).pins = s.pins ∧
    (markOverRange s).store = s.store ∧
    (markOverRange s).converter = s.converter ∧
    (markOverRange s).weigher = s.weigher ∧
    (markOverRange s).dust = s.dust ∧
    (markOverRange s).travel = s.travel ∧
    (markOverRange s).plan = s.plan ∧
    (markOverRange s).governor = s.governor ∧
    (markOverRange s).events = s.events ∧
    (markOverRange s).ports = s.ports ∧
    (markOverRange s).answer = s.answer ∧
    (markOverRange s).pending = s.pending := by
  simp [markOverRange]

@[simp] theorem weighGroup_frame (q : Quad) (s : State) :
    (weighGroup q s).phase = s.phase ∧
    (weighGroup q s).pins = s.pins ∧
    (weighGroup q s).store = s.store ∧
    (weighGroup q s).converter = s.converter ∧
    (weighGroup q s).dust = s.dust ∧
    (weighGroup q s).travel = s.travel ∧
    (weighGroup q s).plan = s.plan ∧
    (weighGroup q s).governor = s.governor ∧
    (weighGroup q s).events = s.events ∧
    (weighGroup q s).ports = s.ports ∧
    (weighGroup q s).answer = s.answer ∧
    (weighGroup q s).pending = s.pending := by
  unfold weighGroup
  dsimp only
  (repeat' split) <;> simp

@[simp] theorem countUnweighed_frame (s : State) :
    (countUnweighed s).phase = s.phase ∧
    (countUnweighed s).pins = s.pins ∧
    (countUnweighed s).store = s.store ∧
    (countUnweighed s).converter = s.converter ∧
    (countUnweighed s).weigher = s.weigher ∧
    (countUnweighed s).dust = s.dust ∧
    (countUnweighed s).travel = s.travel ∧
    (countUnweighed s).plan = s.plan ∧
    (countUnweighed s).governor = s.governor ∧
    (countUnweighed s).events = s.events ∧
    (countUnweighed s).ports = s.ports ∧
    (countUnweighed s).answer = s.answer ∧
    (countUnweighed s).pending = s.pending := by
  simp [countUnweighed]

@[simp] theorem enterScaleFault_frame (s : State) :
    (enterScaleFault s).phase = s.phase ∧
    (enterScaleFault s).pins = s.pins ∧
    (enterScaleFault s).store = s.store ∧
    (enterScaleFault s).converter = s.converter ∧
    (enterScaleFault s).dust = s.dust ∧
    (enterScaleFault s).ports = s.ports ∧
    (enterScaleFault s).answer = s.answer ∧
    (enterScaleFault s).pending = s.pending := by
  simp [enterScaleFault]

@[simp] theorem weighSegment_frame (s : State) :
    (weighSegment s).state.phase = s.phase ∧
    (weighSegment s).state.pins = s.pins ∧
    (weighSegment s).state.store = s.store ∧
    (weighSegment s).state.converter = s.converter ∧
    (weighSegment s).state.dust = s.dust ∧
    (weighSegment s).state.ports = s.ports ∧
    (weighSegment s).state.answer = s.answer ∧
    (weighSegment s).state.pending = s.pending := by
  unfold weighSegment
  dsimp only
  (repeat' split) <;> simp

@[simp] theorem billSegment_frame (mass : Nat) (how : Weighing) (s : State) :
    (billSegment mass how s).phase = s.phase ∧
    (billSegment mass how s).pins = s.pins ∧
    (billSegment mass how s).store = s.store ∧
    (billSegment mass how s).converter = s.converter ∧
    (billSegment mass how s).weigher = s.weigher ∧
    (billSegment mass how s).dust = s.dust ∧
    (billSegment mass how s).travel = s.travel ∧
    (billSegment mass how s).plan = s.plan ∧
    (billSegment mass how s).governor = s.governor ∧
    (billSegment mass how s).events = s.events ∧
    (billSegment mass how s).ports = s.ports ∧
    (billSegment mass how s).answer = s.answer ∧
    (billSegment mass how s).pending = s.pending := by
  unfold billSegment
  (repeat' split) <;> simp

@[simp] theorem shiftLine_frame (e : Entry) (s : State) :
    (shiftLine e s).phase = s.phase ∧
    (shiftLine e s).pins = s.pins ∧
    (shiftLine e s).store = s.store ∧
    (shiftLine e s).converter = s.converter ∧
    (shiftLine e s).dust = s.dust ∧
    (shiftLine e s).travel = s.travel ∧
    (shiftLine e s).plan = s.plan ∧
    (shiftLine e s).governor = s.governor ∧
    (shiftLine e s).accounts = s.accounts ∧
    (shiftLine e s).events = s.events ∧
    (shiftLine e s).ports = s.ports ∧
    (shiftLine e s).answer = s.answer ∧
    (shiftLine e s).pending = s.pending := by
  simp [shiftLine]

@[simp] theorem creditHold_frame (h : Hold) (mass : Nat) (acc : Account) (s : State) :
    (creditHold h mass acc s).phase = s.phase ∧
    (creditHold h mass acc s).pins = s.pins ∧
    (creditHold h mass acc s).store = s.store ∧
    (creditHold h mass acc s).converter = s.converter ∧
    (creditHold h mass acc s).weigher = s.weigher ∧
    (creditHold h mass acc s).dust = s.dust ∧
    (creditHold h mass acc s).travel = s.travel ∧
    (creditHold h mass acc s).plan = s.plan ∧
    (creditHold h mass acc s).governor = s.governor ∧
    (creditHold h mass acc s).events = s.events ∧
    (creditHold h mass acc s).ports = s.ports ∧
    (creditHold h mass acc s).answer = s.answer ∧
    (creditHold h mass acc s).pending = s.pending := by
  simp [creditHold]

@[simp] theorem setSpillRun_frame (b : Bool) (s : State) :
    (setSpillRun b s).phase = s.phase ∧
    (setSpillRun b s).pins = s.pins ∧
    (setSpillRun b s).store = s.store ∧
    (setSpillRun b s).converter = s.converter ∧
    (setSpillRun b s).dust = s.dust ∧
    (setSpillRun b s).travel = s.travel ∧
    (setSpillRun b s).plan = s.plan ∧
    (setSpillRun b s).governor = s.governor ∧
    (setSpillRun b s).accounts = s.accounts ∧
    (setSpillRun b s).events = s.events ∧
    (setSpillRun b s).ports = s.ports ∧
    (setSpillRun b s).answer = s.answer ∧
    (setSpillRun b s).pending = s.pending := by
  simp [setSpillRun]

@[simp] theorem dischargeSpill_frame (mass : Nat) (acc : Account) (s : State) :
    (dischargeSpill mass acc s).phase = s.phase ∧
    (dischargeSpill mass acc s).pins = s.pins ∧
    (dischargeSpill mass acc s).store = s.store ∧
    (dischargeSpill mass acc s).converter = s.converter ∧
    (dischargeSpill mass acc s).dust = s.dust ∧
    (dischargeSpill mass acc s).travel = s.travel ∧
    (dischargeSpill mass acc s).plan = s.plan ∧
    (dischargeSpill mass acc s).governor = s.governor ∧
    (dischargeSpill mass acc s).ports = s.ports ∧
    (dischargeSpill mass acc s).answer = s.answer ∧
    (dischargeSpill mass acc s).pending = s.pending := by
  unfold dischargeSpill
  dsimp only
  (repeat' split) <;> simp

@[simp] theorem discharge_frame (e : Entry) (d : Destination) (s : State) :
    (discharge e d s).phase = s.phase ∧
    (discharge e d s).pins = s.pins ∧
    (discharge e d s).store = s.store ∧
    (discharge e d s).converter = s.converter ∧
    (discharge e d s).dust = s.dust ∧
    (discharge e d s).travel = s.travel ∧
    (discharge e d s).plan = s.plan ∧
    (discharge e d s).governor = s.governor ∧
    (discharge e d s).ports = s.ports ∧
    (discharge e d s).answer = s.answer ∧
    (discharge e d s).pending = s.pending := by
  unfold discharge
  (repeat' split) <;> simp

@[simp] theorem restartSegment_frame (s : State) :
    (restartSegment s).phase = s.phase ∧
    (restartSegment s).pins = s.pins ∧
    (restartSegment s).store = s.store ∧
    (restartSegment s).converter = s.converter ∧
    (restartSegment s).dust = s.dust ∧
    (restartSegment s).travel = s.travel ∧
    (restartSegment s).plan = s.plan ∧
    (restartSegment s).governor = s.governor ∧
    (restartSegment s).accounts = s.accounts ∧
    (restartSegment s).events = s.events ∧
    (restartSegment s).ports = s.ports ∧
    (restartSegment s).answer = s.answer ∧
    (restartSegment s).pending = s.pending := by
  simp [restartSegment]

@[simp] theorem moveLine_frame (mass : Nat) (how : Weighing) (s : State) :
    (moveLine mass how s).phase = s.phase ∧
    (moveLine mass how s).pins = s.pins ∧
    (moveLine mass how s).store = s.store ∧
    (moveLine mass how s).converter = s.converter ∧
    (moveLine mass how s).dust = s.dust ∧
    (moveLine mass how s).travel = s.travel ∧
    (moveLine mass how s).plan = s.plan ∧
    (moveLine mass how s).governor = s.governor ∧
    (moveLine mass how s).ports = s.ports ∧
    (moveLine mass how s).answer = s.answer ∧
    (moveLine mass how s).pending = s.pending := by
  simp [moveLine]

@[simp] theorem closeSegment_frame (s : State) :
    (closeSegment s).phase = s.phase ∧
    (closeSegment s).pins = s.pins ∧
    (closeSegment s).store = s.store ∧
    (closeSegment s).converter = s.converter ∧
    (closeSegment s).dust = s.dust ∧
    (closeSegment s).ports = s.ports ∧
    (closeSegment s).answer = s.answer ∧
    (closeSegment s).pending = s.pending := by
  simp [closeSegment]

@[simp] theorem countPulse_frame (s : State) :
    (countPulse s).phase = s.phase ∧
    (countPulse s).pins = s.pins ∧
    (countPulse s).store = s.store ∧
    (countPulse s).converter = s.converter ∧
    (countPulse s).dust = s.dust ∧
    (countPulse s).ports = s.ports ∧
    (countPulse s).answer = s.answer ∧
    (countPulse s).pending = s.pending := by
  unfold countPulse
  dsimp only
  (repeat' split) <;> simp

@[simp] theorem rebuildLine_frame (n : Nat) (s : State) :
    (rebuildLine n s).phase = s.phase ∧
    (rebuildLine n s).pins = s.pins ∧
    (rebuildLine n s).store = s.store ∧
    (rebuildLine n s).converter = s.converter ∧
    (rebuildLine n s).dust = s.dust ∧
    (rebuildLine n s).travel = s.travel ∧
    (rebuildLine n s).plan = s.plan ∧
    (rebuildLine n s).governor = s.governor ∧
    (rebuildLine n s).accounts = s.accounts ∧
    (rebuildLine n s).events = s.events ∧
    (rebuildLine n s).ports = s.ports ∧
    (rebuildLine n s).answer = s.answer ∧
    (rebuildLine n s).pending = s.pending := by
  simp [rebuildLine]

@[simp] theorem storeSettings_frame (x : Settings) (s : State) :
    (storeSettings x s).phase = s.phase ∧
    (storeSettings x s).pins = s.pins ∧
    (storeSettings x s).converter = s.converter ∧
    (storeSettings x s).weigher = s.weigher ∧
    (storeSettings x s).dust = s.dust ∧
    (storeSettings x s).travel = s.travel ∧
    (storeSettings x s).plan = s.plan ∧
    (storeSettings x s).governor = s.governor ∧
    (storeSettings x s).accounts = s.accounts ∧
    (storeSettings x s).events = s.events ∧
    (storeSettings x s).ports = s.ports ∧
    (storeSettings x s).answer = s.answer ∧
    (storeSettings x s).pending = s.pending := by
  simp [storeSettings]

@[simp] theorem storeSetting_frame (k : SettingKey) (v : Nat) (s : State) :
    (storeSetting k v s).phase = s.phase ∧
    (storeSetting k v s).pins = s.pins ∧
    (storeSetting k v s).converter = s.converter ∧
    (storeSetting k v s).weigher = s.weigher ∧
    (storeSetting k v s).dust = s.dust ∧
    (storeSetting k v s).travel = s.travel ∧
    (storeSetting k v s).plan = s.plan ∧
    (storeSetting k v s).accounts = s.accounts ∧
    (storeSetting k v s).events = s.events ∧
    (storeSetting k v s).ports = s.ports ∧
    (storeSetting k v s).answer = s.answer ∧
    (storeSetting k v s).pending = s.pending := by
  unfold storeSetting
  (repeat' split) <;> simp

@[simp] theorem clampPreact_frame (s : State) :
    (clampPreact s).phase = s.phase ∧
    (clampPreact s).pins = s.pins ∧
    (clampPreact s).store = s.store ∧
    (clampPreact s).converter = s.converter ∧
    (clampPreact s).weigher = s.weigher ∧
    (clampPreact s).dust = s.dust ∧
    (clampPreact s).travel = s.travel ∧
    (clampPreact s).plan = s.plan ∧
    (clampPreact s).accounts = s.accounts ∧
    (clampPreact s).events = s.events ∧
    (clampPreact s).ports = s.ports ∧
    (clampPreact s).answer = s.answer ∧
    (clampPreact s).pending = s.pending := by
  simp [clampPreact]

@[simp] theorem maskChanged_frame (was now : BitVec 8) (s : State) :
    (maskChanged was now s).phase = s.phase ∧
    (maskChanged was now s).pins = s.pins ∧
    (maskChanged was now s).store = s.store ∧
    (maskChanged was now s).weigher = s.weigher ∧
    (maskChanged was now s).travel = s.travel ∧
    (maskChanged was now s).plan = s.plan ∧
    (maskChanged was now s).accounts = s.accounts ∧
    (maskChanged was now s).ports = s.ports ∧
    (maskChanged was now s).answer = s.answer ∧
    (maskChanged was now s).pending = s.pending := by
  unfold maskChanged
  (repeat' split) <;> simp

@[simp] theorem applySetting_frame (was : BitVec 8) (v : Nat) (s : State) (k : SettingKey) :
    (applySetting was v s k).phase = s.phase ∧
    (applySetting was v s k).pins = s.pins ∧
    (applySetting was v s k).store = s.store ∧
    (applySetting was v s k).plan = s.plan ∧
    (applySetting was v s k).ports = s.ports ∧
    (applySetting was v s k).answer = s.answer ∧
    (applySetting was v s k).pending = s.pending := by
  unfold applySetting
  (repeat' split) <;> simp

@[simp] theorem ownWriteSetting_frame (identifier value : Nat) (s : State) :
    (ownWriteSetting identifier value s).1.phase = s.phase ∧
    (ownWriteSetting identifier value s).1.pins = s.pins ∧
    (ownWriteSetting identifier value s).1.plan = s.plan ∧
    (ownWriteSetting identifier value s).1.ports = s.ports ∧
    (ownWriteSetting identifier value s).1.answer = s.answer ∧
    (ownWriteSetting identifier value s).1.pending = s.pending := by
  unfold ownWriteSetting
  (repeat' split) <;> simp

@[simp] theorem ownAcceptSettings_frame (s : State) :
    (ownAcceptSettings s).1.phase = s.phase ∧
    (ownAcceptSettings s).1.pins = s.pins ∧
    (ownAcceptSettings s).1.converter = s.converter ∧
    (ownAcceptSettings s).1.weigher = s.weigher ∧
    (ownAcceptSettings s).1.dust = s.dust ∧
    (ownAcceptSettings s).1.travel = s.travel ∧
    (ownAcceptSettings s).1.plan = s.plan ∧
    (ownAcceptSettings s).1.governor = s.governor ∧
    (ownAcceptSettings s).1.accounts = s.accounts ∧
    (ownAcceptSettings s).1.events = s.events ∧
    (ownAcceptSettings s).1.ports = s.ports ∧
    (ownAcceptSettings s).1.answer = s.answer ∧
    (ownAcceptSettings s).1.pending = s.pending := by
  simp [ownAcceptSettings]

@[simp] theorem calibrate_frame (z sp b : Nat) (s : State) :
    (calibrate z sp b s).phase = s.phase ∧
    (calibrate z sp b s).pins = s.pins ∧
    (calibrate z sp b s).converter = s.converter ∧
    (calibrate z sp b s).dust = s.dust ∧
    (calibrate z sp b s).travel = s.travel ∧
    (calibrate z sp b s).plan = s.plan ∧
    (calibrate z sp b s).governor = s.governor ∧
    (calibrate z sp b s).accounts = s.accounts ∧
    (calibrate z sp b s).events = s.events ∧
    (calibrate z sp b s).ports = s.ports ∧
    (calibrate z sp b s).answer = s.answer ∧
    (calibrate z sp b s).pending = s.pending := by
  simp [calibrate]

@[simp] theorem ownWriteCalibration_frame (z sp b : Nat) (s : State) :
    (ownWriteCalibration z sp b s).1.phase = s.phase ∧
    (ownWriteCalibration z sp b s).1.pins = s.pins ∧
    (ownWriteCalibration z sp b s).1.converter = s.converter ∧
    (ownWriteCalibration z sp b s).1.dust = s.dust ∧
    (ownWriteCalibration z sp b s).1.travel = s.travel ∧
    (ownWriteCalibration z sp b s).1.plan = s.plan ∧
    (ownWriteCalibration z sp b s).1.governor = s.governor ∧
    (ownWriteCalibration z sp b s).1.accounts = s.accounts ∧
    (ownWriteCalibration z sp b s).1.events = s.events ∧
    (ownWriteCalibration z sp b s).1.ports = s.ports ∧
    (ownWriteCalibration z sp b s).1.answer = s.answer ∧
    (ownWriteCalibration z sp b s).1.pending = s.pending := by
  unfold ownWriteCalibration
  (repeat' split) <;> simp

@[simp] theorem ownReadStatus_frame (s : State) :
    (ownReadStatus s).1.phase = s.phase ∧
    (ownReadStatus s).1.pins = s.pins ∧
    (ownReadStatus s).1.store = s.store ∧
    (ownReadStatus s).1.converter = s.converter ∧
    (ownReadStatus s).1.weigher = s.weigher ∧
    (ownReadStatus s).1.dust = s.dust ∧
    (ownReadStatus s).1.travel = s.travel ∧
    (ownReadStatus s).1.plan = s.plan ∧
    (ownReadStatus s).1.governor = s.governor ∧
    (ownReadStatus s).1.accounts = s.accounts ∧
    (ownReadStatus s).1.events = s.events ∧
    (ownReadStatus s).1.ports = s.ports ∧
    (ownReadStatus s).1.answer = s.answer ∧
    (ownReadStatus s).1.pending = s.pending := by
  simp [ownReadStatus]

@[simp] theorem ownReadPlan_frame (offset limit : Nat) (s : State) :
    (ownReadPlan offset limit s).1.phase = s.phase ∧
    (ownReadPlan offset limit s).1.pins = s.pins ∧
    (ownReadPlan offset limit s).1.store = s.store ∧
    (ownReadPlan offset limit s).1.converter = s.converter ∧
    (ownReadPlan offset limit s).1.weigher = s.weigher ∧
    (ownReadPlan offset limit s).1.dust = s.dust ∧
    (ownReadPlan offset limit s).1.travel = s.travel ∧
    (ownReadPlan offset limit s).1.plan = s.plan ∧
    (ownReadPlan offset limit s).1.governor = s.governor ∧
    (ownReadPlan offset limit s).1.accounts = s.accounts ∧
    (ownReadPlan offset limit s).1.events = s.events ∧
    (ownReadPlan offset limit s).1.ports = s.ports ∧
    (ownReadPlan offset limit s).1.answer = s.answer ∧
    (ownReadPlan offset limit s).1.pending = s.pending := by
  simp [ownReadPlan]

@[simp] theorem ownReadStep_frame (id : Nat) (s : State) :
    (ownReadStep id s).1.phase = s.phase ∧
    (ownReadStep id s).1.pins = s.pins ∧
    (ownReadStep id s).1.store = s.store ∧
    (ownReadStep id s).1.converter = s.converter ∧
    (ownReadStep id s).1.weigher = s.weigher ∧
    (ownReadStep id s).1.dust = s.dust ∧
    (ownReadStep id s).1.travel = s.travel ∧
    (ownReadStep id s).1.plan = s.plan ∧
    (ownReadStep id s).1.governor = s.governor ∧
    (ownReadStep id s).1.accounts = s.accounts ∧
    (ownReadStep id s).1.events = s.events ∧
    (ownReadStep id s).1.ports = s.ports ∧
    (ownReadStep id s).1.answer = s.answer ∧
    (ownReadStep id s).1.pending = s.pending := by
  unfold ownReadStep
  (repeat' split) <;> simp

@[simp] theorem ownReadLot_frame (slot offset limit : Nat) (s : State) :
    (ownReadLot slot offset limit s).1.phase = s.phase ∧
    (ownReadLot slot offset limit s).1.pins = s.pins ∧
    (ownReadLot slot offset limit s).1.store = s.store ∧
    (ownReadLot slot offset limit s).1.converter = s.converter ∧
    (ownReadLot slot offset limit s).1.weigher = s.weigher ∧
    (ownReadLot slot offset limit s).1.dust = s.dust ∧
    (ownReadLot slot offset limit s).1.travel = s.travel ∧
    (ownReadLot slot offset limit s).1.plan = s.plan ∧
    (ownReadLot slot offset limit s).1.governor = s.governor ∧
    (ownReadLot slot offset limit s).1.accounts = s.accounts ∧
    (ownReadLot slot offset limit s).1.events = s.events ∧
    (ownReadLot slot offset limit s).1.ports = s.ports ∧
    (ownReadLot slot offset limit s).1.answer = s.answer ∧
    (ownReadLot slot offset limit s).1.pending = s.pending := by
  unfold ownReadLot
  (repeat' split) <;> simp

@[simp] theorem ownReadHolds_frame (s : State) :
    (ownReadHolds s).1.phase = s.phase ∧
    (ownReadHolds s).1.pins = s.pins ∧
    (ownReadHolds s).1.store = s.store ∧
    (ownReadHolds s).1.converter = s.converter ∧
    (ownReadHolds s).1.weigher = s.weigher ∧
    (ownReadHolds s).1.dust = s.dust ∧
    (ownReadHolds s).1.travel = s.travel ∧
    (ownReadHolds s).1.plan = s.plan ∧
    (ownReadHolds s).1.governor = s.governor ∧
    (ownReadHolds s).1.accounts = s.accounts ∧
    (ownReadHolds s).1.events = s.events ∧
    (ownReadHolds s).1.ports = s.ports ∧
    (ownReadHolds s).1.answer = s.answer ∧
    (ownReadHolds s).1.pending = s.pending := by
  simp [ownReadHolds]

@[simp] theorem ownReadHatchMap_frame (page offset limit : Nat) (s : State) :
    (ownReadHatchMap page offset limit s).1.phase = s.phase ∧
    (ownReadHatchMap page offset limit s).1.pins = s.pins ∧
    (ownReadHatchMap page offset limit s).1.store = s.store ∧
    (ownReadHatchMap page offset limit s).1.converter = s.converter ∧
    (ownReadHatchMap page offset limit s).1.weigher = s.weigher ∧
    (ownReadHatchMap page offset limit s).1.dust = s.dust ∧
    (ownReadHatchMap page offset limit s).1.travel = s.travel ∧
    (ownReadHatchMap page offset limit s).1.plan = s.plan ∧
    (ownReadHatchMap page offset limit s).1.governor = s.governor ∧
    (ownReadHatchMap page offset limit s).1.accounts = s.accounts ∧
    (ownReadHatchMap page offset limit s).1.events = s.events ∧
    (ownReadHatchMap page offset limit s).1.ports = s.ports ∧
    (ownReadHatchMap page offset limit s).1.answer = s.answer ∧
    (ownReadHatchMap page offset limit s).1.pending = s.pending := by
  unfold ownReadHatchMap
  (repeat' split) <;> simp

@[simp] theorem ownReadBill_frame (n offset limit : Nat) (s : State) :
    (ownReadBill n offset limit s).1.phase = s.phase ∧
    (ownReadBill n offset limit s).1.pins = s.pins ∧
    (ownReadBill n offset limit s).1.store = s.store ∧
    (ownReadBill n offset limit s).1.converter = s.converter ∧
    (ownReadBill n offset limit s).1.weigher = s.weigher ∧
    (ownReadBill n offset limit s).1.dust = s.dust ∧
    (ownReadBill n offset limit s).1.travel = s.travel ∧
    (ownReadBill n offset limit s).1.plan = s.plan ∧
    (ownReadBill n offset limit s).1.governor = s.governor ∧
    (ownReadBill n offset limit s).1.accounts = s.accounts ∧
    (ownReadBill n offset limit s).1.events = s.events ∧
    (ownReadBill n offset limit s).1.ports = s.ports ∧
    (ownReadBill n offset limit s).1.answer = s.answer ∧
    (ownReadBill n offset limit s).1.pending = s.pending := by
  unfold ownReadBill
  (repeat' split) <;> simp

@[simp] theorem ownReadTransit_frame (s : State) :
    (ownReadTransit s).1.phase = s.phase ∧
    (ownReadTransit s).1.pins = s.pins ∧
    (ownReadTransit s).1.store = s.store ∧
    (ownReadTransit s).1.converter = s.converter ∧
    (ownReadTransit s).1.weigher = s.weigher ∧
    (ownReadTransit s).1.dust = s.dust ∧
    (ownReadTransit s).1.travel = s.travel ∧
    (ownReadTransit s).1.plan = s.plan ∧
    (ownReadTransit s).1.governor = s.governor ∧
    (ownReadTransit s).1.accounts = s.accounts ∧
    (ownReadTransit s).1.events = s.events ∧
    (ownReadTransit s).1.ports = s.ports ∧
    (ownReadTransit s).1.answer = s.answer ∧
    (ownReadTransit s).1.pending = s.pending := by
  simp [ownReadTransit]

@[simp] theorem ownReadSettings_frame (offset limit : Nat) (s : State) :
    (ownReadSettings offset limit s).1.phase = s.phase ∧
    (ownReadSettings offset limit s).1.pins = s.pins ∧
    (ownReadSettings offset limit s).1.store = s.store ∧
    (ownReadSettings offset limit s).1.converter = s.converter ∧
    (ownReadSettings offset limit s).1.weigher = s.weigher ∧
    (ownReadSettings offset limit s).1.dust = s.dust ∧
    (ownReadSettings offset limit s).1.travel = s.travel ∧
    (ownReadSettings offset limit s).1.plan = s.plan ∧
    (ownReadSettings offset limit s).1.governor = s.governor ∧
    (ownReadSettings offset limit s).1.accounts = s.accounts ∧
    (ownReadSettings offset limit s).1.events = s.events ∧
    (ownReadSettings offset limit s).1.ports = s.ports ∧
    (ownReadSettings offset limit s).1.answer = s.answer ∧
    (ownReadSettings offset limit s).1.pending = s.pending := by
  simp [ownReadSettings]

@[simp] theorem ownFetchEvent_frame (st : Station) (s : State) :
    (ownFetchEvent st s).1.phase = s.phase ∧
    (ownFetchEvent st s).1.pins = s.pins ∧
    (ownFetchEvent st s).1.store = s.store ∧
    (ownFetchEvent st s).1.converter = s.converter ∧
    (ownFetchEvent st s).1.weigher = s.weigher ∧
    (ownFetchEvent st s).1.dust = s.dust ∧
    (ownFetchEvent st s).1.travel = s.travel ∧
    (ownFetchEvent st s).1.plan = s.plan ∧
    (ownFetchEvent st s).1.governor = s.governor ∧
    (ownFetchEvent st s).1.accounts = s.accounts ∧
    (ownFetchEvent st s).1.ports = s.ports ∧
    (ownFetchEvent st s).1.answer = s.answer ∧
    (ownFetchEvent st s).1.pending = s.pending := by
  unfold ownFetchEvent
  dsimp only
  (repeat' split) <;> simp

@[simp] theorem startPour_frame (st : Step) (eff : Nat) (s : State) :
    (startPour st eff s).phase = s.phase ∧
    (startPour st eff s).pins = s.pins ∧
    (startPour st eff s).store = s.store ∧
    (startPour st eff s).converter = s.converter ∧
    (startPour st eff s).dust = s.dust ∧
    (startPour st eff s).travel = s.travel ∧
    (startPour st eff s).accounts = s.accounts ∧
    (startPour st eff s).ports = s.ports ∧
    (startPour st eff s).answer = s.answer ∧
    (startPour st eff s).pending = s.pending := by
  simp [startPour]

@[simp] theorem judgedStart_frame (st : Step) (s : State) :
    (judgedStart st s).1.phase = s.phase ∧
    (judgedStart st s).1.pins = s.pins ∧
    (judgedStart st s).1.store = s.store ∧
    (judgedStart st s).1.converter = s.converter ∧
    (judgedStart st s).1.dust = s.dust ∧
    (judgedStart st s).1.travel = s.travel ∧
    (judgedStart st s).1.accounts = s.accounts ∧
    (judgedStart st s).1.ports = s.ports ∧
    (judgedStart st s).1.answer = s.answer ∧
    (judgedStart st s).1.pending = s.pending := by
  unfold judgedStart
  dsimp only
  (repeat' split) <;> simp

@[simp] theorem ownStartStep_frame (revision : Nat) (s : State) :
    (ownStartStep revision s).1.phase = s.phase ∧
    (ownStartStep revision s).1.pins = s.pins ∧
    (ownStartStep revision s).1.store = s.store ∧
    (ownStartStep revision s).1.converter = s.converter ∧
    (ownStartStep revision s).1.dust = s.dust ∧
    (ownStartStep revision s).1.travel = s.travel ∧
    (ownStartStep revision s).1.accounts = s.accounts ∧
    (ownStartStep revision s).1.ports = s.ports ∧
    (ownStartStep revision s).1.answer = s.answer ∧
    (ownStartStep revision s).1.pending = s.pending := by
  unfold ownStartStep
  (repeat' split) <;> simp

@[simp] theorem resumeFeed_frame (s : State) :
    (resumeFeed s).phase = s.phase ∧
    (resumeFeed s).pins = s.pins ∧
    (resumeFeed s).store = s.store ∧
    (resumeFeed s).converter = s.converter ∧
    (resumeFeed s).weigher = s.weigher ∧
    (resumeFeed s).dust = s.dust ∧
    (resumeFeed s).ports = s.ports ∧
    (resumeFeed s).answer = s.answer ∧
    (resumeFeed s).pending = s.pending := by
  unfold resumeFeed
  dsimp only
  (repeat' split) <;> simp

@[simp] theorem ownResume_frame (s : State) :
    (ownResume s).1.phase = s.phase ∧
    (ownResume s).1.pins = s.pins ∧
    (ownResume s).1.store = s.store ∧
    (ownResume s).1.converter = s.converter ∧
    (ownResume s).1.weigher = s.weigher ∧
    (ownResume s).1.dust = s.dust ∧
    (ownResume s).1.ports = s.ports ∧
    (ownResume s).1.answer = s.answer ∧
    (ownResume s).1.pending = s.pending := by
  unfold ownResume
  (repeat' split) <;> simp

@[simp] theorem ownStopStep_frame (s : State) :
    (ownStopStep s).1.phase = s.phase ∧
    (ownStopStep s).1.pins = s.pins ∧
    (ownStopStep s).1.store = s.store ∧
    (ownStopStep s).1.converter = s.converter ∧
    (ownStopStep s).1.weigher = s.weigher ∧
    (ownStopStep s).1.dust = s.dust ∧
    (ownStopStep s).1.ports = s.ports ∧
    (ownStopStep s).1.answer = s.answer ∧
    (ownStopStep s).1.pending = s.pending := by
  unfold ownStopStep
  (repeat' split) <;> simp

@[simp] theorem ownSetFeedLevel_frame (level : Nat) (s : State) :
    (ownSetFeedLevel level s).1.phase = s.phase ∧
    (ownSetFeedLevel level s).1.pins = s.pins ∧
    (ownSetFeedLevel level s).1.store = s.store ∧
    (ownSetFeedLevel level s).1.converter = s.converter ∧
    (ownSetFeedLevel level s).1.weigher = s.weigher ∧
    (ownSetFeedLevel level s).1.dust = s.dust ∧
    (ownSetFeedLevel level s).1.travel = s.travel ∧
    (ownSetFeedLevel level s).1.plan = s.plan ∧
    (ownSetFeedLevel level s).1.accounts = s.accounts ∧
    (ownSetFeedLevel level s).1.events = s.events ∧
    (ownSetFeedLevel level s).1.ports = s.ports ∧
    (ownSetFeedLevel level s).1.answer = s.answer ∧
    (ownSetFeedLevel level s).1.pending = s.pending := by
  unfold ownSetFeedLevel
  (repeat' split) <;> simp

@[simp] theorem ownPresence_frame (s : State) :
    (ownPresence s).1.phase = s.phase ∧
    (ownPresence s).1.pins = s.pins ∧
    (ownPresence s).1.store = s.store ∧
    (ownPresence s).1.converter = s.converter ∧
    (ownPresence s).1.weigher = s.weigher ∧
    (ownPresence s).1.dust = s.dust ∧
    (ownPresence s).1.travel = s.travel ∧
    (ownPresence s).1.plan = s.plan ∧
    (ownPresence s).1.governor = s.governor ∧
    (ownPresence s).1.accounts = s.accounts ∧
    (ownPresence s).1.events = s.events ∧
    (ownPresence s).1.ports = s.ports ∧
    (ownPresence s).1.answer = s.answer ∧
    (ownPresence s).1.pending = s.pending := by
  simp [ownPresence]

@[simp] theorem ownAcknowledgeTrip_frame (s : State) :
    (ownAcknowledgeTrip s).1.phase = s.phase ∧
    (ownAcknowledgeTrip s).1.pins = s.pins ∧
    (ownAcknowledgeTrip s).1.store = s.store ∧
    (ownAcknowledgeTrip s).1.converter = s.converter ∧
    (ownAcknowledgeTrip s).1.weigher = s.weigher ∧
    (ownAcknowledgeTrip s).1.travel = s.travel ∧
    (ownAcknowledgeTrip s).1.plan = s.plan ∧
    (ownAcknowledgeTrip s).1.accounts = s.accounts ∧
    (ownAcknowledgeTrip s).1.ports = s.ports ∧
    (ownAcknowledgeTrip s).1.answer = s.answer ∧
    (ownAcknowledgeTrip s).1.pending = s.pending := by
  unfold ownAcknowledgeTrip
  (repeat' split) <;> simp

@[simp] theorem ownClearStop_frame (s : State) :
    (ownClearStop s).1.phase = s.phase ∧
    (ownClearStop s).1.pins = s.pins ∧
    (ownClearStop s).1.store = s.store ∧
    (ownClearStop s).1.converter = s.converter ∧
    (ownClearStop s).1.weigher = s.weigher ∧
    (ownClearStop s).1.dust = s.dust ∧
    (ownClearStop s).1.plan = s.plan ∧
    (ownClearStop s).1.ports = s.ports ∧
    (ownClearStop s).1.answer = s.answer ∧
    (ownClearStop s).1.pending = s.pending := by
  unfold ownClearStop
  (repeat' split) <;> simp

@[simp] theorem ownGoToHold_frame (hold : Nat) (s : State) :
    (ownGoToHold hold s).1.phase = s.phase ∧
    (ownGoToHold hold s).1.pins = s.pins ∧
    (ownGoToHold hold s).1.store = s.store ∧
    (ownGoToHold hold s).1.converter = s.converter ∧
    (ownGoToHold hold s).1.weigher = s.weigher ∧
    (ownGoToHold hold s).1.dust = s.dust ∧
    (ownGoToHold hold s).1.plan = s.plan ∧
    (ownGoToHold hold s).1.governor = s.governor ∧
    (ownGoToHold hold s).1.ports = s.ports ∧
    (ownGoToHold hold s).1.answer = s.answer ∧
    (ownGoToHold hold s).1.pending = s.pending := by
  unfold ownGoToHold
  (repeat' split) <;> simp

@[simp] theorem ownGoToPosition_frame (x : Nat) (s : State) :
    (ownGoToPosition x s).1.phase = s.phase ∧
    (ownGoToPosition x s).1.pins = s.pins ∧
    (ownGoToPosition x s).1.store = s.store ∧
    (ownGoToPosition x s).1.converter = s.converter ∧
    (ownGoToPosition x s).1.weigher = s.weigher ∧
    (ownGoToPosition x s).1.dust = s.dust ∧
    (ownGoToPosition x s).1.plan = s.plan ∧
    (ownGoToPosition x s).1.governor = s.governor ∧
    (ownGoToPosition x s).1.ports = s.ports ∧
    (ownGoToPosition x s).1.answer = s.answer ∧
    (ownGoToPosition x s).1.pending = s.pending := by
  unfold ownGoToPosition
  (repeat' split) <;> simp

@[simp] theorem ownReferenceTravel_frame (s : State) :
    (ownReferenceTravel s).1.phase = s.phase ∧
    (ownReferenceTravel s).1.pins = s.pins ∧
    (ownReferenceTravel s).1.store = s.store ∧
    (ownReferenceTravel s).1.converter = s.converter ∧
    (ownReferenceTravel s).1.weigher = s.weigher ∧
    (ownReferenceTravel s).1.dust = s.dust ∧
    (ownReferenceTravel s).1.plan = s.plan ∧
    (ownReferenceTravel s).1.governor = s.governor ∧
    (ownReferenceTravel s).1.ports = s.ports ∧
    (ownReferenceTravel s).1.answer = s.answer ∧
    (ownReferenceTravel s).1.pending = s.pending := by
  unfold ownReferenceTravel
  (repeat' split) <;> simp

@[simp] theorem ownCancelTravel_frame (s : State) :
    (ownCancelTravel s).1.phase = s.phase ∧
    (ownCancelTravel s).1.pins = s.pins ∧
    (ownCancelTravel s).1.store = s.store ∧
    (ownCancelTravel s).1.converter = s.converter ∧
    (ownCancelTravel s).1.weigher = s.weigher ∧
    (ownCancelTravel s).1.dust = s.dust ∧
    (ownCancelTravel s).1.plan = s.plan ∧
    (ownCancelTravel s).1.governor = s.governor ∧
    (ownCancelTravel s).1.ports = s.ports ∧
    (ownCancelTravel s).1.answer = s.answer ∧
    (ownCancelTravel s).1.pending = s.pending := by
  unfold ownCancelTravel
  (repeat' split) <;> simp

@[simp] theorem ownClearTravelFault_frame (s : State) :
    (ownClearTravelFault s).1.phase = s.phase ∧
    (ownClearTravelFault s).1.pins = s.pins ∧
    (ownClearTravelFault s).1.store = s.store ∧
    (ownClearTravelFault s).1.converter = s.converter ∧
    (ownClearTravelFault s).1.weigher = s.weigher ∧
    (ownClearTravelFault s).1.dust = s.dust ∧
    (ownClearTravelFault s).1.plan = s.plan ∧
    (ownClearTravelFault s).1.governor = s.governor ∧
    (ownClearTravelFault s).1.accounts = s.accounts ∧
    (ownClearTravelFault s).1.events = s.events ∧
    (ownClearTravelFault s).1.ports = s.ports ∧
    (ownClearTravelFault s).1.answer = s.answer ∧
    (ownClearTravelFault s).1.pending = s.pending := by
  unfold ownClearTravelFault
  (repeat' split) <;> simp

@[simp] theorem divert_frame (v : Diverter) (s : State) :
    (divert v s).phase = s.phase ∧
    (divert v s).pins = s.pins ∧
    (divert v s).store = s.store ∧
    (divert v s).converter = s.converter ∧
    (divert v s).weigher = s.weigher ∧
    (divert v s).dust = s.dust ∧
    (divert v s).plan = s.plan ∧
    (divert v s).governor = s.governor ∧
    (divert v s).ports = s.ports ∧
    (divert v s).answer = s.answer ∧
    (divert v s).pending = s.pending := by
  unfold divert
  dsimp only
  (repeat' split) <;> simp

@[simp] theorem ownSetDiverter_frame (value : Nat) (s : State) :
    (ownSetDiverter value s).1.phase = s.phase ∧
    (ownSetDiverter value s).1.pins = s.pins ∧
    (ownSetDiverter value s).1.store = s.store ∧
    (ownSetDiverter value s).1.converter = s.converter ∧
    (ownSetDiverter value s).1.weigher = s.weigher ∧
    (ownSetDiverter value s).1.dust = s.dust ∧
    (ownSetDiverter value s).1.plan = s.plan ∧
    (ownSetDiverter value s).1.governor = s.governor ∧
    (ownSetDiverter value s).1.ports = s.ports ∧
    (ownSetDiverter value s).1.answer = s.answer ∧
    (ownSetDiverter value s).1.pending = s.pending := by
  unfold ownSetDiverter
  (repeat' split) <;> simp

@[simp] theorem ownHoldPour_frame (s : State) :
    (ownHoldPour s).1.phase = s.phase ∧
    (ownHoldPour s).1.pins = s.pins ∧
    (ownHoldPour s).1.store = s.store ∧
    (ownHoldPour s).1.converter = s.converter ∧
    (ownHoldPour s).1.weigher = s.weigher ∧
    (ownHoldPour s).1.dust = s.dust ∧
    (ownHoldPour s).1.travel = s.travel ∧
    (ownHoldPour s).1.plan = s.plan ∧
    (ownHoldPour s).1.accounts = s.accounts ∧
    (ownHoldPour s).1.ports = s.ports ∧
    (ownHoldPour s).1.answer = s.answer ∧
    (ownHoldPour s).1.pending = s.pending := by
  unfold ownHoldPour
  (repeat' split) <;> simp

@[simp] theorem ownReleasePour_frame (s : State) :
    (ownReleasePour s).1.phase = s.phase ∧
    (ownReleasePour s).1.pins = s.pins ∧
    (ownReleasePour s).1.store = s.store ∧
    (ownReleasePour s).1.converter = s.converter ∧
    (ownReleasePour s).1.weigher = s.weigher ∧
    (ownReleasePour s).1.dust = s.dust ∧
    (ownReleasePour s).1.travel = s.travel ∧
    (ownReleasePour s).1.plan = s.plan ∧
    (ownReleasePour s).1.accounts = s.accounts ∧
    (ownReleasePour s).1.events = s.events ∧
    (ownReleasePour s).1.ports = s.ports ∧
    (ownReleasePour s).1.answer = s.answer ∧
    (ownReleasePour s).1.pending = s.pending := by
  simp [ownReleasePour]

@[simp] theorem ownOpenCall_frame (id : Nat) (band : Option Nat) (s : State) :
    (ownOpenCall id band s).1.phase = s.phase ∧
    (ownOpenCall id band s).1.pins = s.pins ∧
    (ownOpenCall id band s).1.store = s.store ∧
    (ownOpenCall id band s).1.converter = s.converter ∧
    (ownOpenCall id band s).1.weigher = s.weigher ∧
    (ownOpenCall id band s).1.dust = s.dust ∧
    (ownOpenCall id band s).1.travel = s.travel ∧
    (ownOpenCall id band s).1.governor = s.governor ∧
    (ownOpenCall id band s).1.accounts = s.accounts ∧
    (ownOpenCall id band s).1.ports = s.ports ∧
    (ownOpenCall id band s).1.answer = s.answer ∧
    (ownOpenCall id band s).1.pending = s.pending := by
  unfold ownOpenCall
  dsimp only
  (repeat' split) <;> simp

@[simp] theorem emptyPlan_frame (s : State) :
    (emptyPlan s).phase = s.phase ∧
    (emptyPlan s).pins = s.pins ∧
    (emptyPlan s).store = s.store ∧
    (emptyPlan s).converter = s.converter ∧
    (emptyPlan s).weigher = s.weigher ∧
    (emptyPlan s).dust = s.dust ∧
    (emptyPlan s).travel = s.travel ∧
    (emptyPlan s).governor = s.governor ∧
    (emptyPlan s).accounts = s.accounts ∧
    (emptyPlan s).events = s.events ∧
    (emptyPlan s).ports = s.ports ∧
    (emptyPlan s).answer = s.answer ∧
    (emptyPlan s).pending = s.pending := by
  simp [emptyPlan]

@[simp] theorem clearHolds_frame (s : State) :
    (clearHolds s).phase = s.phase ∧
    (clearHolds s).pins = s.pins ∧
    (clearHolds s).store = s.store ∧
    (clearHolds s).converter = s.converter ∧
    (clearHolds s).weigher = s.weigher ∧
    (clearHolds s).dust = s.dust ∧
    (clearHolds s).travel = s.travel ∧
    (clearHolds s).plan = s.plan ∧
    (clearHolds s).governor = s.governor ∧
    (clearHolds s).events = s.events ∧
    (clearHolds s).ports = s.ports ∧
    (clearHolds s).answer = s.answer ∧
    (clearHolds s).pending = s.pending := by
  simp [clearHolds]

@[simp] theorem clearPages_frame (s : State) :
    (clearPages s).phase = s.phase ∧
    (clearPages s).pins = s.pins ∧
    (clearPages s).store = s.store ∧
    (clearPages s).converter = s.converter ∧
    (clearPages s).weigher = s.weigher ∧
    (clearPages s).dust = s.dust ∧
    (clearPages s).plan = s.plan ∧
    (clearPages s).governor = s.governor ∧
    (clearPages s).accounts = s.accounts ∧
    (clearPages s).events = s.events ∧
    (clearPages s).ports = s.ports ∧
    (clearPages s).answer = s.answer ∧
    (clearPages s).pending = s.pending := by
  simp [clearPages]

@[simp] theorem clearWeighingLot_frame (s : State) :
    (clearWeighingLot s).phase = s.phase ∧
    (clearWeighingLot s).pins = s.pins ∧
    (clearWeighingLot s).store = s.store ∧
    (clearWeighingLot s).converter = s.converter ∧
    (clearWeighingLot s).dust = s.dust ∧
    (clearWeighingLot s).travel = s.travel ∧
    (clearWeighingLot s).plan = s.plan ∧
    (clearWeighingLot s).governor = s.governor ∧
    (clearWeighingLot s).accounts = s.accounts ∧
    (clearWeighingLot s).events = s.events ∧
    (clearWeighingLot s).ports = s.ports ∧
    (clearWeighingLot s).answer = s.answer ∧
    (clearWeighingLot s).pending = s.pending := by
  simp [clearWeighingLot]

@[simp] theorem ownCloseCall_frame (s : State) :
    (ownCloseCall s).1.phase = s.phase ∧
    (ownCloseCall s).1.pins = s.pins ∧
    (ownCloseCall s).1.store = s.store ∧
    (ownCloseCall s).1.converter = s.converter ∧
    (ownCloseCall s).1.dust = s.dust ∧
    (ownCloseCall s).1.governor = s.governor ∧
    (ownCloseCall s).1.ports = s.ports ∧
    (ownCloseCall s).1.answer = s.answer ∧
    (ownCloseCall s).1.pending = s.pending := by
  unfold ownCloseCall
  (repeat' split) <;> simp

@[simp] theorem ownSetTrimBand_frame (band : Nat) (s : State) :
    (ownSetTrimBand band s).1.phase = s.phase ∧
    (ownSetTrimBand band s).1.pins = s.pins ∧
    (ownSetTrimBand band s).1.store = s.store ∧
    (ownSetTrimBand band s).1.converter = s.converter ∧
    (ownSetTrimBand band s).1.weigher = s.weigher ∧
    (ownSetTrimBand band s).1.dust = s.dust ∧
    (ownSetTrimBand band s).1.ports = s.ports ∧
    (ownSetTrimBand band s).1.answer = s.answer ∧
    (ownSetTrimBand band s).1.pending = s.pending := by
  unfold ownSetTrimBand
  dsimp only
  (repeat' split) <;> simp

@[simp] theorem ownInsertStep_frame (position hold slot target maxLevel : Nat) (s : State) :
    (ownInsertStep position hold slot target maxLevel s).1.phase = s.phase ∧
    (ownInsertStep position hold slot target maxLevel s).1.pins = s.pins ∧
    (ownInsertStep position hold slot target maxLevel s).1.store = s.store ∧
    (ownInsertStep position hold slot target maxLevel s).1.converter = s.converter ∧
    (ownInsertStep position hold slot target maxLevel s).1.weigher = s.weigher ∧
    (ownInsertStep position hold slot target maxLevel s).1.dust = s.dust ∧
    (ownInsertStep position hold slot target maxLevel s).1.travel = s.travel ∧
    (ownInsertStep position hold slot target maxLevel s).1.governor = s.governor ∧
    (ownInsertStep position hold slot target maxLevel s).1.accounts = s.accounts ∧
    (ownInsertStep position hold slot target maxLevel s).1.ports = s.ports ∧
    (ownInsertStep position hold slot target maxLevel s).1.answer = s.answer ∧
    (ownInsertStep position hold slot target maxLevel s).1.pending = s.pending := by
  unfold ownInsertStep
  dsimp only
  (repeat' split) <;> simp

@[simp] theorem modifyPlan_frame (st : Step) (target level : Nat) (s : State) :
    (modifyPlan st target level s).phase = s.phase ∧
    (modifyPlan st target level s).pins = s.pins ∧
    (modifyPlan st target level s).store = s.store ∧
    (modifyPlan st target level s).converter = s.converter ∧
    (modifyPlan st target level s).weigher = s.weigher ∧
    (modifyPlan st target level s).dust = s.dust ∧
    (modifyPlan st target level s).ports = s.ports ∧
    (modifyPlan st target level s).answer = s.answer ∧
    (modifyPlan st target level s).pending = s.pending := by
  unfold modifyPlan
  dsimp only
  (repeat' split) <;> simp

@[simp] theorem ownModifyStep_frame (id target level : Nat) (s : State) :
    (ownModifyStep id target level s).1.phase = s.phase ∧
    (ownModifyStep id target level s).1.pins = s.pins ∧
    (ownModifyStep id target level s).1.store = s.store ∧
    (ownModifyStep id target level s).1.converter = s.converter ∧
    (ownModifyStep id target level s).1.weigher = s.weigher ∧
    (ownModifyStep id target level s).1.dust = s.dust ∧
    (ownModifyStep id target level s).1.ports = s.ports ∧
    (ownModifyStep id target level s).1.answer = s.answer ∧
    (ownModifyStep id target level s).1.pending = s.pending := by
  unfold ownModifyStep
  (repeat' split) <;> simp

@[simp] theorem ownDeleteStep_frame (id : Nat) (s : State) :
    (ownDeleteStep id s).1.phase = s.phase ∧
    (ownDeleteStep id s).1.pins = s.pins ∧
    (ownDeleteStep id s).1.store = s.store ∧
    (ownDeleteStep id s).1.converter = s.converter ∧
    (ownDeleteStep id s).1.weigher = s.weigher ∧
    (ownDeleteStep id s).1.dust = s.dust ∧
    (ownDeleteStep id s).1.travel = s.travel ∧
    (ownDeleteStep id s).1.governor = s.governor ∧
    (ownDeleteStep id s).1.accounts = s.accounts ∧
    (ownDeleteStep id s).1.ports = s.ports ∧
    (ownDeleteStep id s).1.answer = s.answer ∧
    (ownDeleteStep id s).1.pending = s.pending := by
  unfold ownDeleteStep
  dsimp only
  (repeat' split) <;> simp

@[simp] theorem cancelWaiting_frame (st : Step) (s : State) :
    (cancelWaiting st s).phase = s.phase ∧
    (cancelWaiting st s).pins = s.pins ∧
    (cancelWaiting st s).store = s.store ∧
    (cancelWaiting st s).converter = s.converter ∧
    (cancelWaiting st s).weigher = s.weigher ∧
    (cancelWaiting st s).dust = s.dust ∧
    (cancelWaiting st s).travel = s.travel ∧
    (cancelWaiting st s).governor = s.governor ∧
    (cancelWaiting st s).accounts = s.accounts ∧
    (cancelWaiting st s).ports = s.ports ∧
    (cancelWaiting st s).answer = s.answer ∧
    (cancelWaiting st s).pending = s.pending := by
  simp [cancelWaiting]

@[simp] theorem cancelActive_frame (st : Step) (s : State) :
    (cancelActive st s).phase = s.phase ∧
    (cancelActive st s).pins = s.pins ∧
    (cancelActive st s).store = s.store ∧
    (cancelActive st s).converter = s.converter ∧
    (cancelActive st s).weigher = s.weigher ∧
    (cancelActive st s).dust = s.dust ∧
    (cancelActive st s).ports = s.ports ∧
    (cancelActive st s).answer = s.answer ∧
    (cancelActive st s).pending = s.pending := by
  unfold cancelActive
  (repeat' split) <;> simp

@[simp] theorem ownCancelStep_frame (id : Nat) (s : State) :
    (ownCancelStep id s).1.phase = s.phase ∧
    (ownCancelStep id s).1.pins = s.pins ∧
    (ownCancelStep id s).1.store = s.store ∧
    (ownCancelStep id s).1.converter = s.converter ∧
    (ownCancelStep id s).1.weigher = s.weigher ∧
    (ownCancelStep id s).1.dust = s.dust ∧
    (ownCancelStep id s).1.ports = s.ports ∧
    (ownCancelStep id s).1.answer = s.answer ∧
    (ownCancelStep id s).1.pending = s.pending := by
  unfold ownCancelStep
  dsimp only
  (repeat' split) <;> simp

@[simp] theorem ownCloseStepShort_frame (id : Nat) (s : State) :
    (ownCloseStepShort id s).1.phase = s.phase ∧
    (ownCloseStepShort id s).1.pins = s.pins ∧
    (ownCloseStepShort id s).1.store = s.store ∧
    (ownCloseStepShort id s).1.converter = s.converter ∧
    (ownCloseStepShort id s).1.weigher = s.weigher ∧
    (ownCloseStepShort id s).1.dust = s.dust ∧
    (ownCloseStepShort id s).1.travel = s.travel ∧
    (ownCloseStepShort id s).1.governor = s.governor ∧
    (ownCloseStepShort id s).1.accounts = s.accounts ∧
    (ownCloseStepShort id s).1.ports = s.ports ∧
    (ownCloseStepShort id s).1.answer = s.answer ∧
    (ownCloseStepShort id s).1.pending = s.pending := by
  unfold ownCloseStepShort
  dsimp only
  (repeat' split) <;> simp

@[simp] theorem ownReleaseHold_frame (id : Nat) (s : State) :
    (ownReleaseHold id s).1.phase = s.phase ∧
    (ownReleaseHold id s).1.pins = s.pins ∧
    (ownReleaseHold id s).1.store = s.store ∧
    (ownReleaseHold id s).1.converter = s.converter ∧
    (ownReleaseHold id s).1.weigher = s.weigher ∧
    (ownReleaseHold id s).1.dust = s.dust ∧
    (ownReleaseHold id s).1.travel = s.travel ∧
    (ownReleaseHold id s).1.governor = s.governor ∧
    (ownReleaseHold id s).1.accounts = s.accounts ∧
    (ownReleaseHold id s).1.ports = s.ports ∧
    (ownReleaseHold id s).1.answer = s.answer ∧
    (ownReleaseHold id s).1.pending = s.pending := by
  unfold ownReleaseHold
  (repeat' split) <;> simp

@[simp] theorem writeEntry_frame (p : Page) (h : Hold) (e : Option Hatch) (s : State) :
    (writeEntry p h e s).phase = s.phase ∧
    (writeEntry p h e s).pins = s.pins ∧
    (writeEntry p h e s).store = s.store ∧
    (writeEntry p h e s).converter = s.converter ∧
    (writeEntry p h e s).weigher = s.weigher ∧
    (writeEntry p h e s).dust = s.dust ∧
    (writeEntry p h e s).plan = s.plan ∧
    (writeEntry p h e s).governor = s.governor ∧
    (writeEntry p h e s).accounts = s.accounts ∧
    (writeEntry p h e s).events = s.events ∧
    (writeEntry p h e s).ports = s.ports ∧
    (writeEntry p h e s).answer = s.answer ∧
    (writeEntry p h e s).pending = s.pending := by
  simp [writeEntry]

@[simp] theorem ownWriteHatchEntry_frame (page hold present fore aft : Nat) (lever : Int) (limit : Nat) (s : State) :
    (ownWriteHatchEntry page hold present fore aft lever limit s).1.phase = s.phase ∧
    (ownWriteHatchEntry page hold present fore aft lever limit s).1.pins = s.pins ∧
    (ownWriteHatchEntry page hold present fore aft lever limit s).1.store = s.store ∧
    (ownWriteHatchEntry page hold present fore aft lever limit s).1.converter = s.converter ∧
    (ownWriteHatchEntry page hold present fore aft lever limit s).1.weigher = s.weigher ∧
    (ownWriteHatchEntry page hold present fore aft lever limit s).1.dust = s.dust ∧
    (ownWriteHatchEntry page hold present fore aft lever limit s).1.plan = s.plan ∧
    (ownWriteHatchEntry page hold present fore aft lever limit s).1.governor = s.governor ∧
    (ownWriteHatchEntry page hold present fore aft lever limit s).1.accounts = s.accounts ∧
    (ownWriteHatchEntry page hold present fore aft lever limit s).1.events = s.events ∧
    (ownWriteHatchEntry page hold present fore aft lever limit s).1.ports = s.ports ∧
    (ownWriteHatchEntry page hold present fore aft lever limit s).1.answer = s.answer ∧
    (ownWriteHatchEntry page hold present fore aft lever limit s).1.pending = s.pending := by
  unfold ownWriteHatchEntry
  (repeat' split) <;> simp

@[simp] theorem ownRequestSwap_frame (s : State) :
    (ownRequestSwap s).1.phase = s.phase ∧
    (ownRequestSwap s).1.pins = s.pins ∧
    (ownRequestSwap s).1.store = s.store ∧
    (ownRequestSwap s).1.converter = s.converter ∧
    (ownRequestSwap s).1.weigher = s.weigher ∧
    (ownRequestSwap s).1.dust = s.dust ∧
    (ownRequestSwap s).1.plan = s.plan ∧
    (ownRequestSwap s).1.governor = s.governor ∧
    (ownRequestSwap s).1.ports = s.ports ∧
    (ownRequestSwap s).1.answer = s.answer ∧
    (ownRequestSwap s).1.pending = s.pending := by
  unfold ownRequestSwap
  dsimp only
  (repeat' split) <;> simp

@[simp] theorem ownCancelSwap_frame (s : State) :
    (ownCancelSwap s).1.phase = s.phase ∧
    (ownCancelSwap s).1.pins = s.pins ∧
    (ownCancelSwap s).1.store = s.store ∧
    (ownCancelSwap s).1.converter = s.converter ∧
    (ownCancelSwap s).1.weigher = s.weigher ∧
    (ownCancelSwap s).1.dust = s.dust ∧
    (ownCancelSwap s).1.plan = s.plan ∧
    (ownCancelSwap s).1.governor = s.governor ∧
    (ownCancelSwap s).1.accounts = s.accounts ∧
    (ownCancelSwap s).1.events = s.events ∧
    (ownCancelSwap s).1.ports = s.ports ∧
    (ownCancelSwap s).1.answer = s.answer ∧
    (ownCancelSwap s).1.pending = s.pending := by
  unfold ownCancelSwap
  (repeat' split) <;> simp

@[simp] theorem setLot_frame (i : Slot) (l : Lot) (s : State) :
    (setLot i l s).phase = s.phase ∧
    (setLot i l s).pins = s.pins ∧
    (setLot i l s).store = s.store ∧
    (setLot i l s).converter = s.converter ∧
    (setLot i l s).weigher = s.weigher ∧
    (setLot i l s).dust = s.dust ∧
    (setLot i l s).travel = s.travel ∧
    (setLot i l s).plan = s.plan ∧
    (setLot i l s).governor = s.governor ∧
    (setLot i l s).events = s.events ∧
    (setLot i l s).ports = s.ports ∧
    (setLot i l s).answer = s.answer ∧
    (setLot i l s).pending = s.pending := by
  simp [setLot]

@[simp] theorem ownOpenLot_frame (number grade length : Nat) (field : List Byte) (declared : Nat) (s : State) :
    (ownOpenLot number grade length field declared s).1.phase = s.phase ∧
    (ownOpenLot number grade length field declared s).1.pins = s.pins ∧
    (ownOpenLot number grade length field declared s).1.store = s.store ∧
    (ownOpenLot number grade length field declared s).1.converter = s.converter ∧
    (ownOpenLot number grade length field declared s).1.weigher = s.weigher ∧
    (ownOpenLot number grade length field declared s).1.dust = s.dust ∧
    (ownOpenLot number grade length field declared s).1.travel = s.travel ∧
    (ownOpenLot number grade length field declared s).1.plan = s.plan ∧
    (ownOpenLot number grade length field declared s).1.governor = s.governor ∧
    (ownOpenLot number grade length field declared s).1.events = s.events ∧
    (ownOpenLot number grade length field declared s).1.ports = s.ports ∧
    (ownOpenLot number grade length field declared s).1.answer = s.answer ∧
    (ownOpenLot number grade length field declared s).1.pending = s.pending := by
  unfold ownOpenLot
  dsimp only
  (repeat' split) <;> simp

@[simp] theorem issueBill_frame (number : Nat) (i : Slot) (b : Bill) (s : State) :
    (issueBill number i b s).phase = s.phase ∧
    (issueBill number i b s).pins = s.pins ∧
    (issueBill number i b s).store = s.store ∧
    (issueBill number i b s).converter = s.converter ∧
    (issueBill number i b s).dust = s.dust ∧
    (issueBill number i b s).travel = s.travel ∧
    (issueBill number i b s).plan = s.plan ∧
    (issueBill number i b s).governor = s.governor ∧
    (issueBill number i b s).ports = s.ports ∧
    (issueBill number i b s).answer = s.answer ∧
    (issueBill number i b s).pending = s.pending := by
  unfold issueBill
  dsimp only
  (repeat' split) <;> simp

@[simp] theorem ownCloseLot_frame (number : Nat) (s : State) :
    (ownCloseLot number s).1.phase = s.phase ∧
    (ownCloseLot number s).1.pins = s.pins ∧
    (ownCloseLot number s).1.store = s.store ∧
    (ownCloseLot number s).1.converter = s.converter ∧
    (ownCloseLot number s).1.dust = s.dust ∧
    (ownCloseLot number s).1.travel = s.travel ∧
    (ownCloseLot number s).1.plan = s.plan ∧
    (ownCloseLot number s).1.governor = s.governor ∧
    (ownCloseLot number s).1.ports = s.ports ∧
    (ownCloseLot number s).1.answer = s.answer ∧
    (ownCloseLot number s).1.pending = s.pending := by
  unfold ownCloseLot
  dsimp only
  (repeat' split) <;> simp

@[simp] theorem ownReleaseBill_frame (n : Nat) (s : State) :
    (ownReleaseBill n s).1.phase = s.phase ∧
    (ownReleaseBill n s).1.pins = s.pins ∧
    (ownReleaseBill n s).1.store = s.store ∧
    (ownReleaseBill n s).1.converter = s.converter ∧
    (ownReleaseBill n s).1.weigher = s.weigher ∧
    (ownReleaseBill n s).1.dust = s.dust ∧
    (ownReleaseBill n s).1.travel = s.travel ∧
    (ownReleaseBill n s).1.plan = s.plan ∧
    (ownReleaseBill n s).1.governor = s.governor ∧
    (ownReleaseBill n s).1.events = s.events ∧
    (ownReleaseBill n s).1.ports = s.ports ∧
    (ownReleaseBill n s).1.answer = s.answer ∧
    (ownReleaseBill n s).1.pending = s.pending := by
  unfold ownReleaseBill
  dsimp only
  (repeat' split) <;> simp

@[simp] theorem ownSetTime_frame (seconds : Nat) (s : State) :
    (ownSetTime seconds s).1.phase = s.phase ∧
    (ownSetTime seconds s).1.pins = s.pins ∧
    (ownSetTime seconds s).1.store = s.store ∧
    (ownSetTime seconds s).1.converter = s.converter ∧
    (ownSetTime seconds s).1.weigher = s.weigher ∧
    (ownSetTime seconds s).1.dust = s.dust ∧
    (ownSetTime seconds s).1.travel = s.travel ∧
    (ownSetTime seconds s).1.plan = s.plan ∧
    (ownSetTime seconds s).1.governor = s.governor ∧
    (ownSetTime seconds s).1.events = s.events ∧
    (ownSetTime seconds s).1.ports = s.ports ∧
    (ownSetTime seconds s).1.answer = s.answer ∧
    (ownSetTime seconds s).1.pending = s.pending := by
  simp [ownSetTime]

@[simp] theorem handOver_frame (r : Request) (st : Station) (b : List Byte) (s : State) :
    (handOver r st b s).1.phase = s.phase ∧
    (handOver r st b s).1.pins = s.pins ∧
    (handOver r st b s).1.ports = s.ports ∧
    (handOver r st b s).1.answer = s.answer ∧
    (handOver r st b s).1.pending = s.pending := by
  unfold handOver
  (repeat' split) <;> simp

@[simp] theorem setPort_frame (st : Station) (v : Port) (s : State) :
    (setPort st v s).phase = s.phase ∧
    (setPort st v s).pins = s.pins ∧
    (setPort st v s).store = s.store ∧
    (setPort st v s).converter = s.converter ∧
    (setPort st v s).weigher = s.weigher ∧
    (setPort st v s).dust = s.dust ∧
    (setPort st v s).travel = s.travel ∧
    (setPort st v s).plan = s.plan ∧
    (setPort st v s).governor = s.governor ∧
    (setPort st v s).accounts = s.accounts ∧
    (setPort st v s).events = s.events ∧
    (setPort st v s).answer = s.answer ∧
    (setPort st v s).pending = s.pending := by
  simp [setPort]

@[simp] theorem completeFrame_frame (st : Station) (frame : List Byte) (s : State) :
    (completeFrame st frame s).phase = s.phase ∧
    (completeFrame st frame s).pins = s.pins ∧
    (completeFrame st frame s).store = s.store ∧
    (completeFrame st frame s).converter = s.converter ∧
    (completeFrame st frame s).weigher = s.weigher ∧
    (completeFrame st frame s).dust = s.dust ∧
    (completeFrame st frame s).travel = s.travel ∧
    (completeFrame st frame s).plan = s.plan ∧
    (completeFrame st frame s).accounts = s.accounts ∧
    (completeFrame st frame s).events = s.events ∧
    (completeFrame st frame s).answer = s.answer ∧
    (completeFrame st frame s).pending = s.pending := by
  unfold completeFrame
  dsimp only
  (repeat' split) <;> simp

@[simp] theorem judgeHeader_frame (st : Station) (frame : List Byte) (s : State) :
    (judgeHeader st frame s).phase = s.phase ∧
    (judgeHeader st frame s).pins = s.pins ∧
    (judgeHeader st frame s).store = s.store ∧
    (judgeHeader st frame s).converter = s.converter ∧
    (judgeHeader st frame s).weigher = s.weigher ∧
    (judgeHeader st frame s).dust = s.dust ∧
    (judgeHeader st frame s).travel = s.travel ∧
    (judgeHeader st frame s).plan = s.plan ∧
    (judgeHeader st frame s).accounts = s.accounts ∧
    (judgeHeader st frame s).events = s.events ∧
    (judgeHeader st frame s).answer = s.answer ∧
    (judgeHeader st frame s).pending = s.pending := by
  unfold judgeHeader
  dsimp only
  (repeat' split) <;> simp

@[simp] theorem takeCharacter_frame (st : Station) (s : State) (b : Byte) :
    (takeCharacter st s b).phase = s.phase ∧
    (takeCharacter st s b).pins = s.pins ∧
    (takeCharacter st s b).store = s.store ∧
    (takeCharacter st s b).converter = s.converter ∧
    (takeCharacter st s b).weigher = s.weigher ∧
    (takeCharacter st s b).dust = s.dust ∧
    (takeCharacter st s b).travel = s.travel ∧
    (takeCharacter st s b).plan = s.plan ∧
    (takeCharacter st s b).accounts = s.accounts ∧
    (takeCharacter st s b).events = s.events ∧
    (takeCharacter st s b).answer = s.answer ∧
    (takeCharacter st s b).pending = s.pending := by
  unfold takeCharacter
  dsimp only
  (repeat' split) <;> simp

@[simp] theorem judgeEntry_frame (st : Station) (e : QueueEntry) (s : State) :
    (judgeEntry st e s).1.phase = s.phase ∧
    (judgeEntry st e s).1.pins = s.pins ∧
    (judgeEntry st e s).1.ports = s.ports ∧
    (judgeEntry st e s).1.answer = s.answer ∧
    (judgeEntry st e s).1.pending = s.pending := by
  unfold judgeEntry
  (repeat' split) <;> simp

@[simp] theorem sendReply_frame (st : Station) (e : QueueEntry) (a : Answer) (s : State) :
    (sendReply st e a s).phase = s.phase ∧
    (sendReply st e a s).pins = s.pins ∧
    (sendReply st e a s).store = s.store ∧
    (sendReply st e a s).converter = s.converter ∧
    (sendReply st e a s).weigher = s.weigher ∧
    (sendReply st e a s).dust = s.dust ∧
    (sendReply st e a s).travel = s.travel ∧
    (sendReply st e a s).plan = s.plan ∧
    (sendReply st e a s).governor = s.governor ∧
    (sendReply st e a s).accounts = s.accounts ∧
    (sendReply st e a s).events = s.events ∧
    (sendReply st e a s).answer = s.answer ∧
    (sendReply st e a s).pending = s.pending := by
  simp [sendReply]

@[simp] theorem setCalUnlock_frame (level : Bool) (s : State) :
    (setCalUnlock level s).phase = s.phase ∧
    (setCalUnlock level s).store = s.store ∧
    (setCalUnlock level s).converter = s.converter ∧
    (setCalUnlock level s).weigher = s.weigher ∧
    (setCalUnlock level s).dust = s.dust ∧
    (setCalUnlock level s).travel = s.travel ∧
    (setCalUnlock level s).plan = s.plan ∧
    (setCalUnlock level s).governor = s.governor ∧
    (setCalUnlock level s).accounts = s.accounts ∧
    (setCalUnlock level s).events = s.events ∧
    (setCalUnlock level s).ports = s.ports ∧
    (setCalUnlock level s).answer = s.answer ∧
    (setCalUnlock level s).pending = s.pending := by
  simp [setCalUnlock]

@[simp] theorem takeHead_frame (st : Station) (calUnlock : Bool) (s : State) :
    (takeHead st calUnlock s).phase = s.phase ∧
    (takeHead st calUnlock s).answer = s.answer ∧
    (takeHead st calUnlock s).pending = s.pending := by
  unfold takeHead
  dsimp only
  (repeat' split) <;> simp

@[simp] theorem coldStart_frame (s : State) :
    (coldStart s).pins = s.pins ∧
    (coldStart s).store = s.store ∧
    (coldStart s).plan = s.plan ∧
    (coldStart s).pending = s.pending := by
  simp [coldStart]

@[simp] theorem defaultSettings_frame (s : State) :
    (defaultSettings s).phase = s.phase ∧
    (defaultSettings s).pins = s.pins ∧
    (defaultSettings s).converter = s.converter ∧
    (defaultSettings s).dust = s.dust ∧
    (defaultSettings s).travel = s.travel ∧
    (defaultSettings s).plan = s.plan ∧
    (defaultSettings s).governor = s.governor ∧
    (defaultSettings s).accounts = s.accounts ∧
    (defaultSettings s).events = s.events ∧
    (defaultSettings s).ports = s.ports ∧
    (defaultSettings s).answer = s.answer ∧
    (defaultSettings s).pending = s.pending := by
  simp [defaultSettings]

@[simp] theorem checkSettings_frame (s : State) :
    (checkSettings s).phase = s.phase ∧
    (checkSettings s).pins = s.pins ∧
    (checkSettings s).converter = s.converter ∧
    (checkSettings s).dust = s.dust ∧
    (checkSettings s).travel = s.travel ∧
    (checkSettings s).plan = s.plan ∧
    (checkSettings s).governor = s.governor ∧
    (checkSettings s).accounts = s.accounts ∧
    (checkSettings s).ports = s.ports ∧
    (checkSettings s).answer = s.answer ∧
    (checkSettings s).pending = s.pending := by
  unfold checkSettings
  dsimp only
  (repeat' split) <;> simp

@[simp] theorem bookFirst_frame (n : Nat) (s : State) :
    (bookFirst n s).phase = s.phase ∧
    (bookFirst n s).pins = s.pins ∧
    (bookFirst n s).store = s.store ∧
    (bookFirst n s).converter = s.converter ∧
    (bookFirst n s).weigher = s.weigher ∧
    (bookFirst n s).dust = s.dust ∧
    (bookFirst n s).travel = s.travel ∧
    (bookFirst n s).plan = s.plan ∧
    (bookFirst n s).governor = s.governor ∧
    (bookFirst n s).events = s.events ∧
    (bookFirst n s).ports = s.ports ∧
    (bookFirst n s).answer = s.answer ∧
    (bookFirst n s).pending = s.pending := by
  simp [bookFirst]

@[simp] theorem bookLoss_frame (s : State) :
    (bookLoss s).phase = s.phase ∧
    (bookLoss s).pins = s.pins ∧
    (bookLoss s).store = s.store ∧
    (bookLoss s).converter = s.converter ∧
    (bookLoss s).weigher = s.weigher ∧
    (bookLoss s).dust = s.dust ∧
    (bookLoss s).travel = s.travel ∧
    (bookLoss s).plan = s.plan ∧
    (bookLoss s).governor = s.governor ∧
    (bookLoss s).events = s.events ∧
    (bookLoss s).ports = s.ports ∧
    (bookLoss s).answer = s.answer ∧
    (bookLoss s).pending = s.pending := by
  simp [bookLoss]

@[simp] theorem holdForPower_frame (s : State) :
    (holdForPower s).phase = s.phase ∧
    (holdForPower s).pins = s.pins ∧
    (holdForPower s).store = s.store ∧
    (holdForPower s).converter = s.converter ∧
    (holdForPower s).weigher = s.weigher ∧
    (holdForPower s).dust = s.dust ∧
    (holdForPower s).governor = s.governor ∧
    (holdForPower s).ports = s.ports ∧
    (holdForPower s).answer = s.answer ∧
    (holdForPower s).pending = s.pending := by
  unfold holdForPower
  (repeat' split) <;> simp

@[simp] theorem startConverter_frame (s : State) :
    (startConverter s).phase = s.phase ∧
    (startConverter s).pins = s.pins ∧
    (startConverter s).store = s.store ∧
    (startConverter s).dust = s.dust ∧
    (startConverter s).travel = s.travel ∧
    (startConverter s).plan = s.plan ∧
    (startConverter s).governor = s.governor ∧
    (startConverter s).accounts = s.accounts ∧
    (startConverter s).events = s.events ∧
    (startConverter s).ports = s.ports ∧
    (startConverter s).answer = s.answer ∧
    (startConverter s).pending = s.pending := by
  unfold startConverter
  (repeat' split) <;> simp

@[simp] theorem readEstop_frame (s : State) :
    (readEstop s).phase = s.phase ∧
    (readEstop s).pins = s.pins ∧
    (readEstop s).store = s.store ∧
    (readEstop s).converter = s.converter ∧
    (readEstop s).weigher = s.weigher ∧
    (readEstop s).dust = s.dust ∧
    (readEstop s).plan = s.plan ∧
    (readEstop s).accounts = s.accounts ∧
    (readEstop s).ports = s.ports ∧
    (readEstop s).answer = s.answer ∧
    (readEstop s).pending = s.pending := by
  unfold readEstop
  (repeat' split) <;> simp

@[simp] theorem startClocks_frame (s : State) :
    (startClocks s).pins = s.pins ∧
    (startClocks s).store = s.store ∧
    (startClocks s).converter = s.converter ∧
    (startClocks s).weigher = s.weigher ∧
    (startClocks s).dust = s.dust ∧
    (startClocks s).travel = s.travel ∧
    (startClocks s).plan = s.plan ∧
    (startClocks s).events = s.events ∧
    (startClocks s).ports = s.ports ∧
    (startClocks s).answer = s.answer ∧
    (startClocks s).pending = s.pending := by
  simp [startClocks]

@[simp] theorem completeRecovery_frame (s : State) :
    (completeRecovery s).pins = s.pins ∧
    (completeRecovery s).store = s.store ∧
    (completeRecovery s).dust = s.dust ∧
    (completeRecovery s).plan = s.plan ∧
    (completeRecovery s).ports = s.ports ∧
    (completeRecovery s).answer = s.answer ∧
    (completeRecovery s).pending = s.pending := by
  simp [completeRecovery]

@[simp] theorem recoveredTo_frame (p : RecoveryPoint) (s : State) :
    (recoveredTo p s).phase = s.phase ∧
    (recoveredTo p s).pins = s.pins ∧
    (recoveredTo p s).converter = s.converter ∧
    (recoveredTo p s).dust = s.dust ∧
    (recoveredTo p s).ports = s.ports ∧
    (recoveredTo p s).answer = s.answer ∧
    (recoveredTo p s).pending = s.pending := by
  cases p <;> simp [recoveredTo]

/-- What RESET_N's assertion keeps (R174). -/
@[simp] theorem resetAsserts_frame (s : State) :
    (resetAsserts s).phase = .cold ∧
    (resetAsserts s).store = s.store ∧
    (resetAsserts s).plan = s.plan ∧
    (resetAsserts s).pending = s.pending := by
  simp [resetAsserts, coldStart]

/-- What a recovery abandoned at a point keeps (R174). -/
@[simp] theorem abandonRecovery_frame (p : RecoveryPoint) (s : State) :
    (abandonRecovery p s).phase = .cold ∧
    (abandonRecovery p s).store = (recoveredTo p s).store ∧
    (abandonRecovery p s).plan = (recoveredTo p s).plan ∧
    (abandonRecovery p s).pending = s.pending := by
  simp [abandonRecovery]

@[simp] theorem recover_frame (s : State) :
    (recover s).dust = s.dust ∧
    (recover s).ports = s.ports ∧
    (recover s).answer = s.answer ∧
    (recover s).pending = s.pending := by
  simp [recover]

@[simp] theorem calibrationRequest_frame (z sp b : Nat) (calUnlock : Bool) (s : State) :
    (calibrationRequest z sp b calUnlock s).1.phase = s.phase ∧
    (calibrationRequest z sp b calUnlock s).1.converter = s.converter ∧
    (calibrationRequest z sp b calUnlock s).1.dust = s.dust ∧
    (calibrationRequest z sp b calUnlock s).1.travel = s.travel ∧
    (calibrationRequest z sp b calUnlock s).1.plan = s.plan ∧
    (calibrationRequest z sp b calUnlock s).1.governor = s.governor ∧
    (calibrationRequest z sp b calUnlock s).1.accounts = s.accounts ∧
    (calibrationRequest z sp b calUnlock s).1.events = s.events ∧
    (calibrationRequest z sp b calUnlock s).1.ports = s.ports ∧
    (calibrationRequest z sp b calUnlock s).1.answer = s.answer ∧
    (calibrationRequest z sp b calUnlock s).1.pending = s.pending := by
  unfold calibrationRequest
  (repeat' split) <;> simp

@[simp] theorem conversionEnds_frame (code : Code) (s : State) :
    (conversionEnds code s).phase = s.phase ∧
    (conversionEnds code s).pins = s.pins ∧
    (conversionEnds code s).store = s.store ∧
    (conversionEnds code s).weigher = s.weigher ∧
    (conversionEnds code s).dust = s.dust ∧
    (conversionEnds code s).travel = s.travel ∧
    (conversionEnds code s).plan = s.plan ∧
    (conversionEnds code s).governor = s.governor ∧
    (conversionEnds code s).accounts = s.accounts ∧
    (conversionEnds code s).events = s.events ∧
    (conversionEnds code s).ports = s.ports ∧
    (conversionEnds code s).answer = s.answer ∧
    (conversionEnds code s).pending = s.pending := by
  unfold conversionEnds
  (repeat' split) <;> simp

@[simp] theorem setRefOk_frame (level : Bool) (s : State) :
    (setRefOk level s).phase = s.phase ∧
    (setRefOk level s).store = s.store ∧
    (setRefOk level s).converter = s.converter ∧
    (setRefOk level s).weigher = s.weigher ∧
    (setRefOk level s).dust = s.dust ∧
    (setRefOk level s).travel = s.travel ∧
    (setRefOk level s).plan = s.plan ∧
    (setRefOk level s).governor = s.governor ∧
    (setRefOk level s).accounts = s.accounts ∧
    (setRefOk level s).events = s.events ∧
    (setRefOk level s).ports = s.ports ∧
    (setRefOk level s).answer = s.answer ∧
    (setRefOk level s).pending = s.pending := by
  simp [setRefOk]

@[simp] theorem referenceFalls_frame (s : State) :
    (referenceFalls s).phase = s.phase ∧
    (referenceFalls s).pins = s.pins ∧
    (referenceFalls s).store = s.store ∧
    (referenceFalls s).weigher = s.weigher ∧
    (referenceFalls s).dust = s.dust ∧
    (referenceFalls s).travel = s.travel ∧
    (referenceFalls s).plan = s.plan ∧
    (referenceFalls s).governor = s.governor ∧
    (referenceFalls s).accounts = s.accounts ∧
    (referenceFalls s).events = s.events ∧
    (referenceFalls s).ports = s.ports ∧
    (referenceFalls s).answer = s.answer ∧
    (referenceFalls s).pending = s.pending := by
  unfold referenceFalls
  (repeat' split) <;> simp

@[simp] theorem referenceRises_frame (s : State) :
    (referenceRises s).phase = s.phase ∧
    (referenceRises s).pins = s.pins ∧
    (referenceRises s).store = s.store ∧
    (referenceRises s).weigher = s.weigher ∧
    (referenceRises s).dust = s.dust ∧
    (referenceRises s).travel = s.travel ∧
    (referenceRises s).plan = s.plan ∧
    (referenceRises s).governor = s.governor ∧
    (referenceRises s).accounts = s.accounts ∧
    (referenceRises s).events = s.events ∧
    (referenceRises s).ports = s.ports ∧
    (referenceRises s).answer = s.answer ∧
    (referenceRises s).pending = s.pending := by
  unfold referenceRises
  (repeat' split) <;> simp

@[simp] theorem takeWGroup_frame (s : State) :
    (takeWGroup s).phase = s.phase ∧
    (takeWGroup s).pins = s.pins ∧
    (takeWGroup s).store = s.store ∧
    (takeWGroup s).dust = s.dust ∧
    (takeWGroup s).travel = s.travel ∧
    (takeWGroup s).plan = s.plan ∧
    (takeWGroup s).governor = s.governor ∧
    (takeWGroup s).events = s.events ∧
    (takeWGroup s).ports = s.ports ∧
    (takeWGroup s).answer = s.answer ∧
    (takeWGroup s).pending = s.pending := by
  unfold takeWGroup
  (repeat' split) <;> simp

@[simp] theorem takeDGroup_frame (s : State) :
    (takeDGroup s).phase = s.phase ∧
    (takeDGroup s).pins = s.pins ∧
    (takeDGroup s).store = s.store ∧
    (takeDGroup s).weigher = s.weigher ∧
    (takeDGroup s).travel = s.travel ∧
    (takeDGroup s).plan = s.plan ∧
    (takeDGroup s).accounts = s.accounts ∧
    (takeDGroup s).ports = s.ports ∧
    (takeDGroup s).answer = s.answer ∧
    (takeDGroup s).pending = s.pending := by
  unfold takeDGroup
  (repeat' split) <;> simp

@[simp] theorem weigherLosesReference_frame (s : State) :
    (weigherLosesReference s).phase = s.phase ∧
    (weigherLosesReference s).pins = s.pins ∧
    (weigherLosesReference s).store = s.store ∧
    (weigherLosesReference s).converter = s.converter ∧
    (weigherLosesReference s).dust = s.dust ∧
    (weigherLosesReference s).travel = s.travel ∧
    (weigherLosesReference s).plan = s.plan ∧
    (weigherLosesReference s).governor = s.governor ∧
    (weigherLosesReference s).accounts = s.accounts ∧
    (weigherLosesReference s).events = s.events ∧
    (weigherLosesReference s).ports = s.ports ∧
    (weigherLosesReference s).answer = s.answer ∧
    (weigherLosesReference s).pending = s.pending := by
  simp [weigherLosesReference]

@[simp] theorem monitorLosesReference_frame (s : State) :
    (monitorLosesReference s).phase = s.phase ∧
    (monitorLosesReference s).pins = s.pins ∧
    (monitorLosesReference s).store = s.store ∧
    (monitorLosesReference s).converter = s.converter ∧
    (monitorLosesReference s).weigher = s.weigher ∧
    (monitorLosesReference s).travel = s.travel ∧
    (monitorLosesReference s).plan = s.plan ∧
    (monitorLosesReference s).governor = s.governor ∧
    (monitorLosesReference s).accounts = s.accounts ∧
    (monitorLosesReference s).events = s.events ∧
    (monitorLosesReference s).ports = s.ports ∧
    (monitorLosesReference s).answer = s.answer ∧
    (monitorLosesReference s).pending = s.pending := by
  simp [monitorLosesReference]

@[simp] theorem monitorRegainsReference_frame (s : State) :
    (monitorRegainsReference s).phase = s.phase ∧
    (monitorRegainsReference s).pins = s.pins ∧
    (monitorRegainsReference s).store = s.store ∧
    (monitorRegainsReference s).converter = s.converter ∧
    (monitorRegainsReference s).weigher = s.weigher ∧
    (monitorRegainsReference s).travel = s.travel ∧
    (monitorRegainsReference s).plan = s.plan ∧
    (monitorRegainsReference s).governor = s.governor ∧
    (monitorRegainsReference s).accounts = s.accounts ∧
    (monitorRegainsReference s).events = s.events ∧
    (monitorRegainsReference s).ports = s.ports ∧
    (monitorRegainsReference s).answer = s.answer ∧
    (monitorRegainsReference s).pending = s.pending := by
  simp [monitorRegainsReference]

@[simp] theorem takeFaultNotice_frame (c : Consumer) (s : State) :
    (takeFaultNotice c s).phase = s.phase ∧
    (takeFaultNotice c s).pins = s.pins ∧
    (takeFaultNotice c s).store = s.store ∧
    (takeFaultNotice c s).travel = s.travel ∧
    (takeFaultNotice c s).plan = s.plan ∧
    (takeFaultNotice c s).governor = s.governor ∧
    (takeFaultNotice c s).accounts = s.accounts ∧
    (takeFaultNotice c s).events = s.events ∧
    (takeFaultNotice c s).ports = s.ports ∧
    (takeFaultNotice c s).answer = s.answer ∧
    (takeFaultNotice c s).pending = s.pending := by
  unfold takeFaultNotice
  (repeat' split) <;> simp

@[simp] theorem takeGoodNotice_frame (c : Consumer) (s : State) :
    (takeGoodNotice c s).phase = s.phase ∧
    (takeGoodNotice c s).pins = s.pins ∧
    (takeGoodNotice c s).store = s.store ∧
    (takeGoodNotice c s).weigher = s.weigher ∧
    (takeGoodNotice c s).travel = s.travel ∧
    (takeGoodNotice c s).plan = s.plan ∧
    (takeGoodNotice c s).governor = s.governor ∧
    (takeGoodNotice c s).accounts = s.accounts ∧
    (takeGoodNotice c s).events = s.events ∧
    (takeGoodNotice c s).ports = s.ports ∧
    (takeGoodNotice c s).answer = s.answer ∧
    (takeGoodNotice c s).pending = s.pending := by
  unfold takeGoodNotice
  (repeat' split) <;> simp

@[simp] theorem countEncoder_frame (d : Direction) (s : State) :
    (countEncoder d s).phase = s.phase ∧
    (countEncoder d s).pins = s.pins ∧
    (countEncoder d s).store = s.store ∧
    (countEncoder d s).converter = s.converter ∧
    (countEncoder d s).weigher = s.weigher ∧
    (countEncoder d s).dust = s.dust ∧
    (countEncoder d s).ports = s.ports ∧
    (countEncoder d s).answer = s.answer ∧
    (countEncoder d s).pending = s.pending := by
  unfold countEncoder
  dsimp only
  (repeat' split) <;> simp

@[simp] theorem speedPeriodEnds_frame (s : State) :
    (speedPeriodEnds s).phase = s.phase ∧
    (speedPeriodEnds s).pins = s.pins ∧
    (speedPeriodEnds s).store = s.store ∧
    (speedPeriodEnds s).converter = s.converter ∧
    (speedPeriodEnds s).weigher = s.weigher ∧
    (speedPeriodEnds s).dust = s.dust ∧
    (speedPeriodEnds s).plan = s.plan ∧
    (speedPeriodEnds s).governor = s.governor ∧
    (speedPeriodEnds s).ports = s.ports ∧
    (speedPeriodEnds s).answer = s.answer ∧
    (speedPeriodEnds s).pending = s.pending := by
  unfold speedPeriodEnds
  dsimp only
  (repeat' split) <;> simp

@[simp] theorem setHome_frame (level : Bool) (s : State) :
    (setHome level s).phase = s.phase ∧
    (setHome level s).store = s.store ∧
    (setHome level s).converter = s.converter ∧
    (setHome level s).weigher = s.weigher ∧
    (setHome level s).dust = s.dust ∧
    (setHome level s).travel = s.travel ∧
    (setHome level s).plan = s.plan ∧
    (setHome level s).governor = s.governor ∧
    (setHome level s).accounts = s.accounts ∧
    (setHome level s).events = s.events ∧
    (setHome level s).ports = s.ports ∧
    (setHome level s).answer = s.answer ∧
    (setHome level s).pending = s.pending := by
  simp [setHome]

@[simp] theorem homeCloses_frame (closed : Bool) (s : State) :
    (homeCloses closed s).phase = s.phase ∧
    (homeCloses closed s).pins = s.pins ∧
    (homeCloses closed s).store = s.store ∧
    (homeCloses closed s).converter = s.converter ∧
    (homeCloses closed s).weigher = s.weigher ∧
    (homeCloses closed s).dust = s.dust ∧
    (homeCloses closed s).plan = s.plan ∧
    (homeCloses closed s).governor = s.governor ∧
    (homeCloses closed s).ports = s.ports ∧
    (homeCloses closed s).answer = s.answer ∧
    (homeCloses closed s).pending = s.pending := by
  unfold homeCloses
  (repeat' split) <;> simp

@[simp] theorem setLimit_frame (d : Direction) (level : Bool) (s : State) :
    (setLimit d level s).phase = s.phase ∧
    (setLimit d level s).store = s.store ∧
    (setLimit d level s).converter = s.converter ∧
    (setLimit d level s).weigher = s.weigher ∧
    (setLimit d level s).dust = s.dust ∧
    (setLimit d level s).travel = s.travel ∧
    (setLimit d level s).plan = s.plan ∧
    (setLimit d level s).governor = s.governor ∧
    (setLimit d level s).accounts = s.accounts ∧
    (setLimit d level s).events = s.events ∧
    (setLimit d level s).ports = s.ports ∧
    (setLimit d level s).answer = s.answer ∧
    (setLimit d level s).pending = s.pending := by
  unfold setLimit
  (repeat' split) <;> simp

@[simp] theorem limitAsserts_frame (d : Direction) (level : Bool) (s : State) :
    (limitAsserts d level s).phase = s.phase ∧
    (limitAsserts d level s).pins = s.pins ∧
    (limitAsserts d level s).store = s.store ∧
    (limitAsserts d level s).converter = s.converter ∧
    (limitAsserts d level s).weigher = s.weigher ∧
    (limitAsserts d level s).dust = s.dust ∧
    (limitAsserts d level s).plan = s.plan ∧
    (limitAsserts d level s).governor = s.governor ∧
    (limitAsserts d level s).ports = s.ports ∧
    (limitAsserts d level s).answer = s.answer ∧
    (limitAsserts d level s).pending = s.pending := by
  unfold limitAsserts
  (repeat' split) <;> simp

@[simp] theorem setEstop_frame (level : Bool) (s : State) :
    (setEstop level s).phase = s.phase ∧
    (setEstop level s).store = s.store ∧
    (setEstop level s).converter = s.converter ∧
    (setEstop level s).weigher = s.weigher ∧
    (setEstop level s).dust = s.dust ∧
    (setEstop level s).travel = s.travel ∧
    (setEstop level s).plan = s.plan ∧
    (setEstop level s).governor = s.governor ∧
    (setEstop level s).accounts = s.accounts ∧
    (setEstop level s).events = s.events ∧
    (setEstop level s).ports = s.ports ∧
    (setEstop level s).answer = s.answer ∧
    (setEstop level s).pending = s.pending := by
  simp [setEstop]

@[simp] theorem estopAsserts_frame (s : State) :
    (estopAsserts s).phase = s.phase ∧
    (estopAsserts s).pins = s.pins ∧
    (estopAsserts s).store = s.store ∧
    (estopAsserts s).converter = s.converter ∧
    (estopAsserts s).weigher = s.weigher ∧
    (estopAsserts s).dust = s.dust ∧
    (estopAsserts s).plan = s.plan ∧
    (estopAsserts s).ports = s.ports ∧
    (estopAsserts s).answer = s.answer ∧
    (estopAsserts s).pending = s.pending := by
  simp [estopAsserts]

@[simp] theorem estopReleases_frame (s : State) :
    (estopReleases s).phase = s.phase ∧
    (estopReleases s).pins = s.pins ∧
    (estopReleases s).store = s.store ∧
    (estopReleases s).converter = s.converter ∧
    (estopReleases s).weigher = s.weigher ∧
    (estopReleases s).dust = s.dust ∧
    (estopReleases s).travel = s.travel ∧
    (estopReleases s).plan = s.plan ∧
    (estopReleases s).accounts = s.accounts ∧
    (estopReleases s).ports = s.ports ∧
    (estopReleases s).answer = s.answer ∧
    (estopReleases s).pending = s.pending := by
  simp [estopReleases]

@[simp] theorem setBeltRun_frame (level : Bool) (s : State) :
    (setBeltRun level s).phase = s.phase ∧
    (setBeltRun level s).store = s.store ∧
    (setBeltRun level s).converter = s.converter ∧
    (setBeltRun level s).weigher = s.weigher ∧
    (setBeltRun level s).dust = s.dust ∧
    (setBeltRun level s).travel = s.travel ∧
    (setBeltRun level s).plan = s.plan ∧
    (setBeltRun level s).governor = s.governor ∧
    (setBeltRun level s).accounts = s.accounts ∧
    (setBeltRun level s).events = s.events ∧
    (setBeltRun level s).ports = s.ports ∧
    (setBeltRun level s).answer = s.answer ∧
    (setBeltRun level s).pending = s.pending := by
  simp [setBeltRun]

@[simp] theorem rampLevel_frame (s : State) :
    (rampLevel s).phase = s.phase ∧
    (rampLevel s).pins = s.pins ∧
    (rampLevel s).store = s.store ∧
    (rampLevel s).converter = s.converter ∧
    (rampLevel s).weigher = s.weigher ∧
    (rampLevel s).dust = s.dust ∧
    (rampLevel s).travel = s.travel ∧
    (rampLevel s).plan = s.plan ∧
    (rampLevel s).accounts = s.accounts ∧
    (rampLevel s).events = s.events ∧
    (rampLevel s).ports = s.ports ∧
    (rampLevel s).answer = s.answer ∧
    (rampLevel s).pending = s.pending := by
  unfold rampLevel
  dsimp only
  (repeat' split) <;> simp

@[simp] theorem restartPeriod_frame (s : State) :
    (restartPeriod s).phase = s.phase ∧
    (restartPeriod s).pins = s.pins ∧
    (restartPeriod s).store = s.store ∧
    (restartPeriod s).converter = s.converter ∧
    (restartPeriod s).weigher = s.weigher ∧
    (restartPeriod s).dust = s.dust ∧
    (restartPeriod s).travel = s.travel ∧
    (restartPeriod s).plan = s.plan ∧
    (restartPeriod s).accounts = s.accounts ∧
    (restartPeriod s).events = s.events ∧
    (restartPeriod s).ports = s.ports ∧
    (restartPeriod s).answer = s.answer ∧
    (restartPeriod s).pending = s.pending := by
  simp [restartPeriod]

@[simp] theorem feedPeriodEnds_frame (s : State) :
    (feedPeriodEnds s).phase = s.phase ∧
    (feedPeriodEnds s).pins = s.pins ∧
    (feedPeriodEnds s).store = s.store ∧
    (feedPeriodEnds s).converter = s.converter ∧
    (feedPeriodEnds s).weigher = s.weigher ∧
    (feedPeriodEnds s).dust = s.dust ∧
    (feedPeriodEnds s).travel = s.travel ∧
    (feedPeriodEnds s).plan = s.plan ∧
    (feedPeriodEnds s).accounts = s.accounts ∧
    (feedPeriodEnds s).events = s.events ∧
    (feedPeriodEnds s).ports = s.ports ∧
    (feedPeriodEnds s).answer = s.answer ∧
    (feedPeriodEnds s).pending = s.pending := by
  simp [feedPeriodEnds]

@[simp] theorem tick_frame (s : State) :
    (tick s).phase = s.phase ∧
    (tick s).pins = s.pins ∧
    (tick s).store = s.store ∧
    (tick s).converter = s.converter ∧
    (tick s).weigher = s.weigher ∧
    (tick s).plan = s.plan ∧
    (tick s).events = s.events ∧
    (tick s).ports = s.ports ∧
    (tick s).answer = s.answer ∧
    (tick s).pending = s.pending := by
  unfold tick
  (repeat' split) <;> simp

end Sys2Proof.Machine
end

