-- ==== Sys2Proof/Laws/State.lean ====
section
/-! SUPPORT. The small lemmas of the state's updates: reading back what was written, and the neighbours left as they were. -/

namespace Sys2Proof.Machine

open Sys2Proof

/-! ### Vectors read and written by `Fin` -/

@[simp] theorem get_set_self {α : Type} {n : Nat} (v : Vector α n) (i : Fin n) (x : α) : (v.set i x).get i = x := by
  simp [Vector.get_eq_getElem]

theorem get_set_ne {α : Type} {n : Nat} (v : Vector α n) (i j : Fin n) (x : α) (h : j ≠ i) :
    (v.set i x).get j = v.get j := by
  have hne : i.val ≠ j.val := fun e => h (Fin.ext e.symm)
  simp [Vector.get_eq_getElem, hne]

theorem get_set {α : Type} {n : Nat} (v : Vector α n) (i j : Fin n) (x : α) :
    (v.set i x).get j = if j = i then x else v.get j := by
  by_cases h : j = i
  · subst h; simp
  · rw [get_set_ne v i j x h, if_neg h]

@[simp] theorem get_replicate {α : Type} {n : Nat} (x : α) (i : Fin n) : (Vector.replicate n x).get i = x := by
  simp [Vector.get_eq_getElem]

/-! ### Ports and event sets -/

@[simp] theorem Ports.get_set_self (x : Ports) (v : Port) (st : Station) : (x.set v st).get st = v := by
  cases st <;> rfl

theorem Ports.get_set_ne (x : Ports) (v : Port) (st st' : Station) (h : st' ≠ st) : (x.set v st).get st' = x.get st' := by
  cases st <;> cases st' <;> simp_all [Ports.get, Ports.set]

@[simp] theorem Events.get_set_self (x : Events) (v : EventSet) (st : Station) : (x.set v st).get st = v := by
  cases st <;> rfl

theorem Events.get_set_ne (x : Events) (v : EventSet) (st st' : Station) (h : st' ≠ st) :
    (x.set v st).get st' = x.get st' := by
  cases st <;> cases st' <;> simp_all [Events.get, Events.set]

@[simp] theorem setPort_get_self (st : Station) (v : Port) (s : State) : (setPort st v s).ports.get st = v := by
  simp [setPort]

theorem setPort_get_ne (st st' : Station) (v : Port) (s : State) (h : st' ≠ st) :
    (setPort st v s).ports.get st' = s.ports.get st' := by
  simp [setPort, Ports.get_set_ne _ _ _ _ h]

/-! ### Ledgers -/

@[simp] theorem Accounts.ledger_setLedger_self (a : Accounts) (l : Ledger) (acc : Account) :
    (a.setLedger l acc).ledger acc = l := by
  cases acc <;> simp [Accounts.setLedger, Accounts.ledger]

theorem Accounts.ledger_setLedger_ne (a : Accounts) (l : Ledger) (acc acc' : Account) (h : acc' ≠ acc) :
    (a.setLedger l acc).ledger acc' = a.ledger acc' := by
  cases acc with
  | unassigned => cases acc' <;> simp_all [Accounts.setLedger, Accounts.ledger]
  | lot i =>
    cases acc' with
    | unassigned => simp [Accounts.setLedger, Accounts.ledger]
    | lot j =>
      have hij : j ≠ i := fun e => h (by rw [e])
      simp [Accounts.setLedger, Accounts.ledger, get_set_ne _ _ _ _ hij]

@[simp] theorem Accounts.setLedger_frame (a : Accounts) (l : Ledger) (acc : Account) :
    (a.setLedger l acc).credited = a.credited ∧ (a.setLedger l acc).moment = a.moment ∧
    (a.setLedger l acc).bills = a.bills ∧ (a.setLedger l acc).billCounter = a.billCounter ∧
    (a.setLedger l acc).seconds = a.seconds ∧ (a.setLedger l acc).timeValid = a.timeValid ∧
    (a.setLedger l acc).second = a.second := by
  cases acc <;> simp [Accounts.setLedger]

@[simp] theorem Accounts.isOpen_setLedger (a : Accounts) (l : Ledger) (acc : Account) (i : Slot) :
    ((a.setLedger l acc).lots.get i).isOpen = (a.lots.get i).isOpen := by
  cases acc with
  | unassigned => rfl
  | lot j =>
    simp only [Accounts.setLedger, get_set]
    split <;> simp_all

@[simp] theorem updateLedger_ledger_self (acc : Account) (f : Ledger → Ledger) (s : State) :
    (updateLedger acc f s).accounts.ledger acc = f (s.accounts.ledger acc) := by
  simp [updateLedger]

theorem updateLedger_ledger_ne (acc acc' : Account) (f : Ledger → Ledger) (s : State) (h : acc' ≠ acc) :
    (updateLedger acc f s).accounts.ledger acc' = s.accounts.ledger acc' := by
  simp [updateLedger, Accounts.ledger_setLedger_ne _ _ _ _ h]

/-! ### Channels -/

@[simp] theorem setChannel_get_self (c : ChannelNo) (ch : Channel) (s : State) :
    (setChannel c ch s).dust.channels.get c = ch := by
  simp [setChannel]

theorem setChannel_get_ne (c d : ChannelNo) (ch : Channel) (s : State) (h : d ≠ c) :
    (setChannel c ch s).dust.channels.get d = s.dust.channels.get d := by
  simp [setChannel, get_set_ne _ _ _ _ h]

@[simp] theorem setChannel_dust (c : ChannelNo) (ch : Channel) (s : State) :
    (setChannel c ch s).dust.stage = s.dust.stage ∧ (setChannel c ch s).dust.tripLatch = s.dust.tripLatch ∧
    (setChannel c ch s).dust.highHold = s.dust.highHold ∧ (setChannel c ch s).dust.reference = s.dust.reference ∧
    (setChannel c ch s).dust.referenceTimer = s.dust.referenceTimer ∧
    (setChannel c ch s).dust.suppress = s.dust.suppress := by
  simp [setChannel]

/-! ### The pause set -/

@[simp] theorem PauseSet.has_add_self (p : PauseSet) (r : PauseReason) : (p.add r).has r = true := by cases r <;> rfl

theorem PauseSet.has_add_ne (p : PauseSet) (r q : PauseReason) (h : q ≠ r) : (p.add r).has q = p.has q := by
  cases r <;> cases q <;> simp_all [PauseSet.add, PauseSet.has]

@[simp] theorem PauseSet.has_empty (r : PauseReason) : PauseSet.empty.has r = false := by cases r <;> rfl

/-! ### The carriage at rest -/

@[simp] theorem Travel.atRest_fields (t : Travel) :
    t.atRest.direction = none ∧ t.atRest.brakeRelease = false ∧ t.atRest.dutyStaged = 0 ∧
    t.atRest.pages = t.pages ∧ t.atRest.activePage = t.activePage ∧ t.atRest.swapPending = t.swapPending ∧
    t.atRest.position = t.position ∧ t.atRest.referenced = t.referenced ∧ t.atRest.spoutOver = t.spoutOver ∧
    t.atRest.state = t.state ∧ t.atRest.diverter = t.diverter := by
  simp [Travel.atRest]

/-! ### The feed gate -/

@[simp] theorem setLevel_governor (level : Nat) (s : State) :
    (setLevel level s).governor.level = level ∧ (setLevel level s).governor.dutyStaged = (level * 255 + 50) / 100 ∧
    (setLevel level s).governor.state = s.governor.state ∧ (setLevel level s).governor.ceiling = s.governor.ceiling ∧
    (setLevel level s).governor.feedPermit = s.governor.feedPermit := by
  simp [setLevel, duty]

@[simp] theorem shutGate_governor (s : State) :
    (shutGate s).governor.level = 0 ∧ (shutGate s).governor.dutyStaged = 0 ∧
    (shutGate s).governor.feedPermit = false ∧ (shutGate s).governor.state = s.governor.state ∧
    (shutGate s).governor.ceiling = s.governor.ceiling := by
  simp [shutGate]

end Sys2Proof.Machine
end

