-- ==== Sys2Proof/Laws/Events.lean ====
section
/-! SUPPORT. Pending sets: what entering an event keeps (R169), and, operation by operation, that the sets stay in order with ATTN after them (R171). -/

namespace Sys2Proof.Machine

open Sys2Proof

theorem mem_enterEvent_kind {e : Event} {l : List PendingEvent} {p : PendingEvent} (h : p ∈ enterEvent e l) :
    p.event.kind = e.kind ∨ p ∈ l := by
  induction l with
  | nil => simp [enterEvent] at h; subst h; simp
  | cons q qs ih =>
    simp only [enterEvent] at h
    split at h
    · simp at h; rcases h with rfl | h
      · simp
      · simp [h]
    · split at h
      · simp at h; rcases h with rfl | h | h
        · simp
        · simp [h]
        · simp [h]
      · simp at h; rcases h with h | h
        · simp [h]
        · rcases ih h with h | h
          · exact .inl h
          · simp [h]

theorem enterEvent_pairwise {e : Event} {l : List PendingEvent} (h : l.Pairwise (fun p q => p.event.kind < q.event.kind)) :
    (enterEvent e l).Pairwise (fun p q => p.event.kind < q.event.kind) := by
  induction l with
  | nil => simp [enterEvent]
  | cons q qs ih =>
    simp only [enterEvent]
    rw [List.pairwise_cons] at h
    split
    · rename_i hk
      rw [List.pairwise_cons]; exact ⟨fun a ha => by simpa [hk] using h.1 a ha, h.2⟩
    · split
      · rename_i hk1 hk2
        rw [List.pairwise_cons, List.pairwise_cons]
        refine ⟨?_, h.1, h.2⟩
        intro a ha
        simp at ha; rcases ha with rfl | ha
        · exact hk2
        · exact lt_trans hk2 (h.1 a ha)
      · rename_i hk1 hk2
        rw [List.pairwise_cons]
        refine ⟨?_, ih h.2⟩
        intro a ha
        rcases mem_enterEvent_kind ha with h' | h'
        · omega
        · exact h.1 a h'

theorem enterEvent_count {e : Event} {l : List PendingEvent} (h : ∀ p ∈ l, 1 ≤ p.count ∧ p.count ≤ 255) :
    ∀ p ∈ enterEvent e l, 1 ≤ p.count ∧ p.count ≤ 255 := by
  induction l with
  | nil => simp [enterEvent]
  | cons q qs ih =>
    simp only [enterEvent]
    have hq := h q (by simp)
    have hqs : ∀ p ∈ qs, 1 ≤ p.count ∧ p.count ≤ 255 := fun p hp => h p (by simp [hp])
    split
    · intro p hp; simp at hp; rcases hp with rfl | hp
      · simp
      · exact hqs p hp
    · split
      · intro p hp; simp at hp; rcases hp with rfl | rfl | hp
        · simp
        · exact hq
        · exact hqs p hp
      · intro p hp; simp at hp; rcases hp with rfl | hp
        · exact hq
        · exact ih hqs p hp

theorem enterEvent_ne_nil (e : Event) (l : List PendingEvent) : enterEvent e l ≠ [] := by
  cases l <;> simp [enterEvent]; split <;> (try split) <;> simp

theorem enter_lawful (e : Event) (x : EventSet) (h : x.Lawful) : (x.enter e).Lawful := by
  obtain ⟨_, h2, h3⟩ := h
  refine ⟨?_, enterEvent_pairwise h2, enterEvent_count h3⟩
  have := enterEvent_ne_nil e x.entries
  simp only [EventSet.enter]
  cases hh : enterEvent e x.entries <;> simp_all

@[simp] theorem raise_attn (e : Event) (s : State) (h : s.events.Lawful) : (raise e s).events.Lawful := by
  obtain ⟨h1,h2,h3⟩ := h
  unfold raise Events.raise Events.Lawful
  dsimp only
  refine ⟨?_,?_,?_⟩ <;> split <;> first | assumption | exact enter_lawful e _ ‹_›

@[simp] theorem bumpRevision_attn (s : State) (h : s.events.Lawful) :
    (bumpRevision s).events.Lawful := by
  simp (maxDischargeDepth := 30) [bumpRevision, h]

@[simp] theorem takeSwap_attn (s : State) (h : s.events.Lawful) :
    (takeSwap s).events.Lawful := by
  simp (maxDischargeDepth := 30) [takeSwap, h]

@[simp] theorem swapTest_attn (s : State) (h : s.events.Lawful) :
    (swapTest s).events.Lawful := by
  unfold swapTest
  (repeat' split) <;> simp (maxDischargeDepth := 30) [h]

@[simp] theorem completionEvent_attn (st : Step) (s : State) (h : s.events.Lawful) :
    (completionEvent st s).events.Lawful := by
  unfold completionEvent
  (repeat' split) <;> simp (maxDischargeDepth := 30) [h]

@[simp] theorem completeStep_attn (s : State) (h : s.events.Lawful) :
    (completeStep s).events.Lawful := by
  unfold completeStep
  (repeat' split) <;> simp (maxDischargeDepth := 30) [h]

@[simp] theorem stepStarted_attn (id eff : Nat) (s : State) (h : s.events.Lawful) :
    (stepStarted id eff s).events.Lawful := by
  simp (maxDischargeDepth := 30) [stepStarted, h]

@[simp] theorem heldAtStart_attn (id eff : Nat) (r : HoldReason) (s : State) (h : s.events.Lawful) :
    (heldAtStart id eff r s).events.Lawful := by
  simp (maxDischargeDepth := 30) [heldAtStart, h]

@[simp] theorem recordCutoff_attn (r : CutoffReason) (s : State) (h : s.events.Lawful) :
    (recordCutoff r s).events.Lawful := by
  simp (maxDischargeDepth := 30) [recordCutoff, h]

@[simp] theorem raiseTravelDone_attn (abandoned : Bool) (s : State) (h : s.events.Lawful) :
    (raiseTravelDone abandoned s).events.Lawful := by
  simp (maxDischargeDepth := 30) [raiseTravelDone, h]

@[simp] theorem enterFault_attn (c : FaultCause) (s : State) (h : s.events.Lawful) :
    (enterFault c s).events.Lawful := by
  simp (maxDischargeDepth := 30) [enterFault, h]

@[simp] theorem homeSet_attn (s : State) (h : s.events.Lawful) :
    (homeSet s).events.Lawful := by
  simp (maxDischargeDepth := 30) [homeSet, h]

@[simp] theorem abandonPending_attn (s : State) (h : s.events.Lawful) :
    (abandonPending s).events.Lawful := by
  simp (maxDischargeDepth := 30) [abandonPending, h]

@[simp] theorem startGoTo_attn (x : Nat) (s : State) (h : s.events.Lawful) :
    (startGoTo x s).events.Lawful := by
  unfold startGoTo
  dsimp only
  (repeat' split) <;> simp (maxDischargeDepth := 30) [h]

@[simp] theorem startReference_attn (s : State) (h : s.events.Lawful) :
    (startReference s).events.Lawful := by
  unfold startReference
  dsimp only
  (repeat' split) <;> simp (maxDischargeDepth := 30) [h]

@[simp] theorem startMotion_attn (s : State) (h : s.events.Lawful) :
    (startMotion s).events.Lawful := by
  unfold startMotion
  dsimp only
  (repeat' split) <;> simp (maxDischargeDepth := 30) [h]

@[simp] theorem inPosition_attn (s : State) (h : s.events.Lawful) :
    (inPosition s).events.Lawful := by
  simp (maxDischargeDepth := 30) [inPosition, h]

@[simp] theorem reversal_attn (d : Direction) (s : State) (h : s.events.Lawful) :
    (reversal d s).events.Lawful := by
  unfold reversal
  dsimp only
  (repeat' split) <;> simp (maxDischargeDepth := 30) [h]

@[simp] theorem stopJudgement_attn (s : State) (h : s.events.Lawful) :
    (stopJudgement s).events.Lawful := by
  unfold stopJudgement
  dsimp only
  (repeat' split) <;> simp (maxDischargeDepth := 30) [h]

@[simp] theorem runOutExpiry_attn (s : State) (h : s.events.Lawful) :
    (runOutExpiry s).events.Lawful := by
  unfold runOutExpiry
  (repeat' split) <;> simp (maxDischargeDepth := 30) [h]

@[simp] theorem travelExpiry_attn (s : State) (h : s.events.Lawful) :
    (travelExpiry s).events.Lawful := by
  unfold travelExpiry
  (repeat' split) <;> simp (maxDischargeDepth := 30) [h]

@[simp] theorem travelSegmentClosed_attn (s : State) (h : s.events.Lawful) :
    (travelSegmentClosed s).events.Lawful := by
  unfold travelSegmentClosed
  dsimp only
  (repeat' split) <;> simp (maxDischargeDepth := 30) [h]

@[simp] theorem travelStop_attn (s : State) (h : s.events.Lawful) :
    (travelStop s).events.Lawful := by
  unfold travelStop
  dsimp only
  (repeat' split) <;> simp (maxDischargeDepth := 30) [h]

@[simp] theorem stopCleared_attn (s : State) (h : s.events.Lawful) :
    (stopCleared s).events.Lawful := by
  unfold stopCleared
  (repeat' split) <;> simp (maxDischargeDepth := 30) [h]

@[simp] theorem acceptTravel_attn (r : TravelRequest) (s : State) (h : s.events.Lawful) :
    (acceptTravel r s).1.events.Lawful := by
  unfold acceptTravel
  dsimp only
  (repeat' split) <;> simp (maxDischargeDepth := 30) [h]

@[simp] theorem cancelMotion_attn (s : State) (h : s.events.Lawful) :
    (cancelMotion s).events.Lawful := by
  simp (maxDischargeDepth := 30) [cancelMotion, h]

@[simp] theorem complete_attn (s : State) (h : s.events.Lawful) :
    (complete s).events.Lawful := by
  simp (maxDischargeDepth := 30) [complete, h]

@[simp] theorem cutoff_attn (r : CutoffReason) (s : State) (h : s.events.Lawful) :
    (cutoff r s).events.Lawful := by
  unfold cutoff
  dsimp only
  (repeat' split) <;> simp (maxDischargeDepth := 30) [h]

@[simp] theorem pauseCause_attn (r : PauseReason) (s : State) (h : s.events.Lawful) :
    (pauseCause r s).events.Lawful := by
  unfold pauseCause
  dsimp only
  (repeat' split) <;> simp (maxDischargeDepth := 30) [h]

@[simp] theorem stageNotice_attn (s : State) (h : s.events.Lawful) :
    (stageNotice s).events.Lawful := by
  unfold stageNotice
  (repeat' split) <;> simp (maxDischargeDepth := 30) [h]

@[simp] theorem feedTests_attn (s : State) (h : s.events.Lawful) :
    (feedTests s).events.Lawful := by
  unfold feedTests
  (repeat' split) <;> simp (maxDischargeDepth := 30) [h]

@[simp] theorem segmentClosedNotice_attn (entering : Nat) (w : Weighing) (leaving : Nat) (dest : Destination) (s : State) (h : s.events.Lawful) :
    (segmentClosedNotice entering w leaving dest s).events.Lawful := by
  unfold segmentClosedNotice
  dsimp only
  (repeat' split) <;> simp (maxDischargeDepth := 30) [h]

@[simp] theorem reEvaluate_attn (s : State) (h : s.events.Lawful) :
    (reEvaluate s).events.Lawful := by
  unfold reEvaluate
  dsimp only
  (repeat' split) <;> simp (maxDischargeDepth := 30) [h]

@[simp] theorem scaleFaultNotice_attn (s : State) (h : s.events.Lawful) :
    (scaleFaultNotice s).events.Lawful := by
  unfold scaleFaultNotice
  dsimp only
  (repeat' split) <;> simp (maxDischargeDepth := 30) [h]

@[simp] theorem positionLost_attn (s : State) (h : s.events.Lawful) :
    (positionLost s).events.Lawful := by
  unfold positionLost
  (repeat' split) <;> simp (maxDischargeDepth := 30) [h]

@[simp] theorem cancelNotice_attn (s : State) (h : s.events.Lawful) :
    (cancelNotice s).events.Lawful := by
  unfold cancelNotice
  (repeat' split) <;> simp (maxDischargeDepth := 30) [h]

@[simp] theorem presenceExpiry_attn (s : State) (h : s.events.Lawful) :
    (presenceExpiry s).events.Lawful := by
  unfold presenceExpiry
  dsimp only
  (repeat' split) <;> simp (maxDischargeDepth := 30) [h]

@[simp] theorem recomputeStage_attn (s : State) (h : s.events.Lawful) :
    (recomputeStage s).events.Lawful := by
  unfold recomputeStage
  dsimp only
  (repeat' split) <;> simp (maxDischargeDepth := 30) [h]

@[simp] theorem setTrip_attn (cause : TripCause) (s : State) (h : s.events.Lawful) :
    (setTrip cause s).events.Lawful := by
  unfold setTrip
  (repeat' split) <;> simp (maxDischargeDepth := 30) [h]

@[simp] theorem highHoldExpires_attn (s : State) (h : s.events.Lawful) :
    (highHoldExpires s).events.Lawful := by
  unfold highHoldExpires
  (repeat' split) <;> simp (maxDischargeDepth := 30) [h]

@[simp] theorem referenceTimerExpires_attn (s : State) (h : s.events.Lawful) :
    (referenceTimerExpires s).events.Lawful := by
  unfold referenceTimerExpires
  (repeat' split) <;> simp (maxDischargeDepth := 30) [h]

@[simp] theorem takeCode_attn (c : ChannelNo) (code : Code) (s : State) (h : s.events.Lawful) :
    (takeCode c code s).events.Lawful := by
  unfold takeCode
  dsimp only
  (repeat' split) <;> simp (maxDischargeDepth := 30) [h]

@[simp] theorem takeGroup_attn (c0 c1 c2 c3 : ChannelNo) (q : Quad) (s : State) (h : s.events.Lawful) :
    (takeGroup c0 c1 c2 c3 q s).events.Lawful := by
  simp (maxDischargeDepth := 30) [takeGroup, h]

@[simp] theorem dustGroup_attn (k : GroupKind) (q : Quad) (s : State) (h : s.events.Lawful) :
    (dustGroup k q s).events.Lawful := by
  unfold dustGroup
  (repeat' split) <;> simp (maxDischargeDepth := 30) [h]

@[simp] theorem applyMask_attn (was now : BitVec 8) (s : State) (h : s.events.Lawful) :
    (applyMask was now s).events.Lawful := by
  simp [applyMask, allChannels, h]

@[simp] theorem enterScaleFault_attn (s : State) (h : s.events.Lawful) :
    (enterScaleFault s).events.Lawful := by
  simp (maxDischargeDepth := 30) [enterScaleFault, h]

@[simp] theorem weighSegment_attn (s : State) (h : s.events.Lawful) :
    (weighSegment s).state.events.Lawful := by
  unfold weighSegment
  dsimp only
  (repeat' split) <;> simp (maxDischargeDepth := 30) [h]

@[simp] theorem dischargeSpill_attn (mass : Nat) (acc : Account) (s : State) (h : s.events.Lawful) :
    (dischargeSpill mass acc s).events.Lawful := by
  unfold dischargeSpill
  dsimp only
  (repeat' split) <;> simp (maxDischargeDepth := 30) [h]

@[simp] theorem discharge_attn (e : Entry) (d : Destination) (s : State) (h : s.events.Lawful) :
    (discharge e d s).events.Lawful := by
  unfold discharge
  (repeat' split) <;> simp (maxDischargeDepth := 30) [h]

@[simp] theorem moveLine_attn (mass : Nat) (how : Weighing) (s : State) (h : s.events.Lawful) :
    (moveLine mass how s).events.Lawful := by
  simp (maxDischargeDepth := 30) [moveLine, h]

@[simp] theorem closeSegment_attn (s : State) (h : s.events.Lawful) :
    (closeSegment s).events.Lawful := by
  simp (maxDischargeDepth := 30) [closeSegment, h]

@[simp] theorem countPulse_attn (s : State) (h : s.events.Lawful) :
    (countPulse s).events.Lawful := by
  unfold countPulse
  dsimp only
  (repeat' split) <;> simp (maxDischargeDepth := 30) [h]

@[simp] theorem maskChanged_attn (was now : BitVec 8) (s : State) (h : s.events.Lawful) :
    (maskChanged was now s).events.Lawful := by
  unfold maskChanged
  (repeat' split) <;> simp (maxDischargeDepth := 30) [h]

@[simp] theorem applySetting_attn (was : BitVec 8) (v : Nat) (s : State) (k : SettingKey) (h : s.events.Lawful) :
    (applySetting was v s k).events.Lawful := by
  unfold applySetting
  (repeat' split) <;> simp (maxDischargeDepth := 30) [h]

@[simp] theorem ownWriteSetting_attn (identifier value : Nat) (s : State) (h : s.events.Lawful) :
    (ownWriteSetting identifier value s).1.events.Lawful := by
  unfold ownWriteSetting
  (repeat' split) <;> simp (maxDischargeDepth := 30) [h]

@[simp] theorem ownFetchEvent_attn (st : Station) (s : State) (h : s.events.Lawful) : (ownFetchEvent st s).1.events.Lawful := by
  unfold ownFetchEvent
  dsimp only
  split
  · exact h
  · rename_i p ps hp
    obtain ⟨h1,h2,h3⟩ := h
    have fl : ∀ x : EventSet, x.Lawful → x.fetch.Lawful := by
      intro x hx
      obtain ⟨a, b, c⟩ := hx
      refine ⟨rfl, ?_, ?_⟩
      · exact b.tail
      · intro q hq; exact c q (List.mem_of_mem_tail hq)
    cases st
    · exact ⟨fl _ h1, h2, h3⟩
    · exact ⟨h1, fl _ h2, h3⟩
    · exact ⟨h1, h2, fl _ h3⟩

@[simp] theorem startPour_attn (st : Step) (eff : Nat) (s : State) (h : s.events.Lawful) :
    (startPour st eff s).events.Lawful := by
  simp (maxDischargeDepth := 30) [startPour, h]

@[simp] theorem judgedStart_attn (st : Step) (s : State) (h : s.events.Lawful) :
    (judgedStart st s).1.events.Lawful := by
  unfold judgedStart
  dsimp only
  (repeat' split) <;> simp (maxDischargeDepth := 30) [h]

@[simp] theorem ownStartStep_attn (revision : Nat) (s : State) (h : s.events.Lawful) :
    (ownStartStep revision s).1.events.Lawful := by
  unfold ownStartStep
  (repeat' split) <;> simp (maxDischargeDepth := 30) [h]

@[simp] theorem resumeFeed_attn (s : State) (h : s.events.Lawful) :
    (resumeFeed s).events.Lawful := by
  unfold resumeFeed
  dsimp only
  (repeat' split) <;> simp (maxDischargeDepth := 30) [h]

@[simp] theorem ownResume_attn (s : State) (h : s.events.Lawful) :
    (ownResume s).1.events.Lawful := by
  unfold ownResume
  (repeat' split) <;> simp (maxDischargeDepth := 30) [h]

@[simp] theorem ownStopStep_attn (s : State) (h : s.events.Lawful) :
    (ownStopStep s).1.events.Lawful := by
  unfold ownStopStep
  (repeat' split) <;> simp (maxDischargeDepth := 30) [h]

@[simp] theorem ownAcknowledgeTrip_attn (s : State) (h : s.events.Lawful) :
    (ownAcknowledgeTrip s).1.events.Lawful := by
  unfold ownAcknowledgeTrip
  (repeat' split) <;> simp (maxDischargeDepth := 30) [h]

@[simp] theorem ownClearStop_attn (s : State) (h : s.events.Lawful) :
    (ownClearStop s).1.events.Lawful := by
  unfold ownClearStop
  (repeat' split) <;> simp (maxDischargeDepth := 30) [h]

@[simp] theorem ownGoToHold_attn (hold : Nat) (s : State) (h : s.events.Lawful) :
    (ownGoToHold hold s).1.events.Lawful := by
  unfold ownGoToHold
  (repeat' split) <;> simp (maxDischargeDepth := 30) [h]

@[simp] theorem ownGoToPosition_attn (x : Nat) (s : State) (h : s.events.Lawful) :
    (ownGoToPosition x s).1.events.Lawful := by
  unfold ownGoToPosition
  (repeat' split) <;> simp (maxDischargeDepth := 30) [h]

@[simp] theorem ownReferenceTravel_attn (s : State) (h : s.events.Lawful) :
    (ownReferenceTravel s).1.events.Lawful := by
  unfold ownReferenceTravel
  (repeat' split) <;> simp (maxDischargeDepth := 30) [h]

@[simp] theorem ownCancelTravel_attn (s : State) (h : s.events.Lawful) :
    (ownCancelTravel s).1.events.Lawful := by
  unfold ownCancelTravel
  (repeat' split) <;> simp (maxDischargeDepth := 30) [h]

@[simp] theorem divert_attn (v : Diverter) (s : State) (h : s.events.Lawful) :
    (divert v s).events.Lawful := by
  unfold divert
  dsimp only
  (repeat' split) <;> simp (maxDischargeDepth := 30) [h]

@[simp] theorem ownSetDiverter_attn (value : Nat) (s : State) (h : s.events.Lawful) :
    (ownSetDiverter value s).1.events.Lawful := by
  unfold ownSetDiverter
  (repeat' split) <;> simp (maxDischargeDepth := 30) [h]

@[simp] theorem ownHoldPour_attn (s : State) (h : s.events.Lawful) :
    (ownHoldPour s).1.events.Lawful := by
  unfold ownHoldPour
  (repeat' split) <;> simp (maxDischargeDepth := 30) [h]

@[simp] theorem ownOpenCall_attn (id : Nat) (band : Option Nat) (s : State) (h : s.events.Lawful) :
    (ownOpenCall id band s).1.events.Lawful := by
  unfold ownOpenCall
  dsimp only
  (repeat' split) <;> simp (maxDischargeDepth := 30) [h]

@[simp] theorem ownCloseCall_attn (s : State) (h : s.events.Lawful) :
    (ownCloseCall s).1.events.Lawful := by
  unfold ownCloseCall
  (repeat' split) <;> simp (maxDischargeDepth := 30) [h]

@[simp] theorem ownSetTrimBand_attn (band : Nat) (s : State) (h : s.events.Lawful) :
    (ownSetTrimBand band s).1.events.Lawful := by
  unfold ownSetTrimBand
  dsimp only
  (repeat' split) <;> simp (maxDischargeDepth := 30) [h]

@[simp] theorem ownInsertStep_attn (position hold slot target maxLevel : Nat) (s : State) (h : s.events.Lawful) :
    (ownInsertStep position hold slot target maxLevel s).1.events.Lawful := by
  unfold ownInsertStep
  dsimp only
  (repeat' split) <;> simp (maxDischargeDepth := 30) [h]

@[simp] theorem modifyPlan_attn (st : Step) (target level : Nat) (s : State) (h : s.events.Lawful) :
    (modifyPlan st target level s).events.Lawful := by
  unfold modifyPlan
  dsimp only
  (repeat' split) <;> simp (maxDischargeDepth := 30) [h]

@[simp] theorem ownModifyStep_attn (id target level : Nat) (s : State) (h : s.events.Lawful) :
    (ownModifyStep id target level s).1.events.Lawful := by
  unfold ownModifyStep
  (repeat' split) <;> simp (maxDischargeDepth := 30) [h]

@[simp] theorem ownDeleteStep_attn (id : Nat) (s : State) (h : s.events.Lawful) :
    (ownDeleteStep id s).1.events.Lawful := by
  unfold ownDeleteStep
  dsimp only
  (repeat' split) <;> simp (maxDischargeDepth := 30) [h]

@[simp] theorem cancelWaiting_attn (st : Step) (s : State) (h : s.events.Lawful) :
    (cancelWaiting st s).events.Lawful := by
  simp (maxDischargeDepth := 30) [cancelWaiting, h]

@[simp] theorem cancelActive_attn (st : Step) (s : State) (h : s.events.Lawful) :
    (cancelActive st s).events.Lawful := by
  unfold cancelActive
  (repeat' split) <;> simp (maxDischargeDepth := 30) [h]

@[simp] theorem ownCancelStep_attn (id : Nat) (s : State) (h : s.events.Lawful) :
    (ownCancelStep id s).1.events.Lawful := by
  unfold ownCancelStep
  dsimp only
  (repeat' split) <;> simp (maxDischargeDepth := 30) [h]

@[simp] theorem ownCloseStepShort_attn (id : Nat) (s : State) (h : s.events.Lawful) :
    (ownCloseStepShort id s).1.events.Lawful := by
  unfold ownCloseStepShort
  dsimp only
  (repeat' split) <;> simp (maxDischargeDepth := 30) [h]

@[simp] theorem ownReleaseHold_attn (id : Nat) (s : State) (h : s.events.Lawful) :
    (ownReleaseHold id s).1.events.Lawful := by
  unfold ownReleaseHold
  (repeat' split) <;> simp (maxDischargeDepth := 30) [h]

@[simp] theorem ownRequestSwap_attn (s : State) (h : s.events.Lawful) :
    (ownRequestSwap s).1.events.Lawful := by
  unfold ownRequestSwap
  dsimp only
  (repeat' split) <;> simp (maxDischargeDepth := 30) [h]

@[simp] theorem issueBill_attn (number : Nat) (i : Slot) (b : Bill) (s : State) (h : s.events.Lawful) :
    (issueBill number i b s).events.Lawful := by
  unfold issueBill
  dsimp only
  (repeat' split) <;> simp (maxDischargeDepth := 30) [h]

@[simp] theorem ownCloseLot_attn (number : Nat) (s : State) (h : s.events.Lawful) :
    (ownCloseLot number s).1.events.Lawful := by
  unfold ownCloseLot
  dsimp only
  (repeat' split) <;> simp (maxDischargeDepth := 30) [h]

@[simp] theorem handOver_attn (r : Request) (st : Station) (b : List Byte) (s : State) (h : s.events.Lawful) :
    (handOver r st b s).1.events.Lawful := by
  unfold handOver
  (repeat' split) <;> simp (maxDischargeDepth := 30) [h]

@[simp] theorem judgeEntry_attn (st : Station) (e : QueueEntry) (s : State) (h : s.events.Lawful) :
    (judgeEntry st e s).1.events.Lawful := by
  unfold judgeEntry
  (repeat' split) <;> simp (maxDischargeDepth := 30) [h]

@[simp] theorem takeHead_attn (st : Station) (calUnlock : Bool) (s : State) (h : s.events.Lawful) :
    (takeHead st calUnlock s).events.Lawful := by
  unfold takeHead
  dsimp only
  (repeat' split) <;> simp (maxDischargeDepth := 30) [h]

@[simp] theorem coldStart_attn (s : State) : (coldStart s).events.Lawful := by
  simp [coldStart, Events.cold, EventSet.cold, Events.Lawful, EventSet.Lawful]

@[simp] theorem checkSettings_attn (s : State) (h : s.events.Lawful) :
    (checkSettings s).events.Lawful := by
  unfold checkSettings
  dsimp only
  (repeat' split) <;> simp (maxDischargeDepth := 30) [h]

@[simp] theorem holdForPower_attn (s : State) (h : s.events.Lawful) :
    (holdForPower s).events.Lawful := by
  unfold holdForPower
  (repeat' split) <;> simp (maxDischargeDepth := 30) [h]

@[simp] theorem readEstop_attn (s : State) (h : s.events.Lawful) :
    (readEstop s).events.Lawful := by
  unfold readEstop
  (repeat' split) <;> simp (maxDischargeDepth := 30) [h]

@[simp] theorem recoveredTo_attn (p : RecoveryPoint) (s : State) (h : s.events.Lawful) :
    (recoveredTo p s).events.Lawful := by
  cases p <;> simp (maxDischargeDepth := 30) [recoveredTo, h]

@[simp] theorem resetAsserts_attn (s : State) : (resetAsserts s).events.Lawful := by
  simp [resetAsserts]

@[simp] theorem completeRecovery_attn (s : State) (h : s.events.Lawful) :
    (completeRecovery s).events.Lawful := by
  simp (maxDischargeDepth := 30) [completeRecovery, h]

@[simp] theorem recover_attn (s : State) (h : s.events.Lawful) :
    (recover s).events.Lawful := by
  simp (maxDischargeDepth := 30) [recover, h]

@[simp] theorem takeDGroup_attn (s : State) (h : s.events.Lawful) :
    (takeDGroup s).events.Lawful := by
  unfold takeDGroup
  (repeat' split) <;> simp (maxDischargeDepth := 30) [h]

@[simp] theorem countEncoder_attn (d : Direction) (s : State) (h : s.events.Lawful) :
    (countEncoder d s).events.Lawful := by
  unfold countEncoder
  dsimp only
  (repeat' split) <;> simp (maxDischargeDepth := 30) [h]

@[simp] theorem speedPeriodEnds_attn (s : State) (h : s.events.Lawful) :
    (speedPeriodEnds s).events.Lawful := by
  unfold speedPeriodEnds
  dsimp only
  (repeat' split) <;> simp (maxDischargeDepth := 30) [h]

@[simp] theorem homeCloses_attn (closed : Bool) (s : State) (h : s.events.Lawful) :
    (homeCloses closed s).events.Lawful := by
  unfold homeCloses
  (repeat' split) <;> simp (maxDischargeDepth := 30) [h]

@[simp] theorem limitAsserts_attn (d : Direction) (level : Bool) (s : State) (h : s.events.Lawful) :
    (limitAsserts d level s).events.Lawful := by
  unfold limitAsserts
  (repeat' split) <;> simp (maxDischargeDepth := 30) [h]

@[simp] theorem estopAsserts_attn (s : State) (h : s.events.Lawful) :
    (estopAsserts s).events.Lawful := by
  simp (maxDischargeDepth := 30) [estopAsserts, h]

@[simp] theorem estopReleases_attn (s : State) (h : s.events.Lawful) :
    (estopReleases s).events.Lawful := by
  simp (maxDischargeDepth := 30) [estopReleases, h]

end Sys2Proof.Machine
end

