-- ==== Sys2Proof/Laws/Ops.lean ====
section
/-! SUPPORT. What each shared operation can do, said once: the equation of a change, or the cases of an operation that decides. Later proofs cite these instead of unfolding the operation. -/

namespace Sys2Proof.Machine

open Sys2Proof

/-- A part whose recovery is complete takes arrivals. -/
theorem isRunning_of_running {s : State} (h : s.phase = .running) : s.isRunning = true := by simp [State.isRunning, h]

/-! ### The page swap -/

/-- A swap taken: the flag, the active page, the moment, the spout-over hold and PAGE_SWAPPED (R63). -/
theorem takeSwap_eq (s : State) : takeSwap s = { s with
    travel := { s.travel with
      swapPending := false, activePage := otherPage s.travel.activePage
      spoutOver := spoutOverNow { s.travel with activePage := otherPage s.travel.activePage }
        s.store.settings.pourMargin }
    accounts := { s.accounts with
      moment := momentOf (momentOn (s.travel.pages.get (otherPage s.travel.activePage)) s.accounts.credited) }
    events := s.events.raise (.pageSwapped (otherPage s.travel.activePage)) } := rfl

/-- The swap test takes the swap when it is pending and ready, and otherwise changes nothing (R63). -/
theorem swapTest_cases (s : State) :
    (s.travel.swapPending = true ∧ swapReady s = true ∧ swapTest s = takeSwap s) ∨
    (¬ (s.travel.swapPending = true ∧ swapReady s = true) ∧ swapTest s = s) := by
  unfold swapTest
  by_cases h : (s.travel.swapPending && swapReady s) = true
  · rw [if_pos h]; simp at h; exact .inl ⟨h.1, h.2, rfl⟩
  · rw [if_neg h]; simp at h; exact .inr ⟨fun hh => by simp [h hh.1] at hh, rfl⟩

theorem swapTest_of_not_pending {s : State} (h : s.travel.swapPending = false) : swapTest s = s := by
  simp [swapTest, h]

/-- The swap test does not look at the governor. -/
theorem swapTest_governor (s : State) (g : Governor) : swapTest { s with governor := g } = { swapTest s with governor := g } := by
  unfold swapTest
  by_cases h : (s.travel.swapPending && swapReady s) = true
  · rw [if_pos h, if_pos (show (s.travel.swapPending && swapReady { s with governor := g }) = true from h)]; rfl
  · rw [if_neg h, if_neg (show ¬ (s.travel.swapPending && swapReady { s with governor := g }) = true from h)]

/-- The swap test does not look at the answer kept. -/
theorem swapTest_answer (s : State) (a : Option (Station × Answer)) :
    swapTest { s with answer := a } = { swapTest s with answer := a } := by
  unfold swapTest
  by_cases h : (s.travel.swapPending && swapReady s) = true
  · rw [if_pos h, if_pos (show (s.travel.swapPending && swapReady { s with answer := a }) = true from h)]; rfl
  · rw [if_neg h, if_neg (show ¬ (s.travel.swapPending && swapReady { s with answer := a }) = true from h)]

/-! ### The plan -/

/-- A change of the plan moves the revision and raises PLAN_CHANGED with it (R94). -/
theorem bumpRevision_eq (s : State) : bumpRevision s = { s with
    plan := { s.plan with revision := (s.plan.revision + 1) % 65536 }
    events := s.events.raise (.planChanged ((s.plan.revision + 1) % 65536)) } := rfl

/-- A cutoff reason recorded in the ACTIVE step (R106). -/
theorem recordCutoff_eq (r : CutoffReason) (s : State) : recordCutoff r s = { s with
    plan := { s.plan with
      revision := (s.plan.revision + 1) % 65536
      steps := s.plan.steps.map (fun st => if st.isActive then { st with cutoffReason := some r } else st) }
    events := s.events.raise (.planChanged ((s.plan.revision + 1) % 65536)) } := rfl

/-- The ACTIVE step after a change that keeps it ACTIVE. -/
theorem activeStep_updateActive (p : Plan) (f : Step → Step) (st : Step) (ha : activeStep p = some st)
    (hf : ∀ x : Step, x.isActive = true → (f x).isActive = true) : activeStep (p.updateActive f) = some (f st) := by
  simp only [activeStep, Plan.updateActive] at *
  rw [List.find?_map]
  have h1 : (Step.isActive ∘ fun st => if st.isActive = true then f st else st) = Step.isActive := by
    funext x; simp only [Function.comp]; by_cases h : x.isActive = true <;> simp [h, hf]
  rw [h1, ha]; simp [List.find?_some ha]

/-- The ACTIVE step of a plan with none, once a step that it holds is made ACTIVE. -/
theorem find_active_updateId (l : List Step) (f : Step → Step) (st : Step) (hp : l.Pairwise (fun a b => a.id ≠ b.id))
    (hm : st ∈ l) (hn : ∀ x ∈ l, x.isActive = false) (hf : (f st).isActive = true) :
    (l.map (fun x => if x.id == st.id then f x else x)).find? Step.isActive = some (f st) := by
  induction l with
  | nil => simp at hm
  | cons a l ih =>
    rw [List.pairwise_cons] at hp
    by_cases ha : a.id = st.id
    · have : a = st := by
        rcases List.mem_cons.1 hm with h | h
        · exact h.symm
        · exact absurd ha (hp.1 st h)
      subst this; simp [hf]
    · have hm' : st ∈ l := by
        rcases List.mem_cons.1 hm with h | h
        · subst h; exact absurd rfl ha
        · exact h
      have h1 : a.isActive = false := hn a (by simp)
      simp only [List.map_cons, beq_iff_eq, ha, if_false]
      rw [List.find?_cons_of_neg (by simp [h1])]
      simpa using ih hp.2 hm' (fun x hx => hn x (List.mem_cons_of_mem _ hx))

/-! ### Feed -/

/-- The ceiling outside DRIBBLE (R115). -/
theorem ceilingNow_of_not_dribble (s : State) (h : s.governor.state ≠ .dribble) :
    ceilingNow s = feedCeiling s (activeMaximum s) := by
  simp only [ceilingNow, feedCeiling]; rw [if_neg h]
  cases activeMaximum s <;> simp <;> split <;> simp_all [Nat.min_comm]

/-- The ceiling in DRIBBLE (R115). -/
theorem ceilingNow_of_dribble (s : State) (h : s.governor.state = .dribble) :
    ceilingNow s = min (feedCeiling s (activeMaximum s)) s.store.settings.dribbleLevel := by
  simp only [ceilingNow, feedCeiling]; rw [if_pos h]
  cases activeMaximum s <;> simp <;> split <;> simp_all [Nat.min_comm, Nat.min_left_comm]

/-- The ceiling's terms stand in the requested level, the dust stage and the settings. -/
theorem feedCeiling_congr (s s' : State) (m : Option Nat) (h1 : s'.governor.requested = s.governor.requested)
    (h2 : s'.dust = s.dust) (h3 : s'.store = s.store) : feedCeiling s' m = feedCeiling s m := by
  simp [feedCeiling, h1, h2, h3]

/-- Recomputing the ceiling: the ceiling, the level that falls to it, its duty, and RUNNING below it (R115). -/
theorem recomputeCeiling_eq (s : State) : recomputeCeiling s = { s with
    governor := { s.governor with
      ceiling := ceilingNow s
      level := min s.governor.level (ceilingNow s)
      dutyStaged := if ceilingNow s < s.governor.level then duty (ceilingNow s) else s.governor.dutyStaged
      state := if s.governor.level < ceilingNow s ∧ s.governor.state = .running then .ramping
        else s.governor.state } } := by
  unfold recomputeCeiling setLevel
  by_cases h : ceilingNow s < s.governor.level
  · have h2 : ¬ s.governor.level < ceilingNow s := by omega
    simp [h, h2, Nat.min_eq_right (Nat.le_of_lt h)]
  · have h1 : min s.governor.level (ceilingNow s) = s.governor.level := Nat.min_eq_left (by omega)
    by_cases h2 : s.governor.level < ceilingNow s ∧ s.governor.state = .running
    · simp [h, h1, h2]
    · simp [h, h1, h2]

/-- Recomputing the ceiling with the gate shut leaves the level, the duty and the state. -/
theorem recomputeCeiling_of_level_zero (s : State) (h : s.governor.level = 0) (hs : s.governor.state ≠ .running) :
    recomputeCeiling s = { s with governor := { s.governor with ceiling := ceilingNow s } } := by
  rw [recomputeCeiling_eq]
  simp [h, hs]

/-- A pause cause in IDLE does nothing (R123). -/
theorem pauseCause_idle (r : PauseReason) (s : State) (h : s.governor.state = .idle) : pauseCause r s = s := by
  simp [pauseCause, h]

/-- A pause cause in CUTOFF clears clean (R123). -/
theorem pauseCause_cutoff (r : PauseReason) (s : State) (h : s.governor.state = .cutoff) :
    pauseCause r s = { s with governor := { s.governor with clean := false } } := by
  simp [pauseCause, h]

/-- A pause cause in PAUSED adds a reason that is not in the set (R123). -/
theorem pauseCause_paused (r : PauseReason) (s : State) (h : s.governor.state = .paused) :
    pauseCause r s = if s.governor.pauseSet.has r then s
      else { s with
        governor := { s.governor with pauseSet := s.governor.pauseSet.add r }
        events := s.events.raise (.feedPaused r) } := by
  simp only [pauseCause, h]; rfl

/-- A pause cause in a feeding state shuts the gate and enters PAUSED (R123). -/
theorem pauseCause_feeding (r : PauseReason) (s : State) (h : s.governor.state.feeding = true) :
    pauseCause r s = { s with
      governor := s.governor.pausedFor r (ceilingLeft s), events := s.events.raise (.feedPaused r) } := by
  unfold pauseCause
  cases hs : s.governor.state <;> simp_all [GovernorState.feeding, leftDribble, shutGate, raise, ceilingLeft]
  rw [recomputeCeiling_of_level_zero _ rfl (by simp), ceilingNow_of_not_dribble _ (by simp)]
  rfl

/-- Steps 1 to 3 of a cutoff (R118). -/
theorem enterCutoff_eq (s : State) : enterCutoff s = { s with
    governor := { s.governor with
      state := .cutoff, feedPermit := false, level := 0, dutyStaged := 0
      tail := if s.governor.state.feeding then 0 else s.governor.tail
      pauseSet := PauseSet.empty
      ceiling := ceilingLeft s } } := by
  unfold enterCutoff
  cases hs : s.governor.state <;> simp [leftDribble, shutGate, ceilingLeft, hs]
  rw [recomputeCeiling_of_level_zero _ rfl (by simp), ceilingNow_of_not_dribble _ (by simp)]
  rfl

/-- Feed starts from level 0 (R114, R124). -/
theorem openGate_eq (g : GovernorState) (s : State) (h : g ≠ .running) : openGate g s = { s with
    governor := { s.governor with
      state := g, feedPermit := true, level := 0, dutyStaged := 0
      ceiling := ceilingNow { s with governor := { s.governor with state := g } } } } := by
  unfold openGate
  rw [recomputeCeiling_of_level_zero _ rfl (by simpa using h)]
  rfl

/-! ### Masses -/

/-- A sum of masses that fits is the sum. -/
theorem massAdd_of_fits (a b : Nat) (h : a + b < 2 ^ 64) : massAdd a b = a + b := by
  simp only [massAdd]; rw [if_pos h]

/-- A moment that fits is held as it is. -/
theorem momentOf_of_fits (m : Int) (h1 : -2 ^ 63 ≤ m) (h2 : m < 2 ^ 63) : momentOf m = m := by
  simp only [momentOf]; rw [if_pos ⟨h1, h2⟩]

/-- The line total after a shift keeps to the sum of the masses (R14). -/
theorem lineMass_shift (line : List Entry) (e : Entry) :
    lineMass (line.tail ++ [e]) + (line.headD Entry.empty).mass = lineMass line + e.mass := by
  cases line <;> simp [lineMass, Entry.empty]; omega

/-! ### The recovery booking -/

theorem foldl_bookSlot (l : List Slot) (hn : l.Nodup) (v : Vector Lot 16) (i : Slot) :
    (l.foldl bookSlot v).get i = if i ∈ l then (v.get i).book else v.get i := by
  induction l generalizing v with
  | nil => simp
  | cons a l ih =>
    rw [List.foldl_cons, ih (List.nodup_cons.1 hn).2, bookSlot, get_set]
    by_cases h : i = a
    · subst h; simp [(List.nodup_cons.1 hn).1]
    · simp [h]

/-- The first `n` slots are booked once, and no other (R176). -/
theorem bookFirst_lot (n : Nat) (s : State) (i : Slot) : (bookFirst n s).accounts.lots.get i =
    if i.val < n then (s.accounts.lots.get i).book else s.accounts.lots.get i := by
  simp only [bookFirst]
  have h : allSlots = List.finRange 16 := by decide
  rw [foldl_bookSlot _ ((h ▸ List.nodup_finRange 16).sublist (List.take_sublist _ _)), h]
  have : i ∈ (List.finRange 16).take n ↔ i.val < n := by
    simp [List.mem_take_iff_getElem, Fin.ext_iff, i.isLt, and_comm]
  simp [this]

/-- Every slot is booked once (R176). -/
theorem bookLoss_lot (s : State) (i : Slot) : (bookLoss s).accounts.lots.get i = (s.accounts.lots.get i).book := by
  rw [bookLoss, bookFirst_lot, if_pos (by omega)]

end Sys2Proof.Machine
end

