-- ==== Sys2Proof/Laws/PerInstr.lean ====
section
/-! SUPPORT. What is said of each command as syntax: a well-formed request has a code of section 8.8's list, a body of a length that the request allows, and comes from a station that its class allows. -/

namespace Sys2Proof.Laws

open Sys2Proof Sys2Proof.Machine

/-- The request line of a well-formed command, if it has one, is one that a port hands over (R161, R164). -/
def Shape.Statement (i : Instr) : Prop :=
  i.wellFormed = true → ∀ code body, lineBytes i = some (code, body) → body.length ≤ maxBody ∧
    ∃ r, requestOf code.toNat = some r ∧ r.lengthOk body.length = true ∧
      ∀ st, requestSender i = some st → r.cls.allowed st = true

/-- The shape of a command whose line, request and sender are known. -/
theorem Shape.of_line (i : Instr) (code : Byte) (body : List Byte) (r : Request) (h : lineBytes i = some (code, body))
    (hr : requestOf code.toNat = some r) (hb : body.length ≤ maxBody) (hl : r.lengthOk body.length = true)
    (hs : ∀ st, requestSender i = some st → r.cls.allowed st = true) : Shape.Statement i := by
  intro _ c b hc
  rw [h] at hc
  obtain ⟨rfl, rfl⟩ := Prod.mk.inj (Option.some.inj hc)
  exact ⟨hb, r, hr, hl, hs⟩

/-- A command that is no request has no request line. -/
theorem Shape.of_none (i : Instr) (h : lineBytes i = none) : Shape.Statement i := by
  intro _ c b hc; rw [h] at hc; cases hc

theorem Shape.readStatus (st : Station) : Shape.Statement (.readStatus st) :=
  Shape.of_line _ _ _ .readStatus rfl rfl (Nat.le_of_ble_eq_true rfl) rfl (fun _ _ => rfl)

theorem Shape.readPlan (st : Station) (offset limit : BitVec 16) : Shape.Statement (.readPlan st offset limit) :=
  Shape.of_line _ _ _ .readPlan rfl rfl (Nat.le_of_ble_eq_true rfl) rfl (fun _ _ => rfl)

theorem Shape.readStep (st : Station) (stepId : BitVec 16) : Shape.Statement (.readStep st stepId) :=
  Shape.of_line _ _ _ .readStep rfl rfl (Nat.le_of_ble_eq_true rfl) rfl (fun _ _ => rfl)

theorem Shape.readLot (st : Station) (slot : Byte) (offset limit : BitVec 16) : Shape.Statement (.readLot st slot offset limit) :=
  Shape.of_line _ _ _ .readLot rfl rfl (Nat.le_of_ble_eq_true rfl) rfl (fun _ _ => rfl)

theorem Shape.readHolds (st : Station) : Shape.Statement (.readHolds st) :=
  Shape.of_line _ _ _ .readHolds rfl rfl (Nat.le_of_ble_eq_true rfl) rfl (fun _ _ => rfl)

theorem Shape.readHatchMap (st : Station) (page : Byte) (offset limit : BitVec 16) : Shape.Statement (.readHatchMap st page offset limit) :=
  Shape.of_line _ _ _ .readHatchMap rfl rfl (Nat.le_of_ble_eq_true rfl) rfl (fun _ _ => rfl)

theorem Shape.readBill (st : Station) (number : BitVec 32) (offset limit : BitVec 16) : Shape.Statement (.readBill st number offset limit) :=
  Shape.of_line _ _ _ .readBill rfl rfl (Nat.le_of_ble_eq_true rfl) rfl (fun _ _ => rfl)

theorem Shape.readTransit (st : Station) : Shape.Statement (.readTransit st) :=
  Shape.of_line _ _ _ .readTransit rfl rfl (Nat.le_of_ble_eq_true rfl) rfl (fun _ _ => rfl)

theorem Shape.readSettings (st : Station) (offset limit : BitVec 16) : Shape.Statement (.readSettings st offset limit) :=
  Shape.of_line _ _ _ .readSettings rfl rfl (Nat.le_of_ble_eq_true rfl) rfl (fun _ _ => rfl)

theorem Shape.fetchEvent (st : Station) : Shape.Statement (.fetchEvent st) :=
  Shape.of_line _ _ _ .fetchEvent rfl rfl (Nat.le_of_ble_eq_true rfl) rfl (fun _ _ => rfl)

theorem Shape.startStep (revision : BitVec 16) : Shape.Statement (.startStep revision) :=
  Shape.of_line _ _ _ .startStep rfl rfl (Nat.le_of_ble_eq_true rfl) rfl (fun _ h => Option.some.inj h ▸ rfl)

theorem Shape.resume : Shape.Statement .resume :=
  Shape.of_line _ _ _ .resume rfl rfl (Nat.le_of_ble_eq_true rfl) rfl (fun _ h => Option.some.inj h ▸ rfl)

theorem Shape.stopStep : Shape.Statement .stopStep :=
  Shape.of_line _ _ _ .stopStep rfl rfl (Nat.le_of_ble_eq_true rfl) rfl (fun _ h => Option.some.inj h ▸ rfl)

theorem Shape.setFeedLevel (level : Byte) : Shape.Statement (.setFeedLevel level) :=
  Shape.of_line _ _ _ .setFeedLevel rfl rfl (Nat.le_of_ble_eq_true rfl) rfl (fun _ h => Option.some.inj h ▸ rfl)

theorem Shape.presence (body : List Byte) : Shape.Statement (.presence body) := fun h =>
  have hb : body.length ≤ 512 := of_decide_eq_true h
  Shape.of_line _ _ _ .presence rfl rfl hb (decide_eq_true hb) (fun _ h => Option.some.inj h ▸ rfl) h

theorem Shape.acknowledgeTrip : Shape.Statement .acknowledgeTrip :=
  Shape.of_line _ _ _ .acknowledgeTrip rfl rfl (Nat.le_of_ble_eq_true rfl) rfl (fun _ h => Option.some.inj h ▸ rfl)

theorem Shape.clearStop : Shape.Statement .clearStop :=
  Shape.of_line _ _ _ .clearStop rfl rfl (Nat.le_of_ble_eq_true rfl) rfl (fun _ h => Option.some.inj h ▸ rfl)

theorem Shape.goToHold (hold : Byte) : Shape.Statement (.goToHold hold) :=
  Shape.of_line _ _ _ .goToHold rfl rfl (Nat.le_of_ble_eq_true rfl) rfl (fun _ h => Option.some.inj h ▸ rfl)

theorem Shape.goToPosition (position : BitVec 32) : Shape.Statement (.goToPosition position) :=
  Shape.of_line _ _ _ .goToPosition rfl rfl (Nat.le_of_ble_eq_true rfl) rfl (fun _ h => Option.some.inj h ▸ rfl)

theorem Shape.referenceTravel : Shape.Statement .referenceTravel :=
  Shape.of_line _ _ _ .referenceTravel rfl rfl (Nat.le_of_ble_eq_true rfl) rfl (fun _ h => Option.some.inj h ▸ rfl)

theorem Shape.cancelTravel : Shape.Statement .cancelTravel :=
  Shape.of_line _ _ _ .cancelTravel rfl rfl (Nat.le_of_ble_eq_true rfl) rfl (fun _ h => Option.some.inj h ▸ rfl)

theorem Shape.clearTravelFault : Shape.Statement .clearTravelFault :=
  Shape.of_line _ _ _ .clearTravelFault rfl rfl (Nat.le_of_ble_eq_true rfl) rfl (fun _ h => Option.some.inj h ▸ rfl)

theorem Shape.setDiverter (value : Byte) : Shape.Statement (.setDiverter value) :=
  Shape.of_line _ _ _ .setDiverter rfl rfl (Nat.le_of_ble_eq_true rfl) rfl (fun _ h => Option.some.inj h ▸ rfl)

theorem Shape.holdPour : Shape.Statement .holdPour :=
  Shape.of_line _ _ _ .holdPour rfl rfl (Nat.le_of_ble_eq_true rfl) rfl (fun _ h => Option.some.inj h ▸ rfl)

theorem Shape.releasePour : Shape.Statement .releasePour :=
  Shape.of_line _ _ _ .releasePour rfl rfl (Nat.le_of_ble_eq_true rfl) rfl (fun _ h => Option.some.inj h ▸ rfl)

theorem Shape.openCall (callId : BitVec 32) (band : Option (BitVec 16)) : Shape.Statement (.openCall callId band) := by
  cases band
  · exact Shape.of_line _ _ _ .openCall rfl rfl (Nat.le_of_ble_eq_true rfl) rfl (fun _ h => Option.some.inj h ▸ rfl)
  · exact Shape.of_line _ _ _ .openCall rfl rfl (Nat.le_of_ble_eq_true rfl) rfl (fun _ h => Option.some.inj h ▸ rfl)

theorem Shape.closeCall : Shape.Statement .closeCall :=
  Shape.of_line _ _ _ .closeCall rfl rfl (Nat.le_of_ble_eq_true rfl) rfl (fun _ h => Option.some.inj h ▸ rfl)

theorem Shape.insertStep (position hold slot : Byte) (target : BitVec 16) (maxLevel : Byte) : Shape.Statement (.insertStep position hold slot target maxLevel) :=
  Shape.of_line _ _ _ .insertStep rfl rfl (Nat.le_of_ble_eq_true rfl) rfl (fun _ h => Option.some.inj h ▸ rfl)

theorem Shape.modifyStep (stepId target : BitVec 16) (level : Byte) : Shape.Statement (.modifyStep stepId target level) :=
  Shape.of_line _ _ _ .modifyStep rfl rfl (Nat.le_of_ble_eq_true rfl) rfl (fun _ h => Option.some.inj h ▸ rfl)

theorem Shape.deleteStep (stepId : BitVec 16) : Shape.Statement (.deleteStep stepId) :=
  Shape.of_line _ _ _ .deleteStep rfl rfl (Nat.le_of_ble_eq_true rfl) rfl (fun _ h => Option.some.inj h ▸ rfl)

theorem Shape.cancelStep (stepId : BitVec 16) : Shape.Statement (.cancelStep stepId) :=
  Shape.of_line _ _ _ .cancelStep rfl rfl (Nat.le_of_ble_eq_true rfl) rfl (fun _ h => Option.some.inj h ▸ rfl)

theorem Shape.closeStepShort (stepId : BitVec 16) : Shape.Statement (.closeStepShort stepId) :=
  Shape.of_line _ _ _ .closeStepShort rfl rfl (Nat.le_of_ble_eq_true rfl) rfl (fun _ h => Option.some.inj h ▸ rfl)

theorem Shape.releaseHold (stepId : BitVec 16) : Shape.Statement (.releaseHold stepId) :=
  Shape.of_line _ _ _ .releaseHold rfl rfl (Nat.le_of_ble_eq_true rfl) rfl (fun _ h => Option.some.inj h ▸ rfl)

theorem Shape.setTrimBand (band : BitVec 16) : Shape.Statement (.setTrimBand band) :=
  Shape.of_line _ _ _ .setTrimBand rfl rfl (Nat.le_of_ble_eq_true rfl) rfl (fun _ h => Option.some.inj h ▸ rfl)

theorem Shape.writeHatchEntry (page hold present : Byte) (fore aft : BitVec 32) (lever limit : BitVec 16) : Shape.Statement (.writeHatchEntry page hold present fore aft lever limit) :=
  Shape.of_line _ _ _ .writeHatchEntry rfl rfl (Nat.le_of_ble_eq_true rfl) rfl (fun _ h => Option.some.inj h ▸ rfl)

theorem Shape.requestSwap : Shape.Statement .requestSwap :=
  Shape.of_line _ _ _ .requestSwap rfl rfl (Nat.le_of_ble_eq_true rfl) rfl (fun _ h => Option.some.inj h ▸ rfl)

theorem Shape.cancelSwap : Shape.Statement .cancelSwap :=
  Shape.of_line _ _ _ .cancelSwap rfl rfl (Nat.le_of_ble_eq_true rfl) rfl (fun _ h => Option.some.inj h ▸ rfl)

theorem Shape.openLot (number : BitVec 32) (grade refLength : Byte) (reference : List Byte) (declared : BitVec 32) : Shape.Statement (.openLot number grade refLength reference declared) := fun h => by
  have h24 : reference.length = 24 := of_decide_eq_true h
  exact Shape.of_line _ _ _ .openLot rfl rfl (by simp [maxBody, h24]) (by simp [Request.lengthOk, h24])
    (fun _ h => Option.some.inj h ▸ rfl) h

theorem Shape.closeLot (number : BitVec 32) : Shape.Statement (.closeLot number) :=
  Shape.of_line _ _ _ .closeLot rfl rfl (Nat.le_of_ble_eq_true rfl) rfl (fun _ h => Option.some.inj h ▸ rfl)

theorem Shape.releaseBill (number : BitVec 32) : Shape.Statement (.releaseBill number) :=
  Shape.of_line _ _ _ .releaseBill rfl rfl (Nat.le_of_ble_eq_true rfl) rfl (fun _ h => Option.some.inj h ▸ rfl)

theorem Shape.setTime (seconds : BitVec 32) : Shape.Statement (.setTime seconds) :=
  Shape.of_line _ _ _ .setTime rfl rfl (Nat.le_of_ble_eq_true rfl) rfl (fun _ h => Option.some.inj h ▸ rfl)

theorem Shape.writeSetting (identifier : BitVec 16) (value : BitVec 32) : Shape.Statement (.writeSetting identifier value) :=
  Shape.of_line _ _ _ .writeSetting rfl rfl (Nat.le_of_ble_eq_true rfl) rfl (fun _ h => Option.some.inj h ▸ rfl)

theorem Shape.acceptSettings : Shape.Statement .acceptSettings :=
  Shape.of_line _ _ _ .acceptSettings rfl rfl (Nat.le_of_ble_eq_true rfl) rfl (fun _ h => Option.some.inj h ▸ rfl)

theorem Shape.writeCalibration (zero span : BitVec 16) (band : Byte) (calUnlock : Bool) : Shape.Statement (.writeCalibration zero span band calUnlock) :=
  Shape.of_line _ _ _ .writeCalibration rfl rfl (Nat.le_of_ble_eq_true rfl) rfl (fun _ h => Option.some.inj h ▸ rfl)

theorem Shape.frameComplete (port : Station) (chars : List Byte) : Shape.Statement (.frameComplete port chars) :=
  Shape.of_none _ rfl

theorem Shape.stopBitMissing (port : Station) : Shape.Statement (.stopBitMissing port) :=
  Shape.of_none _ rfl

theorem Shape.idleGap (port : Station) : Shape.Statement (.idleGap port) :=
  Shape.of_none _ rfl

theorem Shape.lineBreak (port : Station) : Shape.Statement (.lineBreak port) :=
  Shape.of_none _ rfl

theorem Shape.takeRequest (port : Station) (calUnlock : Bool) : Shape.Statement (.takeRequest port calUnlock) :=
  Shape.of_none _ rfl

theorem Shape.replySent (port : Station) : Shape.Statement (.replySent port) :=
  Shape.of_none _ rfl

theorem Shape.conversionComplete (code : Code) : Shape.Statement (.conversionComplete code) :=
  Shape.of_none _ rfl

theorem Shape.refOkFall : Shape.Statement .refOkFall :=
  Shape.of_none _ rfl

theorem Shape.refOkRise : Shape.Statement .refOkRise :=
  Shape.of_none _ rfl

theorem Shape.wGroupArrival : Shape.Statement .wGroupArrival :=
  Shape.of_none _ rfl

theorem Shape.referenceFaultNotice (consumer : Consumer) : Shape.Statement (.referenceFaultNotice consumer) :=
  Shape.of_none _ rfl

theorem Shape.referenceGoodNotice (consumer : Consumer) : Shape.Statement (.referenceGoodNotice consumer) :=
  Shape.of_none _ rfl

theorem Shape.tachPulse : Shape.Statement .tachPulse :=
  Shape.of_none _ rfl

theorem Shape.dGroupArrival : Shape.Statement .dGroupArrival :=
  Shape.of_none _ rfl

theorem Shape.highHoldExpiry : Shape.Statement .highHoldExpiry :=
  Shape.of_none _ rfl

theorem Shape.referenceTimerExpiry : Shape.Statement .referenceTimerExpiry :=
  Shape.of_none _ rfl

theorem Shape.encoderCount (direction : Direction) : Shape.Statement (.encoderCount direction) :=
  Shape.of_none _ rfl

theorem Shape.travelSpeedPeriodEnd : Shape.Statement .travelSpeedPeriodEnd :=
  Shape.of_none _ rfl

theorem Shape.homeCloses (closed : Bool) : Shape.Statement (.homeCloses closed) :=
  Shape.of_none _ rfl

theorem Shape.limitSwitchAsserted (switch : Direction) (asserted : Bool) : Shape.Statement (.limitSwitchAsserted switch asserted) :=
  Shape.of_none _ rfl

theorem Shape.travelTimerExpiry : Shape.Statement .travelTimerExpiry :=
  Shape.of_none _ rfl

theorem Shape.runOutTimerExpiry : Shape.Statement .runOutTimerExpiry :=
  Shape.of_none _ rfl

theorem Shape.estopAsserted : Shape.Statement .estopAsserted :=
  Shape.of_none _ rfl

theorem Shape.estopReleased : Shape.Statement .estopReleased :=
  Shape.of_none _ rfl

theorem Shape.beltRunFall : Shape.Statement .beltRunFall :=
  Shape.of_none _ rfl

theorem Shape.beltRunRise : Shape.Statement .beltRunRise :=
  Shape.of_none _ rfl

theorem Shape.governorPeriodExpiry : Shape.Statement .governorPeriodExpiry :=
  Shape.of_none _ rfl

theorem Shape.feedRatePeriodEnd : Shape.Statement .feedRatePeriodEnd :=
  Shape.of_none _ rfl

theorem Shape.presenceTimerExpiry : Shape.Statement .presenceTimerExpiry :=
  Shape.of_none _ rfl

theorem Shape.secondsTick : Shape.Statement .secondsTick :=
  Shape.of_none _ rfl

theorem Shape.powerOn : Shape.Statement .powerOn :=
  Shape.of_none _ rfl

theorem Shape.resetNAsserted : Shape.Statement .resetNAsserted :=
  Shape.of_none _ rfl

theorem Shape.coldStartRecovery (abandoned : Option RecoveryPoint) : Shape.Statement (.coldStartRecovery abandoned) :=
  Shape.of_none _ rfl

theorem Shape.characterReceived (port : Station) (char : Byte) : Shape.Statement (.characterReceived port char) :=
  Shape.of_none _ rfl

end Sys2Proof.Laws
end

