-- ==== Sys2Proof/Laws/Ports.lean ====
section
/-! SUPPORT. Ports: what each operation of a station port keeps of the port law (section 8.1). -/

namespace Sys2Proof.Machine

open Sys2Proof

theorem Ports.lawful_set {x : Ports} {v : Port} (st : Station) (h : x.Lawful) (hv : v.Lawful) : (x.set v st).Lawful := by
  obtain ⟨h1, h2, h3⟩ := h
  cases st
  · exact ⟨hv, h2, h3⟩
  · exact ⟨h1, hv, h3⟩
  · exact ⟨h1, h2, hv⟩

theorem Ports.lawful_get {x : Ports} (st : Station) (h : x.Lawful) : (x.get st).Lawful := by
  obtain ⟨h1, h2, h3⟩ := h
  cases st <;> assumption

theorem setPort_lawful {st : Station} {v : Port} {s : State} (h : s.ports.Lawful) (hv : v.Lawful) :
    (setPort st v s).ports.Lawful := Ports.lawful_set st h hv

theorem Port.cold_lawful : Port.cold.Lawful := by simp [Port.Lawful, Port.cold, Port.FrameFits]

theorem Port.dropFrame_lawful {p : Port} (h : p.Lawful) : p.dropFrame.Lawful := by
  obtain ⟨a, b, c, d, e, f⟩ := h
  exact ⟨a, b, c, d, e, rfl⟩

theorem Port.gap_lawful {p : Port} (h : p.Lawful) : p.gap.Lawful := by
  unfold Port.gap
  obtain ⟨a, b, c, d, e, f⟩ := h
  split
  · exact ⟨a, b, c, d, e, f⟩
  · exact ⟨a, b, c, d, e, rfl⟩

theorem frameBody_length (frame : List Byte) (h : headerLength frame ≤ 512) : (frameBody frame).length ≤ 512 := by
  simp [frameBody]; omega

theorem Port.enqueue_lawful {p : Port} {e : QueueEntry} (h : p.Lawful) (he : e.body.length ≤ 512) : (p.enqueue e).Lawful := by
  obtain ⟨a, b, c, d, g, f⟩ := h
  unfold Port.enqueue
  split
  · exact ⟨a, b, c, d, g, f⟩
  · rename_i hq
    refine ⟨?_, ?_, ?_, ?_, g, f⟩
    · simp; omega
    · simp; omega
    · intro x hx; simp at hx; rcases hx with hx | rfl
      · exact c x hx
      · exact he
    · simp

theorem headerLength_append (f : List Byte) (b : Byte) (h : 5 ≤ f.length) : headerLength (f ++ [b]) = headerLength f := by
  unfold headerLength
  rw [List.drop_append_of_le_length (by omega), List.take_append_of_le_length (by simp; omega)]

theorem headerGood_le (f : List Byte) (h : headerGood f = true) : headerLength f ≤ 512 := by
  simp [headerGood] at h; exact h.2

theorem completeFrame_lawful {st : Station} {frame : List Byte} {s : State} (h : s.ports.Lawful)
    (hl : headerLength frame ≤ 512) : (completeFrame st frame s).ports.Lawful := by
  unfold completeFrame
  have hp := Ports.lawful_get st h
  dsimp only
  split <;> refine setPort_lawful (by simpa using h) ?_ <;>
    exact Port.enqueue_lawful (Port.dropFrame_lawful (by simpa using hp)) (frameBody_length _ hl)

theorem takeCharacter_lawful {st : Station} {s : State} {b : Byte} (h : s.ports.Lawful) :
    (takeCharacter st s b).ports.Lawful := by
  have hp := Ports.lawful_get st h
  obtain ⟨q1, q2, q3, q4, q5, q6⟩ := id hp
  unfold takeCharacter
  dsimp only
  unfold Port.FrameFits at q6
  split
  · exact h
  · exact setPort_lawful h ⟨q1, q2, q3, q4, q5, by simp [Port.FrameFits]⟩
  · rename_i hf; rw [hf] at q6; dsimp only at q6
    split
    · rename_i h5
      unfold judgeHeader
      dsimp only
      split
      · rename_i hg
        split
        · exact completeFrame_lawful h (headerGood_le _ hg)
        · rename_i h0
          refine setPort_lawful h ⟨q1, q2, q3, q4, q5, ?_⟩
          simp only [Port.FrameFits]
          exact ⟨by omega, by omega, headerGood_le _ hg⟩
      · exact setPort_lawful h (Port.dropFrame_lawful hp)
    · rename_i h5
      refine setPort_lawful h ⟨q1, q2, q3, q4, q5, ?_⟩
      simp only [Port.FrameFits, hf]
      simp at *; omega
  · rename_i hf; rw [hf] at q6; dsimp only at q6
    rw [headerLength_append _ _ q6.1]
    split
    · rename_i h5
      refine setPort_lawful h ⟨q1, q2, q3, q4, q5, ?_⟩
      simp only [Port.FrameFits]
      rw [headerLength_append _ _ q6.1]
      simp at *; omega
    · rename_i h5
      refine setPort_lawful h ⟨q1, q2, q3, q4, q5, ?_⟩
      simp only [Port.FrameFits, hf]
      rw [headerLength_append _ _ q6.1]
      simp at *; omega
  · rename_i hf; rw [hf] at q6; dsimp only at q6
    rw [headerLength_append _ _ (by omega)]
    split
    · rename_i h5
      exact completeFrame_lawful h (by rw [headerLength_append _ _ (by omega)]; exact q6.2.2.1)
    · rename_i h5
      refine setPort_lawful h ⟨q1, q2, q3, q4, q5, ?_⟩
      simp only [Port.FrameFits, hf]
      rw [headerLength_append _ _ (by omega)]
      simp at *; omega

theorem takeCharacters_lawful {st : Station} {l : List Byte} {s : State} (h : s.ports.Lawful) :
    (l.foldl (takeCharacter st) s).ports.Lawful := by
  induction l generalizing s with
  | nil => exact h
  | cons b bs ih => exact ih (takeCharacter_lawful h)

theorem Port.replyDone_lawful {p : Port} (h : p.Lawful) : p.replyDone.Lawful := by
  unfold Port.replyDone
  split
  · obtain ⟨a, b, c, d, g, f⟩ := h
    refine ⟨?_, ?_, ?_, ?_, ?_, f⟩
    · simp; omega
    · simp; omega
    · intro e he; exact c e (List.mem_of_mem_tail he)
    · simp
    · simp
  · exact h

theorem takeHead_ports_lawful {st : Station} {u : Bool} {s : State} (h : s.ports.Lawful) :
    (takeHead st u s).ports.Lawful := by
  unfold takeHead
  split
  · rename_i e es hs hq
    unfold sendReply
    dsimp only
    refine setPort_lawful (by simpa using h) ?_
    have hp := Ports.lawful_get st h
    obtain ⟨a, b, c, d, g, f⟩ := hp
    simp only [judgeEntry_frame, setCalUnlock_frame]
    exact ⟨a, b, c, by simp [hq], by simp, f⟩
  · exact h

theorem coldStart_ports_lawful (s : State) : (coldStart s).ports.Lawful := by
  simp only [coldStart, Ports.cold, Ports.Lawful]
  exact ⟨Port.cold_lawful, Port.cold_lawful, Port.cold_lawful⟩

end Sys2Proof.Machine
end

