-- ==== Sys2Proof/Laws/Settings.lean ====
section
/-! SUPPORT. The settings record: a written setting reads back and leaves the others (R178), and what keeps the settings law (R42, R67). -/

namespace Sys2Proof.Machine

open Sys2Proof

theorem default_settings_lawful : Settings.default.Lawful := by
  refine ⟨?_, ?_, ?_⟩
  · decide
  · intro c; simp [Settings.default, ChannelSettings.default]
  · decide

theorem channel_get_write (cs : Vector ChannelSettings 8) (c d : ChannelNo) (x : ChannelSettings) :
    (cs.set c x).get d = if d = c then x else cs.get d := get_set cs c d x

theorem mem_recordKeys_ne {k : SettingKey} (h : k ∈ recordKeys) : k ≠ .preact := by
  simp [recordKeys] at h; exact h.2

theorem settingValue_write (x : Settings) (v : Nat) (k k' : SettingKey) (hk : k' ≠ .preact) (hp : k ≠ .preact)
   (hr : k.inRange v = true) :
    settingValue (writeRecord x v k) 0 k' = if k' = k then v else settingValue x 0 k' := by
  cases k with
  | channel c a =>
    cases k' with
    | channel d b =>
      simp only [settingValue, writeRecord, channel_get_write]
      by_cases hd : d = c
      · subst hd
        cases a <;> cases b <;> simp [ChannelSettings.value, ChannelSettings.write]
      · simp [hd]
    | _ => simp [settingValue, writeRecord]
  | mask =>
    cases k' <;> simp_all [settingValue, writeRecord, SettingKey.inRange]
    omega
  | _ => cases k' <;> simp_all [settingValue, writeRecord]

theorem ownWriteSetting_settings_lawful (i v : Nat) (s : State) (h : s.store.settings.Lawful) :
    (ownWriteSetting i v s).1.store.settings.Lawful := by
  unfold ownWriteSetting
  split
  · exact h
  · rename_i k hk
    split
    · exact h
    · rename_i hr
      split
      · exact h
      · rename_i hn
        simp only [Bool.or_eq_true, Bool.not_eq_true', not_or, Bool.not_eq_true, Bool.not_eq_false] at hr
        simp only [applySetting_frame]
        unfold storeSetting
        split
        · simpa using h
        · rename_i hp
          simp only [storeSettings]
          obtain ⟨h1, h2, h3⟩ := h
          refine ⟨?_, ?_, ?_⟩
          · intro k' hk'
            rw [settingValue_write _ _ _ _ (mem_recordKeys_ne hk') hp hr.2]
            split
            · rename_i e; subst e; exact hr.2
            · exact h1 k' hk'
          · intro c
            have hc := h2 c
            cases k with
            | channel d a =>
              simp only [writeRecord, channel_get_write]
              by_cases hd : c = d
              · subst hd
                cases a <;> simp_all [ChannelSettings.write, ownerRefusal, firstOf]
              · simpa [hd] using hc
            | _ => exact hc
          · cases k <;> simp_all [writeRecord, ownerRefusal, firstOf] <;>
              (by_contra hc; simp only [Nat.not_le] at hc; simp [hc] at hn)

theorem ownWriteCalibration_settings_lawful (z sp b : Nat) (s : State) (h : s.store.settings.Lawful) :
    (ownWriteCalibration z sp b s).1.store.settings.Lawful := by
  unfold ownWriteCalibration
  split
  · exact h
  · rename_i hr
    split
    · exact h
    · simp only [calibrate, storeSettings]
      obtain ⟨h1, h2, h3⟩ := h
      refine ⟨?_, h2, h3⟩
      intro k hk
      have := h1 k hk
      simp at hr
      cases k <;> simp_all [settingValue]

end Sys2Proof.Machine
end

