-- ==== Sys2Proof/Tests/Slice0.lean ====
section
/-! SUPPORT. Tests: ill-formed commands refused, the manual's worked examples, small tests of one step for the commands, and for each statement of Certificates/Slice0/Obligations.lean a state that meets its hypotheses. -/

namespace Sys2Proof.Tests

open Sys2Proof Sys2Proof.Machine

set_option maxRecDepth 20000

/-! ### Well-formed commands -/

theorem test_wellFormed_presence : (Instr.presence (List.replicate 513 0)).wellFormed = false := by decide
theorem test_wellFormed_frame_empty : (Instr.frameComplete .cab []).wellFormed = false := by decide
theorem test_wellFormed_frame_long : (Instr.frameComplete .cab (List.replicate 520 0)).wellFormed = false := by decide
theorem test_wellFormed_openLot : (Instr.openLot 1 1 2 [0x41, 0x42] 0).wellFormed = false := by decide
theorem test_wellFormed_good : (Instr.frameComplete .deck [0x31, 0, 0, 0, 0xCE]).wellFormed = true := by decide

/-! ### Small states -/

/-- A part whose recovery is complete, with its reference good and its belt running. -/
def up : State :=
  { State.reset with
    phase := .running
    pins := { State.reset.pins with refOk := true, beltRun := true }
    converter := { State.reset.converter with state := .running }
    governor := { State.reset.governor with beltPermit := true, period := some 0 }
    accounts := { State.reset.accounts with second := some 0 } }

/-- The state after a command; the state itself if the command stops. -/
def after (c : Instr) (s : State) : State :=
  match exec c s with
  | .next t => t
  | _ => s

/-- The answer kept after a command. -/
def reply (c : Instr) (s : State) : Option (Station × Answer) := (after c s).answer

/-- A hatch: 0 to 2 m, lever 5 m, limit 20,000 t. -/
def hatchA : Hatch := { fore := 0, aft := 2000, lever := 50, limit := 20000 }

/-- A hatch: 4 to 6 m, lever −5 m, limit 20,000 t. -/
def hatchB : Hatch := { fore := 4000, aft := 6000, lever := -50, limit := 20000 }

/-- A PENDING step of 90 t to hold 1 from slot 0. -/
def step1 : Step :=
  { id := 1, hold := 0, slot := 0, target := 90000000, maxLevel := none, state := .pending, holdReason := none,
    cutoffReason := none, placed := 0, effective := none, shortClosed := false }

/-- A PENDING step of 10 t to hold 2 from slot 0. -/
def step2 : Step := { step1 with id := 2, hold := 1, target := 10000000 }

/-- An OPEN lot with number 5. -/
def lot5 : Lot := { Lot.free with isOpen := true, number := 5, grade := 2, reference := [0x41, 0x42] }

/-- A call with two hatches, an OPEN lot and a plan of two steps, the spout over hold 1. -/
def call : State :=
  { up with
    plan := { up.plan with callOpen := true, callId := 7, steps := [step1, step2], stepIdCounter := 3 }
    travel := { up.travel with
      pages := up.travel.pages.set (0 : Page) ((HatchPage.empty.set (0 : Hold) (some hatchA)).set (1 : Hold) (some hatchB))
      position := 1000, referenced := true, spoutOver := some 0, state := .parked, diverter := .normal }
    accounts := { up.accounts with lots := up.accounts.lots.set (0 : Slot) lot5 }
    governor := { up.governor with presenceTimer := some 0, presenceLive := true } }

/-- The call with its first step ACTIVE in a governor state. -/
def pouring (g : GovernorState) (level : Nat) : State :=
  { call with
    plan := { call.plan with
      steps := [{ step1 with state := .active, effective := some 90000000 }, step2], revision := 1 }
    weigher := { call.weigher with weighingLot := some 0 }
    governor := { call.governor with
      state := g, effective := some 90000000, clean := true, requested := 100, ceiling := 100, level := level
      dutyStaged := duty level, feedPermit := g.feeding } }

/-- The call with its first step in a state of the table, for a reason. -/
def stepping (st : StepState) (r : Option HoldReason) : State :=
  { call with plan := { call.plan with
      steps := [{ step1 with state := st, holdReason := r, effective := some 90000000 }, step2] } }

/-- The carriage in a state, with a target and a direction. -/
def carriage (st : TravelState) (x : Nat) (d : Direction) : State :=
  { call with travel := { call.travel with
      state := st, target := some x, direction := some d, request := some (.goToPosition x), travelTimer := some 0
      brakeRelease := true, dutyStaged := 40 } }

/-- The line with grain of the unassigned account at its discharge end. -/
def grain (mass : Nat) (s : State) : State :=
  { s with weigher := { s.weigher with
      line := { mass := mass, tag := some .unassigned } :: List.replicate 159 Entry.empty, lineTotal := mass } }

/-! ### The manual's worked examples -/

/-- R159: the CRC over 31h to 39h is 29B1h. -/
theorem test_crc : crc16 [0x31, 0x32, 0x33, 0x34, 0x35, 0x36, 0x37, 0x38, 0x39] = 0x29B1#16 := by decide

/-- R158: the check byte of a Start Step with tag 2Ah and length 2 is C3h; R162: of its reply, 35h. -/
theorem test_headerCheck : headerCheck [0x10, 0x2A, 0x02, 0x00] = 0xC3#8 ∧ headerCheck [0x90, 0x2A, 0x10, 0x00] = 0x35#8 := by
  decide

/-- R110: 100 %, 60 % and 20 % are duties 255, 153 and 51. -/
theorem test_duty : duty 100 = 255 ∧ duty 60 = 153 ∧ duty 20 = 51 := by decide

/-- Section 1.3: the loaded belt gives 119,680 g/m, the blanked one 0, the third more than the greatest load. -/
theorem test_rawLoad :
    rawLoad { Settings.default with zero := 410, span := 40, band := 8 } ⟨3400, 3412, 3390, 3406⟩ = 119680 ∧
    rawLoad { Settings.default with zero := 410, span := 40, band := 8 } ⟨412, 415, 409, 411⟩ = 0 ∧
    rawLoad { Settings.default with zero := 410, span := 9999, band := 8 } ⟨4000, 4001, 3999, 4002⟩ = 35901410 := by
  decide

/-- Section 1.4: three loads give a mean of 119,651 g/m and a segment of 59,826 g; R12: the greatest segment. -/
theorem test_segment :
    segmentMean 358952 3 = 119651 ∧ segmentMass 119651 500 = 59826 ∧ segmentMass 999999 2000 = 1999998 := by decide

/-- Section 3.3: code 1200 with O = 200 and G = 512 is 2000 mg/m³, and the ring's mean is 2000. -/
theorem test_dustValue : dustValue 1200 200 512 = 2000 ∧ (Ring.mean ⟨1990, 2000, 2010, 2000⟩) = 2000 ∧
    dustValue 4095 0 65535 = 9999 ∧ codeInRange 16 = false ∧ codeInRange 17 = true ∧ codeInRange 4078 = true ∧
    codeInRange 4079 = false := by decide

/-- Section 6.2: the trim term of 90,000,000 g binds. -/
theorem test_trimAllowance : trimAllowance 1500 4200000000 120 = 90000000 ∧
    (TargetTerms.mk 250000000 150000000 (some 90000000)).least = 90000000 := by decide

/-- Section 6.4: the four cases of the preact. -/
theorem test_preact :
    adaptedPreact 1800000 20000000 90420000 90000000 = 1905000 ∧
    adaptedPreact 2000000 20000000 89939998 90000000 = 1985000 ∧
    adaptedPreact 1905000 20000000 89976500 90000000 = 1899125 ∧
    adaptedPreact 19900000 20000000 90600000 90000000 = 20000000 := by decide

/-- Section 7.5: net mass and tonnage of two of the bills. -/
theorem test_tonnage :
    (formBill 1 0 { lot5 with ledger := { Ledger.empty with weighed := 1250437499, rejected := 59790 } } up).tonnage = 1250378 ∧
    (formBill 1 0 { lot5 with ledger := { Ledger.empty with weighed := 700499 } } up).tonnage = 700 := by decide

/-- Section 7.4: the moment under page 0 and under page 1. -/
theorem test_moment :
    momentOn ((HatchPage.empty.set (2 : Hold) (some { hatchA with lever := 120 })).set (3 : Hold)
      (some { hatchA with lever := 40 })) (((Vector.replicate 8 0).set (2 : Hold) 90000000).set (3 : Hold) 40000000) =
        12400000000 ∧
    momentOn (HatchPage.empty.set (2 : Hold) (some { hatchA with lever := 118 }))
      (((Vector.replicate 8 0).set (2 : Hold) 90000000).set (3 : Hold) 40000000) = 10620000000 := by decide

/-! ### Request lines of section 8.8, written out -/

theorem test_line_insertStep :
    lineBytes (.insertStep 3 2 1 0x0102 50) = some (0x32, [0x03, 0x02, 0x01, 0x02, 0x01, 0x32]) := by decide
theorem test_line_openCall : lineBytes (.openCall 0x01020304 (some 0x0506)) =
    some (0x30, [0x04, 0x03, 0x02, 0x01, 0x06, 0x05]) := by decide
theorem test_line_writeSetting :
    lineBytes (.writeSetting 0x0207 120) = some (0x60, [0x07, 0x02, 0x78, 0x00, 0x00, 0x00]) := by decide
theorem test_line_writeHatchEntry : lineBytes (.writeHatchEntry 1 3 1 1000 2500 0xFFF6 1800) =
    some (0x40, [0x01, 0x03, 0x01, 0xE8, 0x03, 0x00, 0x00, 0xC4, 0x09, 0x00, 0x00, 0xF6, 0xFF, 0x08, 0x07]) := by decide
theorem test_frame_startStep : frameBytes 0x10 0x2A [5, 0] =
    [0x10, 0x2A, 0x02, 0x00, 0xC3, 0x05, 0x00] ++ le 2 (crc16 [5, 0]).toNat := by decide

/-! ### READ and EVENT -/

theorem test_readStatus : ((reply (.readStatus .cab) call).map (fun a => a.2.data.length)) = some 286 := by decide
theorem test_readHolds : ((reply (.readHolds .cab) call).map (fun a => a.2.data.length)) = some 187 := by decide
theorem test_readTransit : ((reply (.readTransit .cab) (grain 5 call)).map (fun a => a.2.data.length)) = some 44 := by decide
theorem test_readSettings : ((reply (.readSettings .cab 66 100) call).map (fun a => a.2.data.length)) = some 16 := by decide
theorem test_readPlan_limit : reply (.readPlan .deck 0 15) up = some (.deck, answerOnly .badValue) := by decide
theorem test_readStep_notFound : reply (.readStep .cab 1) up = some (.cab, answerOnly .notFound) := by decide
theorem test_readLot_slot : reply (.readLot .office 16 0 100) up = some (.office, answerOnly .badValue) := by decide
theorem test_readHatchMap_page : reply (.readHatchMap .deck 2 0 100) up = some (.deck, answerOnly .badValue) := by decide
theorem test_readBill_oldest : reply (.readBill .office 0 0 100) up = some (.office, answerOnly .notFound) := by decide
theorem test_fetchEvent_none : reply (.fetchEvent .cab) up = some (.cab, answerOk (List.replicate 14 0)) := by decide
theorem test_fetchEvent_first :
    ((after (.fetchEvent .cab) (after .estopAsserted up)).events.cab.entries, (after .estopAsserted up).events.cab.attn) =
      ([], true) := by decide

/-! ### POUR -/

theorem test_startStep_starts : (after (.startStep 0) call).governor.state = .ramping ∧
    (after (.startStep 0) call).governor.feedPermit = true := by decide
theorem test_startStep_stale : reply (.startStep 1) call = some (.cab, answerOnly .stalePlan) := by decide
theorem test_resume_dust : reply .resume { pouring .paused 0 with dust := { up.dust with stage := .high } } =
    some (.cab, answerNotReady .dust) := by decide
theorem test_resume_ramps : (after .resume (pouring .paused 0)).governor.state = .ramping := by decide
theorem test_stopStep : (after .stopStep (pouring .running 100)).governor.state = .cutoff ∧
    (after .stopStep (pouring .running 100)).governor.level = 0 := by decide
theorem test_setFeedLevel : (after (.setFeedLevel 60) (pouring .running 100)).governor.dutyStaged = 153 := by decide
theorem test_setFeedLevel_range : reply (.setFeedLevel 9) up = some (.cab, answerOnly .badValue) := by decide
theorem test_presence : (after (.presence []) up).governor.presenceLive = true := by decide
theorem test_acknowledgeTrip : reply .acknowledgeTrip { up with dust := { up.dust with reference := .fault } } =
    some (.cab, answerNotReady .referenceFault) := by decide
theorem test_clearStop : (after .clearStop (after .estopReleased (after .estopAsserted call))).travel.state = .parked := by
  decide

/-! ### TRAVEL -/

theorem test_goToHold : (after (.goToHold 2) call).travel.state = .moving ∧
    (after (.goToHold 2) call).travel.direction = some .aft := by decide
theorem test_goToHold_absent : reply (.goToHold 3) call = some (.cab, answerOnly .notFound) := by decide
theorem test_goToPosition : reply (.goToPosition 250001) call = some (.cab, answerOnly .badValue) := by decide
theorem test_referenceTravel : (after .referenceTravel up).travel.state = .referencing := by decide
theorem test_cancelTravel : (after .cancelTravel (carriage .moving 9000 .aft)).travel.state = .parked := by decide
theorem test_clearTravelFault : (after .clearTravelFault (carriage .fault 9000 .aft)).travel.state = .parked := by decide
theorem test_setDiverter : (after (.setDiverter 1) call).travel.diverter = .reject := by decide
theorem test_setDiverter_busy : reply (.setDiverter 0) (pouring .running 100) = some (.cab, answerOnly .busy) := by decide

/-! ### HOLD POUR -/

theorem test_holdPour : (after .holdPour (pouring .running 100)).governor.state = .paused := by decide
theorem test_releasePour : (after .releasePour (after .holdPour up)).governor.deckHold = false := by decide

/-! ### PLAN -/

theorem test_openCall : (after (.openCall 7 none) up).plan.trimBand = 1000 ∧
    (after (.openCall 7 none) up).plan.revision = 1 := by decide
theorem test_closeCall_busy : reply .closeCall call = some (.deck, answerOnly .busy) := by decide
theorem test_insertStep : ((after (.insertStep 1 2 0 50 0) call).plan.steps.map Step.id) = [3, 1, 2] := by decide
theorem test_insertStep_position : reply (.insertStep 4 2 0 50 0) call = some (.deck, answerOnly .badValue) := by decide
theorem test_modifyStep : ((after (.modifyStep 2 20 0) call).plan.steps.map Step.target) = [90000000, 20000000] := by decide
theorem test_deleteStep : ((after (.deleteStep 1) call).plan.steps.map Step.id) = [2] := by decide
theorem test_cancelStep : ((after (.cancelStep 1) (pouring .running 100)).plan.steps.map Step.cutoffReason) =
    [some .deck, none] := by decide
/-- R94, R102: ACTIVE, DECK and the new revision. -/
theorem test_cancelStep_reply : reply (.cancelStep 1) (pouring .running 100) = some (.deck, answerOk [1, 5, 2, 0]) := by decide
theorem test_closeStepShort : ((after (.closeStepShort 1) (stepping .held (some .trim))).plan.steps.map Step.state) =
    [.done, .pending] := by decide
theorem test_releaseHold : ((after (.releaseHold 1) (stepping .held (some .trim))).plan.steps.map Step.holdReason) =
    [none, none] := by decide
/-- R94, R104: the new revision. -/
theorem test_releaseHold_reply : reply (.releaseHold 1) (stepping .held (some .trim)) = some (.deck, answerOk [1, 0]) := by decide
theorem test_setTrimBand : reply (.setTrimBand 0) call = some (.deck, answerOnly .badValue) := by decide

/-! ### HATCH -/

theorem test_writeHatchEntry : ((after (.writeHatchEntry 1 3 1 1000 2500 0xFFF6 1800) call).travel.pages.get (1 : Page)).get
    (2 : Hold) = some { fore := 1000, aft := 2500, lever := -10, limit := 1800 } := by decide
theorem test_writeHatchEntry_active : reply (.writeHatchEntry 0 3 1 9000 9900 0 1800) call =
    some (.deck, answerOnly .busy) := by decide
theorem test_requestSwap_lacks : reply .requestSwap call = some (.deck, answerOnly .badValue) := by decide
theorem test_cancelSwap : (after .cancelSwap { call with travel := { call.travel with swapPending := true } }).travel.swapPending =
    false := by decide

/-! ### LOT -/

theorem test_openLot : ((after (.openLot 9 1 2 (List.replicate 24 0x41) 0) call).accounts.lots.get (1 : Slot)).number = 9 := by
  decide
theorem test_openLot_again : reply (.openLot 5 1 2 (List.replicate 24 0x41) 0) call =
    some (.office, answerOnly .badValue) := by decide
theorem test_closeLot_busy : reply (.closeLot 5) call = some (.office, answerOnly .busy) := by decide
theorem test_closeLot : (after (.closeLot 5) { call with plan := up.plan }).accounts.billCounter = some 2 ∧
    ((after (.closeLot 5) { call with plan := up.plan }).accounts.lots.get (0 : Slot)).isOpen = false := by decide
theorem test_releaseBill : reply (.releaseBill 1) up = some (.office, answerOnly .notFound) := by decide
theorem test_setTime : (after (.setTime 1000) up).accounts.seconds = 1000 ∧ (after (.setTime 1000) up).accounts.timeValid := by
  decide

/-! ### SETTINGS and CALIBRATION -/

theorem test_writeSetting : (after (.writeSetting 0x0300 30) up).store.settings.rampRate = 30 := by decide
theorem test_writeSetting_step : reply (.writeSetting 0x0300 35) up = some (.office, answerOnly .badValue) := by decide
theorem test_acceptSettings : (after .acceptSettings { up with store := { up.store with defaulted := true } }).store.defaulted =
    false := by decide
theorem test_writeCalibration : (after (.writeCalibration 410 40 8 true) up).store.calibrationCount = 1 := by decide
theorem test_writeCalibration_locked : reply (.writeCalibration 410 40 8 false) up = some (.office, answerOnly .locked) := by
  decide

/-! ### The ports -/

/-- A port of the Cab in READY. -/
def ready : State := after (.idleGap .cab) up

theorem test_idleGap : ready.ports.cab.framer = .ready := by decide
theorem test_frameComplete : (after (.frameComplete .cab (frameBytes 0x12 7 [])) ready).ports.cab.queue =
    [{ code := 0x12, tag := 7, body := [], footerGood := true }] := by decide
theorem test_frameComplete_header : (after (.frameComplete .cab [0x12, 7, 0, 0, 0]) ready).ports.cab =
    { ready.ports.cab with framer := .waitGap } := by decide
theorem test_characterReceived : (after (.characterReceived .cab 0x12) ready).ports.cab.framer = .header := by decide
theorem test_stopBitMissing : (after (.stopBitMissing .cab) (after (.characterReceived .cab 1) ready)).ports.cab.frame = [] := by
  decide
theorem test_takeRequest : (after (.takeRequest .cab false) (after (.frameComplete .cab (frameBytes 0x12 7 [])) ready)).ports.cab.reply =
    frameBytes 0x92 7 [0x07, 0x04, 0x01] := by decide
theorem test_replySent : (after (.replySent .cab) (after (.takeRequest .cab false)
    (after (.frameComplete .cab (frameBytes 0x12 7 [])) ready))).ports.cab.queue = [] := by decide
theorem test_lineBreak : (after (.lineBreak .cab) ready).ports.cab = Port.cold := by decide

/-! ### The converter and its consumers -/

theorem test_conversionComplete : (after (.conversionComplete 7) up).converter.slots.c0 = 7 ∧
    (after (.conversionComplete 7) up).converter.slot = 1 := by decide
theorem test_refOkFall : (after .refOkFall up).converter.toMonitor = [.referenceFault] := by decide
theorem test_refOkRise : (after .refOkRise (after .refOkFall up)).converter.state = .running := by decide
theorem test_referenceFaultNotice : (after (.referenceFaultNotice .weigher) (after .refOkFall up)).weigher.input = .noReference := by
  decide
theorem test_referenceGoodNotice : (after (.referenceGoodNotice .monitor) (after (.referenceFaultNotice .monitor)
    (after .refOkRise (after .refOkFall up)))).dust.referenceTimer = none := by decide

/-- One delivery waiting for each consumer. -/
def delivered (w : Quad) (k : GroupKind) (d : Quad) : State :=
  { up with converter := { up.converter with toWeigher := [.group .w w], toMonitor := [.group k d] } }

theorem test_wGroupArrival : (after .wGroupArrival (delivered ⟨1, 2, 3, 4⟩ .d1 ⟨0, 0, 0, 0⟩)).weigher.segmentSum = 3 := by decide
theorem test_wGroupArrival_stuck :
    (after .wGroupArrival (delivered ⟨4095, 4095, 4095, 4095⟩ .d1 ⟨0, 0, 0, 0⟩)).weigher.input = .stuck := by decide
theorem test_dGroupArrival :
    ((after .dGroupArrival (delivered ⟨0, 0, 0, 0⟩ .d2 ⟨100, 500, 16, 4079⟩)).dust.channels.get (5 : ChannelNo)).filtered = 500 := by
  decide
theorem test_highHoldExpiry : (after .highHoldExpiry { up with dust := { up.dust with stage := .high, highHold := some 30000 } }).dust.tripLatch =
    some .holdTime := by decide
theorem test_referenceTimerExpiry :
    (after .referenceTimerExpiry { up with dust := { up.dust with referenceTimer := some 2000 } }).governor.beltPermit = false := by
  decide
theorem test_tachPulse : (after .tachPulse up).weigher.pulseCount = 1 := by decide
theorem test_tachPulse_close :
    (after .tachPulse (grain 700 { up with weigher := { up.weigher with pulseCount := 49 } })).accounts.unassigned.rejected = 700 := by
  decide

/-! ### The carriage -/

theorem test_encoderCount : (after (.encoderCount .aft) call).travel.position = 1001 := by decide
theorem test_encoderCount_creep : (after (.encoderCount .aft) (carriage .moving 2501 .aft)).travel.state = .creeping := by decide
theorem test_travelSpeedPeriodEnd : (after .travelSpeedPeriodEnd (carriage .moving 9000 .aft)).travel.dutyForce = 40 := by decide
theorem test_homeCloses : (after (.homeCloses true) (carriage .referencing 0 .aft)).travel.position = 0 := by decide
theorem test_limitSwitch : (after (.limitSwitchAsserted .aft true) (carriage .moving 9000 .aft)).travel.faultCause = some .limit := by
  decide
theorem test_limitSwitch_other : (after (.limitSwitchAsserted .fore true) (carriage .moving 9000 .aft)).travel.state = .moving := by
  decide
theorem test_travelTimerExpiry : (after .travelTimerExpiry (carriage .creeping 9000 .aft)).travel.faultCause = some .timeout := by
  decide
theorem test_runOutTimerExpiry : (after .runOutTimerExpiry (after (.goToHold 2) (grain 5 call))).travel.state = .parked := by decide

/-! ### The governor's inputs and the clock -/

theorem test_estopAsserted : (after .estopAsserted (pouring .running 100)).governor.feedPermit = false ∧
    (after .estopAsserted (pouring .running 100)).travel.state = .stopped := by decide
theorem test_estopReleased : (after .estopReleased (after .estopAsserted up)).governor.beltPermit = true := by decide
theorem test_beltRunFall : (after .beltRunFall (pouring .running 100)).governor.state = .paused := by decide
theorem test_beltRunRise : (after .beltRunRise (after .beltRunFall (pouring .running 100))).governor.state = .paused := by decide
theorem test_governorPeriodExpiry : (after .governorPeriodExpiry (pouring .ramping 97)).governor.level = 99 ∧
    (after .governorPeriodExpiry (pouring .ramping 99)).governor.state = .running := by decide
theorem test_feedRatePeriodEnd : (after .feedRatePeriodEnd (pouring .running 100)).governor.dutyForce = 255 := by decide
theorem test_presenceTimerExpiry : (after .presenceTimerExpiry (pouring .running 100)).governor.state = .paused := by decide
theorem test_secondsTick :
    (after .secondsTick { up with accounts := { up.accounts with seconds := 4294967295, timeValid := true } }).accounts.timeValid = false := by
  decide

/-! ### Cold start -/

theorem test_powerOn : (after .powerOn (pouring .running 100)).governor.feedPermit = false ∧
    (after .powerOn (pouring .running 100)).plan.steps.length = 2 := by decide
theorem test_resetN : (after .resetNAsserted call).pins.resetN = true := by decide
theorem test_recovery_running : after (.coldStartRecovery none) call = call := rfl
theorem test_recovery_cold : (after (.coldStartRecovery none) State.reset).phase = .running := rfl
/-- R176: a recovery abandoned after the ACTIVE step is HELD(POWER) keeps that, and is held at cold start. -/
theorem test_recovery_abandoned : let t := after (.coldStartRecovery (some .held)) (after .powerOn (pouring .running 100))
    (t.plan.steps.head?.map Step.holdReason, t.phase, t.pins.resetN) = (some (some .power), .cold, true) := by
  have c : (after .powerOn (pouring .running 100)).store.checkWord =
    checkWord (after .powerOn (pouring .running 100)).store.settings := rfl
  have h : checkSettings (after .powerOn (pouring .running 100)) = after .powerOn (pouring .running 100) := by
    unfold checkSettings; rw [if_pos c]; rfl
  have e : after (.coldStartRecovery (some .held)) (after .powerOn (pouring .running 100)) =
    resetAsserts (holdForPower (bookLoss (checkSettings (after .powerOn (pouring .running 100))))) := rfl
  rw [e, h]; rfl

/-! ### Hypotheses that states meet: for each statement, and each of its clauses, a state and operands -/

/-- The call with mass placed in its first step. -/
def placedCall (placed : Nat) : State :=
  { call with plan := { call.plan with steps := [{ step1 with placed := placed }, step2] } }

/-- A pour with mass placed in its ACTIVE step and a tail count. -/
def placedPour (g : GovernorState) (placed tail : Nat) : State :=
  { pouring g 0 with
    plan := { (pouring g 0).plan with
      steps := [{ step1 with state := .active, effective := some 90000000, placed := placed }, step2] }
    governor := { (pouring g 0).governor with tail := tail } }

/-- A bill with number 3. -/
def bill3 : Bill :=
  { number := 3, slot := 0, lotNumber := 5, grade := 2, reference := [0x41], declared := none, ledger := Ledger.empty, net := 0
    tonnage := 0, opened := none, closed := none, calibrationCount := 0, callId := 7 }

/-- The call with bill 3 in store. -/
def billed : State := { call with accounts := { call.accounts with bills := [bill3], billCounter := some 4 } }

theorem forall_account {p : Account → Prop} (h : ∀ i, p (.lot i)) (u : p .unassigned) : ∀ a, p a
  | .lot i => h i
  | .unassigned => u

theorem witness_StepRunsTheFrontCommand :
    ({ up with pending := [.resume, .stopStep] } : State).pending = .resume :: [.stopStep] := rfl

theorem witness_IdleStepPassesAMillisecond :
    (State.reset.pending = [] ∧ State.reset.phase = .cold) ∧ up.pending = [] ∧ up.phase = .running := by decide

theorem witness_EveryCommandCompletes : State.reset.phase = .cold ∧ Instr.tachPulse ≠ .powerOn ∧
    Instr.tachPulse ≠ .resetNAsserted ∧ ∀ a, Instr.tachPulse ≠ .coldStartRecovery a :=
  ⟨by decide, by decide, by decide, fun _ h => nomatch h⟩

theorem witness_ColdStartKeepsTheStore : Instr.resetNAsserted = .powerOn ∨ Instr.resetNAsserted = .resetNAsserted := by decide

theorem witness_RecoveryOutcome :
    up.phase = .running ∧ State.reset.phase = .cold ∧ State.reset.travel.swapPending = false ∧
    ∀ acc, (State.reset.accounts.ledger acc).booked ≤ (State.reset.accounts.ledger acc).weighed ∧
      (State.reset.accounts.ledger acc).weighed < 2 ^ 64 :=
  ⟨by decide, by decide, by decide, forall_account (by decide) (by decide)⟩

theorem witness_ReadsInPartsAreWhole_limits :
    call.phase = .running ∧ (¬ (16 ≤ (15 : BitVec 16).toNat ∧ (15 : BitVec 16).toNat ≤ 508)) ∧
    (¬ (16 ≤ (509 : BitVec 16).toNat ∧ (509 : BitVec 16).toNat ≤ 508)) ∧ 16 ≤ (16 : BitVec 16).toNat ∧
    (508 : BitVec 16).toNat ≤ 508 := by decide

theorem witness_ReadsInPartsAreWhole_names :
    ((0xFF : Byte) ≠ 0 ∧ (2 : Byte) ≠ 0 ∧ (2 : Byte) ≠ 1 ∧ (2 : Byte) ≠ 0xFF) ∧ (16 ≤ (16 : Byte).toNat ∧ (16 : Byte) ≠ 0xFF) ∧
    billed.accounts.bills.head? = some bill3 ∧ billed.accounts.bills.find? (fun x => x.number == (3 : BitVec 32).toNat) = some bill3 ∧
    call.accounts.bills = [] ∧ ∀ b ∈ billed.accounts.bills, b.number ≠ (2 : BitVec 32).toNat := by decide

theorem witness_RecordReads : call.phase = .running ∧ stepOf call.plan (2 : BitVec 16).toNat = some step2 ∧
    stepOf call.plan (3 : BitVec 16).toNat = none ∧ call.travel.activeMap.get (1 : Hold) = some hatchB ∧ lot5.isOpen = true ∧
    Lot.free.isOpen = false ∧ 1 < lot5.reference.length ∧ 0 < bill3.reference.length := by decide

theorem witness_FetchEventTakesTheHighestPriority :
    (up.events.get .cab).entries = [] ∧
    ((after .estopAsserted up).events.get .cab).entries = { event := .estop false, count := 1 } :: [] ∧
    ((after .estopAsserted up).events.get .cab).Lawful := by decide

theorem witness_RefusedRequestsChangeNothing : requestSender (.setFeedLevel 9) = some .cab ∧ up.phase = .running ∧
    (reply (.setFeedLevel 9) up).map (fun a => a.2.result) = some .badValue := by decide

theorem witness_EffectiveTargetIsTheLeastTerm :
    call.travel.activeMap.get (0 : Hold) = some hatchA ∧ 0 < hatchA.lever ∧
    hatchA.lever * 200000000 ≤ (call.plan.trimBand : Int) * 10000000 - call.accounts.moment ∧
    (call.plan.trimBand : Int) * 10000000 - call.accounts.moment < hatchA.lever * (200000000 + 1) ∧
    call.travel.activeMap.get (1 : Hold) = some hatchB ∧ hatchB.lever < 0 ∧
    -hatchB.lever * 200000000 ≤ (call.plan.trimBand : Int) * 10000000 + call.accounts.moment ∧
    (call.plan.trimBand : Int) * 10000000 + call.accounts.moment < -hatchB.lever * (200000000 + 1) ∧
    (writeEntry 0 2 (some { hatchA with lever := 0 }) call).travel.activeMap.get (2 : Hold) = some { hatchA with lever := 0 } := by
  decide

theorem firstTest_at {ts : List (Bool × Answer)} {a : Answer} (n : Nat) (h : ts.drop n = (true, a) :: ts.drop (n + 1))
    (f : ∀ x ∈ ts.take n, x.1 = false) : FirstTest ts a :=
  ⟨ts.take n, ts.drop (n + 1), by rw [← h, List.take_append_drop], f⟩

/-- The tests that the statement lists for a Start Step. -/
def startTests (revision : BitVec 16) (s : State) : List (Bool × Answer) :=
  [(!s.plan.callOpen, answerNotReady .noCall),
    (decide (revision.toNat ≠ s.plan.revision), answerOnly .stalePlan),
    (decide (s.governor.state ≠ .idle), answerOnly .busy)] ++
  (match currentStep s.plan with
    | none => [(true, answerNotReady .noStep)]
    | some st =>
      [(decide (st.state = .held ∧ (st.holdReason = some .trim ∨ st.holdReason = some .holdFull ∨
          st.holdReason = some .scale ∨ st.holdReason = some .power)), answerNotReady .heldForDeck),
       (s.store.defaulted, answerNotReady .defaulted),
       (s.pins.estop || s.governor.estopLatch, answerNotReady .estop),
       (decide (s.travel.state ≠ .parked), answerNotReady .travelNotParked),
       (decide (s.travel.spoutOver ≠ some st.hold), answerNotReady .notOverHold),
       (decide (s.travel.diverter = .reject), answerNotReady .diverterReject),
       (decide (s.weigher.lineTotal ≠ 0), answerNotReady .lineNotClear),
       (!s.pins.beltRun, answerNotReady .beltNotRunning),
       (decide (s.dust.stage = .high ∨ s.dust.stage = .trip), answerNotReady .dust),
       (s.governor.deckHold, answerNotReady .deckHold),
       (decide (s.weigher.scale = .scaleFault), answerNotReady .scaleFault)])

/-- The first, the second, the fourth and the last test of Start Step. -/
theorem witness_StartStepJudgesTheRemainder_refused :
    FirstTest (startTests 0 up) (answerNotReady .noCall) ∧ FirstTest (startTests 1 call) (answerOnly .stalePlan) ∧
    FirstTest (startTests 0 { up with plan := { up.plan with callOpen := true } }) (answerNotReady .noStep) ∧
    FirstTest (startTests 0 { call with weigher := { call.weigher with scale := .scaleFault } }) (answerNotReady .scaleFault) :=
  ⟨firstTest_at 0 (by decide) (by decide), firstTest_at 1 (by decide) (by decide), firstTest_at 3 (by decide) (by decide),
    firstTest_at 13 (by decide) (by decide)⟩

/-- The remainder is exactly the minimum pour. -/
theorem witness_StartStepJudgesTheRemainder_starts :
    StartAllowed (placedCall 89000000) { step1 with placed := 89000000 } (0 : BitVec 16).toNat ∧ PlanLaw (placedCall 89000000) ∧
    stepActive (placedCall 89000000) = false ∧
    89000000 + (placedCall 89000000).store.settings.minimumPour * 100000 =
      effectiveTarget (placedCall 89000000) { step1 with placed := 89000000 } := by
  refine ⟨by decide, ?_, by decide, by decide⟩
  unfold PlanLaw Plan.Lawful; decide

/-- One gram less, with the target term the least. -/
theorem witness_StartStepJudgesTheRemainder_targetMet :
    let s := placedCall 89000001
    let st : Step := { step1 with placed := 89000001 }
    StartAllowed s st (0 : BitVec 16).toNat ∧ effectiveTarget s st < st.placed + s.store.settings.minimumPour * 100000 ∧
    (targetTerms s st).target ≤ (targetTerms s st).room ∧ ∀ m ∈ (targetTerms s st).trim, (targetTerms s st).target ≤ m := by decide

/-- The hold's room binds. -/
theorem witness_StartStepJudgesTheRemainder_holdFull :
    let s := { call with accounts := { call.accounts with credited := call.accounts.credited.set (0 : Hold) 19999500000 } }
    StartAllowed s step1 (0 : BitVec 16).toNat ∧ effectiveTarget s step1 < step1.placed + s.store.settings.minimumPour * 100000 ∧
    ¬ ((targetTerms s step1).target ≤ (targetTerms s step1).room) ∧
    ∀ m ∈ (targetTerms s step1).trim, (targetTerms s step1).room ≤ m := by decide

/-- The trim band binds. -/
theorem witness_StartStepJudgesTheRemainder_trim :
    let s := { call with accounts := { call.accounts with moment := 9980000000 } }
    StartAllowed s step1 (0 : BitVec 16).toNat ∧ effectiveTarget s step1 < step1.placed + s.store.settings.minimumPour * 100000 ∧
    ¬ (∀ m ∈ (targetTerms s step1).trim, (targetTerms s step1).target ≤ m) ∧
    (targetTerms s step1).trim = some 400000 ∧ 400000 < (targetTerms s step1).room := by decide

theorem witness_StopStepCutsOff :
    (up.phase = .running ∧ up.plan.callOpen = false) ∧ (call.plan.callOpen = true ∧ call.governor.state = .idle) ∧
    (pouring .cutoff 0).governor.state = .cutoff ∧ (pouring .dribble 20).governor.state.feeding = true ∧
    ((placedPour .paused 0 23).governor.state = .paused ∧
      ¬ ((placedPour .paused 0 23).weigher.lineTotal = 0 ∧ (placedPour .paused 0 23).store.settings.tailSegments ≤ 23)) ∧
    ((placedPour .paused 0 24).governor.state = .paused ∧ (placedPour .paused 0 24).weigher.lineTotal = 0 ∧
      (placedPour .paused 0 24).store.settings.tailSegments ≤ (placedPour .paused 0 24).governor.tail ∧
      (activeStep (placedPour .paused 0 24).plan).isSome = true) := by decide

/-- The second and the last test of Resume. -/
theorem witness_ResumeFollowsTheCommittedMass_refused :
    let tests := fun s : State =>
      [(!s.plan.callOpen, answerNotReady .noCall), (decide (s.governor.state = .idle), answerNotReady .noActiveStep),
       (decide (s.governor.state ≠ .paused), answerOnly .busy),
       (s.governor.pauseSet.estop || s.pins.estop, answerNotReady .estop),
       (decide (s.dust.stage = .high ∨ s.dust.stage = .trip), answerNotReady .dust),
       (s.governor.deckHold, answerNotReady .deckHold), (!s.pins.beltRun, answerNotReady .beltNotRunning)]
    FirstTest (tests call) (answerNotReady .noActiveStep) ∧
    FirstTest (tests (after .beltRunFall (pouring .paused 0))) (answerNotReady .beltNotRunning) :=
  ⟨firstTest_at 1 (by decide) (by decide), firstTest_at 6 (by decide) (by decide)⟩

/-- The thresholds of Resume: 83,000,000 g placed and 88,000,000 g placed, with a preact of 2,000,000 g. -/
theorem witness_ResumeFollowsTheCommittedMass :
    let s := placedPour .paused 0 0
    (s.phase = .running ∧ s.plan.callOpen = true ∧ s.governor.state = .paused ∧ (activeStep s.plan).isSome = true ∧
      s.governor.pauseSet.estop = false ∧ s.pins.estop = false ∧ s.dust.stage = .clear ∧ s.governor.deckHold = false ∧
      s.pins.beltRun = true) ∧
    82999999 + s.weigher.lineTotal + s.governor.preact + s.store.settings.dribbleBand * 100000 < s.governor.effective.getD 0 ∧
    s.governor.effective.getD 0 ≤ 83000000 + s.weigher.lineTotal + s.governor.preact + s.store.settings.dribbleBand * 100000 ∧
    87999999 + s.weigher.lineTotal + s.governor.preact < s.governor.effective.getD 0 ∧
    s.governor.effective.getD 0 ≤ 88000000 + s.weigher.lineTotal + s.governor.preact ∧
    (placedPour .paused 88000000 24).store.settings.tailSegments ≤ (placedPour .paused 88000000 24).governor.tail ∧
    ¬ (placedPour .paused 88000000 23).store.settings.tailSegments ≤ (placedPour .paused 88000000 23).governor.tail := by decide

theorem witness_SetFeedLevelBoundsTheLevel : up.phase = .running ∧ ¬ (10 ≤ (9 : Byte).toNat ∧ (9 : Byte).toNat ≤ 100) ∧
    ¬ (10 ≤ (101 : Byte).toNat ∧ (101 : Byte).toNat ≤ 100) ∧ 10 ≤ (10 : Byte).toNat ∧ (100 : Byte).toNat ≤ 100 := by decide

theorem witness_PauseCausesStopTheFeed :
    let s := pouring .running 100
    let p := pouring .paused 0
    let p1 := { p with governor := { p.governor with pauseSet := p.governor.pauseSet.add .beltStopped } }
    (s.phase = .running ∧ s.governor.deckHold = false ∧ s.governor.presenceTimer.isSome = true ∧
      s.governor.state.feeding = true) ∧
    (p.governor.state = .paused ∧ p.governor.pauseSet.has .beltStopped = false) ∧
    (p1.governor.state = .paused ∧ p1.governor.pauseSet.has .beltStopped = true) ∧
    (pouring .cutoff 0).governor.state = .cutoff ∧ call.governor.state = .idle := by decide

theorem witness_ReleasesRestartNoFeed :
    (call.phase = .running ∧ call.governor.presenceTimer.isSome = true ∧ call.governor.state.feeding = false) ∧
    up.governor.presenceTimer = none ∧ (after .holdPour up).governor.deckHold = true ∧ (after .estopAsserted up).pins.estop = true ∧
    call.pins.estop = false ∧ SwapLaw call := by decide

theorem witness_PeriodsAndTheClock :
    (pouring .ramping 99).governor.state = .ramping ∧ (pouring .dribble 20).governor.state = .dribble ∧
    (pouring .running 100).governor.state ≠ .ramping ∧ (pouring .running 100).governor.state ≠ .dribble ∧
    up.accounts.seconds < 4294967295 ∧ 4294967295 ≤ ({ up.accounts with seconds := 4294967295 } : Accounts).seconds := by decide

theorem witness_EstopStopsTheLoader :
    (pouring .running 100).phase = .running ∧ (pouring .running 100).governor.state.feeding = true ∧
    (pouring .paused 0).governor.state = .paused ∧ (pouring .cutoff 0).governor.state = .cutoff ∧ call.governor.state = .idle ∧
    call.travel.state ≠ .stopped ∧ call.travel.swapPending = false ∧ (after .estopAsserted call).travel.state = .stopped ∧
    (let s := { call with travel := { call.travel with swapPending := true } }
     s.travel.swapPending = true ∧ s.travel.state ≠ .stopped ∧ stepActive s = false ∧ s.weigher.lineTotal = 0) := by decide

/-- Distances of 20, 21, 1500 and 1501 mm from a position of 1000 mm. -/
theorem witness_TravelRequestsStartTheirMotion_goTo :
    call.phase = .running ∧ stepActive call = false ∧ call.travel.state = .parked ∧ call.weigher.lineTotal = 0 ∧
    ((2 : Byte).toNat = (1 : Hold).val + 1 ∧ call.travel.activeMap.get (1 : Hold) = some hatchB ∧
      (hatchB.fore + hatchB.aft) / 2 = 5000) ∧
    ((1020 : BitVec 32).toNat ≤ call.store.settings.railLength ∧
      (call.travel.position - 1020).natAbs ≤ call.store.settings.stopBand) ∧
    (call.store.settings.stopBand < (call.travel.position - 1021).natAbs ∧ call.pins.limAft = false) ∧
    ({ call with pins := { call.pins with limAft := true } } : State).pins.limAft = true ∧
    (call.travel.position - 2500).natAbs ≤ call.store.settings.creepDistance ∧
    call.store.settings.creepDistance < (call.travel.position - 2501).natAbs := by decide

theorem witness_TravelRequestsStartTheirMotion_reference :
    up.phase = .running ∧ stepActive up = false ∧ up.travel.state = .unreferenced ∧ up.travel.diverter = .reject ∧
    up.pins.limAft = false ∧ up.pins.home = false ∧ (after (.homeCloses true) up).pins.home = true ∧
    (after (.limitSwitchAsserted .aft true) up).pins.limAft = true := by decide

/-- The last test of Go To Hold is an absent entry, and the tests of a Reference Travel may be the carriage's fault alone. -/
theorem witness_TravelRequestsStartTheirMotion_refused :
    let tests := fun (s : State) (bad goTo absent : Bool) =>
      [(bad, answerOnly .badValue), (stepActive s, answerOnly .busy),
       (s.travel.state.inMotion || decide (s.travel.state = .pending), answerOnly .busy),
       (decide (s.travel.state = .fault), answerNotReady .faulted), (decide (s.travel.state = .stopped), answerNotReady .stopped),
       (goTo && decide (s.travel.state = .unreferenced), answerNotReady .unreferenced), (absent, answerOnly .notFound)]
    (∃ h : Hold, (3 : Byte).toNat = h.val + 1 ∧ call.travel.activeMap.get h = none) ∧
    FirstTest (tests call false true true) (answerOnly .notFound) ∧
    (¬ (1 ≤ (9 : Byte).toNat ∧ (9 : Byte).toNat ≤ 8) ∧ FirstTest (tests call true true false) (answerOnly .badValue)) ∧
    FirstTest (tests (pouring .running 100) false true false) (answerOnly .busy) ∧
    FirstTest (tests up false true false) (answerNotReady .unreferenced) ∧
    FirstTest (tests (carriage .fault 9000 .aft) false false false) (answerNotReady .faulted) :=
  ⟨by decide, firstTest_at 6 (by decide) (by decide), ⟨by decide, firstTest_at 0 (by decide) (by decide)⟩,
    firstTest_at 1 (by decide) (by decide), firstTest_at 5 (by decide) (by decide), firstTest_at 3 (by decide) (by decide)⟩

theorem witness_WaitingTravelAndTheDiverter :
    let s := grain 5 call
    (s.phase = .running ∧ stepActive s = false ∧ s.weigher.lineTotal ≠ 0 ∧ s.travel.diverter = .normal ∧
      s.travel.state = .parked ∧ (1 : Byte).toNat = (0 : Hold).val + 1 ∧ (s.travel.activeMap.get (0 : Hold)).isSome = true ∧
      (250000 : BitVec 32).toNat ≤ s.store.settings.railLength) ∧
    ((after (.goToHold 2) s).travel.state = .pending ∧ (after (.goToHold 2) s).travel.request = some (.goToHold 1) ∧
      ((after (.goToHold 2) s).travel.activeMap.get (1 : Hold)).isSome = true ∧
      (writeEntry 0 1 none (after (.goToHold 2) s)).travel.activeMap.get (1 : Hold) = none) ∧ s.travel.state ≠ .pending ∧
    stepActive (pouring .running 100) = true ∧
    ¬ (s.travel.state.inMotion = true ∧ s.weigher.lineTotal ≠ 0) ∧
    ((grain 5 (carriage .moving 9000 .aft)).travel.state.inMotion = true ∧
      (grain 5 (carriage .moving 9000 .aft)).weigher.lineTotal ≠ 0 ∧ stepActive (grain 5 (carriage .moving 9000 .aft)) = false) ∧
    (2 : Byte) ≠ 0 ∧ (2 : Byte) ≠ 1 := by decide

theorem witness_CancelTravelEndsTheMotion :
    (carriage .moving 9000 .aft).travel.state = .moving ∧ (carriage .referencing 0 .aft).travel.state = .referencing ∧
    ((after (.goToHold 2) (grain 5 call)).travel.state = .pending ∧
      (after (.goToHold 2) (grain 5 call)).travel.beforePending = .parked) ∧
    call.travel.state = .parked ∧ up.travel.state = .unreferenced := by decide

/-- The window of hold 1 is 300..1700 mm. -/
theorem witness_EncoderCountMovesThePosition_window :
    call.travel.referenced = true ∧ call.travel.activeMap.windowsOk 300 = true ∧
    spoutOverNow { call.travel with position := 300 } 300 = some 0 ∧ spoutOverNow { call.travel with position := 1700 } 300 = some 0 ∧
    spoutOverNow { call.travel with position := 1701 } 300 = none ∧ spoutOverNow { call.travel with position := 4300 } 300 = some 1 := by
  decide

/-- A count away from the last position of the window, and one within it. -/
theorem witness_EncoderCountMovesThePosition :
    let s := { pouring .running 100 with travel := { call.travel with position := 1700 } }
    (call.phase = .running ∧ stepActive call = false ∧ call.travel.state ≠ .moving ∧ call.travel.state ≠ .creeping) ∧
    ((carriage .moving 2501 .aft).travel.state = .moving ∧ (carriage .moving 2501 .aft).travel.target = some 2501) ∧
    ((carriage .creeping 1021 .aft).travel.state = .creeping ∧ (carriage .creeping 1021 .aft).travel.stopping = false) ∧
    ((activeStep s.plan).map Step.hold = some 0 ∧ s.travel.spoutOver = some 0 ∧ s.travel.state = .parked ∧
      spoutOverNow { s.travel with position := 1701 } s.store.settings.pourMargin ≠ some 0 ∧
      s.governor.state.feeding = true) ∧
    spoutOverNow { s.travel with position := 1699 } s.store.settings.pourMargin = s.travel.spoutOver ∧
    (pouring .cutoff 0).governor.state = .cutoff ∧
    ((placedPour .paused 0 23).weigher.lineTotal = 0 ∧ (placedPour .paused 0 23).governor.state = .paused ∧
      ¬ (placedPour .paused 0 23).store.settings.tailSegments ≤ (placedPour .paused 0 23).governor.tail) ∧
    (placedPour .paused 0 24).store.settings.tailSegments ≤ (placedPour .paused 0 24).governor.tail := by decide

/-- A stop begun 20 mm, 21 mm short and 21 mm past, with and without reversals left. -/
theorem witness_SpeedPeriodEndJudgesTheStop :
    let s := fun (x : Nat) (r : Nat) => { carriage .creeping x .aft with
      travel := { (carriage .creeping x .aft).travel with stopping := true, reversals := r } }
    ((carriage .moving 9000 .aft).phase = .running ∧
      ¬ ((carriage .moving 9000 .aft).travel.state = .creeping ∧ (carriage .moving 9000 .aft).travel.stopping = true)) ∧
    ((s 1020 0).travel.state = .creeping ∧ (s 1020 0).travel.stopping = true ∧ (s 1020 0).travel.target = some 1020 ∧
      (s 1020 0).travel.direction = some .aft ∧
      ((s 1020 0).travel.position - ((1020 : Nat) : Int)).natAbs ≤ (s 1020 0).store.settings.stopBand) ∧
    ((s 979 1).store.settings.stopBand < ((s 979 1).travel.position - ((979 : Nat) : Int)).natAbs ∧ ((979 : Nat) : Int) < (s 979 1).travel.position ∧
      (s 979 1).travel.reversals < 2 ∧ (s 979 1).pins.limFore = false) ∧
    ({ s 979 1 with pins := { call.pins with limFore := true } } : State).pins.limFore = true ∧ 2 ≤ (s 979 2).travel.reversals ∧
    ((s 1021 0).store.settings.stopBand < ((s 1021 0).travel.position - ((1021 : Nat) : Int)).natAbs ∧
      ¬ ((1021 : Nat) : Int) < (s 1021 0).travel.position) := by decide

theorem witness_SwitchesTimersAndTheFault :
    (carriage .referencing 0 .aft).travel.state = .referencing ∧
    ¬ (true = true ∧ call.travel.state = .referencing) ∧
    ((carriage .moving 9000 .aft).travel.state.inMotion = true ∧ (carriage .moving 9000 .aft).travel.direction = some .aft) ∧
    ¬ (true = true ∧ (carriage .moving 9000 .aft).travel.state.inMotion = true ∧
      (carriage .moving 9000 .aft).travel.direction = some .fore) ∧
    (carriage .moving 9000 .aft).travel.travelTimer.isSome = true ∧ call.travel.travelTimer = none ∧
    (after (.goToHold 2) (grain 5 call)).travel.runOutTimer.isSome = true ∧ call.travel.runOutTimer = none ∧
    (carriage .fault 9000 .aft).travel.state = .fault ∧ call.travel.state ≠ .fault := by decide

theorem witness_CallsOpenAndClose :
    (up.plan.callOpen = false ∧ (1 : BitVec 32) ≠ 0 ∧ some (1 : BitVec 16) ≠ some 0 ∧ (none : Option (BitVec 16)) ≠ some 0) ∧
    call.plan.callOpen = true ∧ (call.accounts.lots.get (0 : Slot)).isOpen = true ∧
    (let s := { up with plan := { up.plan with callOpen := true, steps := [step1] } }
     s.plan.callOpen = true ∧ (∀ x ∈ s.plan.steps, x.state ≠ .active ∧ x.state ≠ .held) ∧ s.weigher.lineTotal = 0 ∧
       ∀ i, (s.accounts.lots.get i).isOpen = false) := by decide

/-- The first position allowed is 1 before a PENDING current step and 2 after a HELD one; the last is 3. -/
theorem witness_InsertStepPlacesANewStep :
    (call.phase = .running ∧ call.plan.callOpen = true ∧ (8 : Byte).toNat = (7 : Hold).val + 1 ∧ (0 : Byte).toNat = (0 : Slot).val ∧
      (20000 : BitVec 16).toNat ≤ 20000 ∧ (call.accounts.lots.get (0 : Slot)).isOpen = true) ∧
    (currentStep call.plan).map Step.state = some .pending ∧ currentPosition call.plan = 1 ∧
    (currentStep (stepping .held none).plan).map Step.state = some .held ∧ currentPosition (stepping .held none).plan = 1 ∧
    ¬ (1 ≤ (0 : Byte).toNat) ∧ ¬ ((4 : Byte).toNat ≤ call.plan.steps.length + 1) ∧ (3 : Byte).toNat = call.plan.steps.length + 1 ∧
    (currentStep { up.plan with callOpen := true }) = none ∧ call.plan.stepIdCounter = 3 ∧ up.plan.callOpen = false ∧
    (¬ (1 ≤ (0 : Byte).toNat ∧ (0 : Byte).toNat ≤ 8) ∧ ¬ (9 : Byte).toNat ≤ 8 ∧ ¬ (16 : Byte).toNat ≤ 15 ∧
      ¬ (20001 : BitVec 16).toNat ≤ 20000 ∧ (1 : Byte).toNat = (1 : Slot).val ∧ (call.accounts.lots.get (1 : Slot)).isOpen = false) ∧
    (step1.id = ({ call.plan with stepIdCounter := 1 } : Plan).stepIdCounter ∧
      ∀ x ∈ ({ call.plan with stepIdCounter := 65535 } : Plan).steps, x.id ≠ 65535) ∧
    48 ≤ ({ call.plan with steps := List.replicate 48 step1 } : Plan).steps.length ∧
    ({ call.plan with steps := List.replicate 47 step1 } : Plan).steps.length < 48 := by decide

theorem witness_ModifyStepOfAWaitingStep :
    (call.phase = .running ∧ call.plan.callOpen = true ∧ (20000 : BitVec 16).toNat ≠ 0 ∧ (20000 : BitVec 16).toNat ≤ 20000 ∧
      (255 : Byte).toNat = 255 ∧ 10 ≤ (10 : Byte).toNat ∧ (100 : Byte).toNat ≤ 100 ∧ stepOf call.plan 2 = some step2 ∧
      step2.state = .pending) ∧
    (stepOf (stepping .done none).plan 1).map Step.state = some .done ∧
    (stepOf (stepping .held (some .trim)).plan 1).map Step.state = some .held ∧
    ((stepOf (pouring .running 100).plan 1).map Step.state = some .active ∧ up.plan.callOpen = false ∧ stepOf call.plan 3 = none ∧
      (¬ (20001 : BitVec 16).toNat ≤ 20000 ∧ (9 : Byte).toNat < 10 ∧ (101 : Byte).toNat ≠ 255)) ∧ PlanLaw call ∧
    PlanLaw (stepping .held (some .trim)) ∧ PlanLaw (pouring .running 100) := by
  refine ⟨by decide, by decide, by decide, by decide, ?_, ?_, ?_⟩ <;> unfold PlanLaw Plan.Lawful <;> decide

/-- A band of 888 t·m gives an effective target of 88,800,000 g for hold 1. -/
theorem witness_SetTrimBandReEvaluates_feeding :
    let s := fun (placed : Nat) => { placedPour .running placed 0 with
      travel := { call.travel with
        pages := call.travel.pages.set (0 : Page) (HatchPage.empty.set (0 : Hold) (some { hatchA with lever := 100 })) } }
    let x := fun (placed : Nat) => { step1 with state := StepState.active, effective := some 90000000, placed := placed }
    let target := fun placed : Nat => effectiveTarget { s placed with plan := { (s placed).plan with trimBand := 888 } } (x placed)
    ((s 0).phase = .running ∧ (s 0).plan.callOpen = true ∧ (888 : BitVec 16) ≠ 0 ∧ (888 : BitVec 16).toNat ≠ (s 0).plan.trimBand ∧
      (1000 : BitVec 16).toNat = (s 0).plan.trimBand ∧ activeStep (s 0).plan = some (x 0) ∧ (s 0).governor.state = .running) ∧
    target 86800000 = 90000000 ∧ target 0 = 88800000 ∧
    (s 88000000).governor.state.feeding = true ∧ target 88000000 = 90000000 ∧
    target 88000000 ≤ 88000000 + (s 0).weigher.lineTotal + (s 0).governor.preact ∧
    0 + (s 0).weigher.lineTotal + (s 0).governor.preact + (s 0).store.settings.dribbleBand * 100000 < target 0 ∧
    86000000 + (s 0).weigher.lineTotal + (s 0).governor.preact < target 86000000 ∧
    target 86000000 ≤ 86000000 + (s 0).weigher.lineTotal + (s 0).governor.preact + (s 0).store.settings.dribbleBand * 100000 := by
  decide

/-- The same band with the governor in DRIBBLE and in PAUSED: the target is reached, near, or far, and the run-out holds or not. -/
theorem witness_SetTrimBandReEvaluates_other :
    let page := HatchPage.empty.set (0 : Hold) (some { hatchA with lever := 100 })
    let s := fun (g : GovernorState) (placed tail : Nat) => { placedPour g placed tail with
      plan := { (placedPour g placed tail).plan with trimBand := 888 }
      travel := { call.travel with pages := call.travel.pages.set (0 : Page) page } }
    let target := fun (g : GovernorState) (placed : Nat) => effectiveTarget (s g placed 0)
      { step1 with state := StepState.active, effective := some 90000000, placed := placed }
    let mass := fun placed : Nat => placed + (s .paused placed 0).weigher.lineTotal + (s .paused placed 0).governor.preact
    let band := (s .paused 0 0).store.settings.dribbleBand * 100000
    (up.plan.callOpen = false ∧ (s .dribble 0 0).governor.state = .dribble ∧ (s .paused 0 0).governor.state = .paused) ∧
    (target .paused 88000000 ≤ mass 88000000 ∧ mass 86000000 < target .dribble 86000000 ∧
      target .dribble 86000000 ≤ mass 86000000 + band ∧ mass 0 + band < target .paused 0) ∧
    ((s .paused 0 24).weigher.lineTotal = 0 ∧ (s .paused 0 24).store.settings.tailSegments ≤ (s .paused 0 24).governor.tail ∧
      ¬ (s .paused 0 23).store.settings.tailSegments ≤ (s .paused 0 23).governor.tail) := by decide

theorem witness_SetTrimBandReEvaluates_cutoff :
    let s := fun (r : CutoffReason) (e : Nat) => { pouring .cutoff 0 with
      plan := { (pouring .cutoff 0).plan with
        steps := [{ step1 with state := .active, effective := some 90000000, cutoffReason := some r }, step2] }
      governor := { (pouring .cutoff 0).governor with effective := some e } }
    (s .target 90000000).governor.state = .cutoff ∧
    ((activeStep (s .target 90000000).plan).map Step.cutoffReason) = some (some .target) ∧
    effectiveTarget { s .target 90000000 with plan := { (s .target 90000000).plan with trimBand := 100 } }
      { step1 with state := .active, effective := some 90000000, cutoffReason := some .target } = 20000000 ∧
    (s .target 90000000).governor.effective ≠ some 20000000 ∧ (s .target 20000000).governor.effective = some 20000000 ∧
    ((activeStep (s .operator 0).plan).map Step.cutoffReason) = some (some .operator) ∧ stepActive call = false := by decide

theorem witness_DeleteStepRemovesAPendingStep :
    (call.phase = .running ∧ call.plan.callOpen = true ∧ up.plan.callOpen = false ∧ call.plan.steps = [] ++ step1 :: [step2] ∧
      step1.id = (1 : BitVec 16).toNat ∧ call.plan.steps.Pairwise (fun a b => a.id ≠ b.id) ∧ step1.state = .pending ∧
      currentStep call.plan = some step1 ∧ ∀ x ∈ call.plan.steps, x.id ≠ (3 : BitVec 16).toNat) ∧
    ∀ x ∈ (stepping .done none).plan.steps.head?, x.state ≠ .pending := by decide

theorem witness_CloseStepShortEndsAHeldStep :
    let s := stepping .held (some .trim)
    s.phase = .running ∧ s.plan.callOpen = true ∧ s.plan.steps.Pairwise (fun a b => a.id ≠ b.id) ∧
    (∃ x ∈ s.plan.steps, x.id = (1 : BitVec 16).toNat ∧ x.state = .held) ∧ step2 ∈ s.plan.steps ∧
    step2.id = (2 : BitVec 16).toNat ∧ step2.state ≠ .held ∧ ∀ x ∈ s.plan.steps, x.id ≠ (0 : BitVec 16).toNat := by decide

theorem witness_CancelStepAndReleaseHold :
    (up.phase = .running ∧ up.plan.callOpen = false ∧ stepOf call.plan (0 : BitVec 16).toNat = none ∧
      stepOf call.plan (3 : BitVec 16).toNat = none) ∧
    (call.phase = .running ∧ call.plan.callOpen = true ∧ stepOf call.plan (2 : BitVec 16).toNat = some step2 ∧
      step2.state = .pending) ∧
    (stepOf (stepping .cancelled none).plan 1).map Step.state = some .cancelled ∧
    (stepOf (stepping .held (some .trim)).plan 1).map (fun x => (x.state, x.holdReason)) = some (.held, some .trim) ∧
    (stepOf (stepping .held none).plan 1).map (fun x => (x.state, x.holdReason)) = some (.held, none) ∧
    ((stepOf (pouring .running 100).plan 1).map (fun x => (x.state, x.cutoffReason)) = some (.active, none) ∧
      (pouring .running 100).governor.state.feeding = true) ∧
    ((pouring .cutoff 0).governor.state = .cutoff ∧
      (stepOf (after (.cancelStep 1) (pouring .cutoff 0)).plan 1).map Step.cutoffReason = some (some .deck)) ∧
    ((placedPour .paused 0 23).governor.state = .paused ∧
      ¬ ((placedPour .paused 0 23).weigher.lineTotal = 0 ∧ (placedPour .paused 0 23).store.settings.tailSegments ≤ 23)) ∧
    ((placedPour .paused 0 24).weigher.lineTotal = 0 ∧ (placedPour .paused 0 24).store.settings.tailSegments ≤ 24 ∧
      activeStep (placedPour .paused 0 24).plan = stepOf (placedPour .paused 0 24).plan 1) := by decide

/-- On page 1, with hold 1 at 0 to 2000 mm (window 300..1700): 1100 to 2000 has a window of 1400..1700 that shares
positions, 1401 to 2001 has 1701 alone, and 1401 to 2000 has none. -/
theorem witness_WriteHatchEntryWritesTheInactivePage :
    let s := writeEntry 1 0 (some hatchA) call
    let m := s.store.settings.pourMargin
    (s.phase = .running ∧ s.plan.callOpen = true ∧ (1 : Byte).toNat = (1 : Page).val ∧ (2 : Byte).toNat = (1 : Hold).val + 1 ∧
      (1 : Page) ≠ s.travel.activePage ∧ (0 : Page) = s.travel.activePage ∧ s.travel.swapPending = false) ∧
    ((s.travel.pages.get (1 : Page)).get (0 : Hold) = some hatchA ∧ m = 300 ∧ 1401 + m + m ≤ 2001 ∧ ¬ 1401 + m + m ≤ 2000 ∧
      (2001 : Nat) ≤ s.store.settings.railLength ∧ (hatchA.aft : Int) - m = 1700 ∧ (1401 : Int) + m = 1701) ∧
    (∀ k f, k ≠ (1 : Hold) → (s.travel.pages.get (1 : Page)).get k = some f → f = hatchA) ∧
    ((0xFC19 : BitVec 16).toInt = -999 ∧ (999 : BitVec 16).toInt = 999 ∧ (1000 : BitVec 16).toInt = 1000 ∧ (2 : Byte) ≠ 0 ∧
      (2 : Byte) ≠ 1) ∧
    (up.plan.callOpen = false ∧ 2 ≤ (2 : Byte).toNat ∧ (0 : Byte).toNat = 0 ∧ 9 ≤ (9 : Byte).toNat) := by
  refine ⟨by decide, by decide, ?_, by decide, by decide⟩
  intro k f hk hf; revert hf hk; revert k
  have : ∀ k : Hold, k ≠ 1 → ∀ f ∈ ((writeEntry 1 0 (some hatchA) call).travel.pages.get (1 : Page)).get k, f = hatchA := by decide
  exact fun k hk hf => this k hk f hf

theorem witness_RequestSwapTakesTheOtherPage :
    let s := writeEntry 1 0 (some hatchA) call
    let other := otherPage s.travel.activePage
    (s.plan.callOpen = true ∧ up.plan.callOpen = false ∧ s.travel.swapPending = false ∧
      (currentStep s.plan).map Step.hold = some 0 ∧ ((s.travel.pages.get other).get (0 : Hold)).isSome = true ∧
      s.travel.state.inMotion = false ∧ stepActive s = false ∧ s.weigher.lineTotal = 0) ∧
    ((call.travel.pages.get other).get (0 : Hold) = none ∧ (currentStep call.plan).map Step.hold = some 0) ∧
    ((grain 5 s).weigher.lineTotal ≠ 0 ∧ (after .requestSwap (grain 5 s)).travel.swapPending = true) := by decide

theorem witness_CancelSwapWithdrawsTheSwap :
    call.phase = .running ∧ call.plan.callOpen = true ∧ up.plan.callOpen = false ∧ call.travel.swapPending = false ∧
    (after .requestSwap (grain 5 (writeEntry 1 0 (some hatchA) call))).travel.swapPending = true ∧
    Instr.tachPulse ≠ .requestSwap ∧ (call.ports.get .deck).queue.head? = none := by decide

theorem witness_LotsOpenAndClose_open :
    ((9 : BitVec 32) ≠ 0 ∧ (1 : Byte) ≠ 0 ∧ (24 : Byte).toNat ≤ 24 ∧
      (∀ c ∈ ([0x20, 0x7E] : List Byte).take (2 : Byte).toNat, 0x20 ≤ c.toNat ∧ c.toNat ≤ 0x7E) ∧
      (999999999 : BitVec 32).toNat ≤ 999999999) ∧
    (slotOpen call 0 ∧ (call.accounts.lots.get (0 : Slot)).number = (5 : BitVec 32).toNat) ∧
    ((¬ ∃ i, slotOpen call i ∧ (call.accounts.lots.get i).number = (9 : BitVec 32).toNat) ∧ ¬ slotOpen call 1 ∧
      ∀ j, j < (1 : Slot) → slotOpen call j) ∧
    (let s := { call with accounts := { call.accounts with lots := Vector.replicate 16 lot5 } }
     (∀ i, slotOpen s i) ∧ ¬ ∃ i, slotOpen s i ∧ (s.accounts.lots.get i).number = (9 : BitVec 32).toNat) := by decide

theorem witness_LotsOpenAndClose_close :
    let s := { billed with plan := up.plan }
    ((5 : BitVec 32) ≠ 0 ∧ slotOpen s 0 ∧ (s.accounts.lots.get (0 : Slot)).number = (5 : BitVec 32).toNat ∧
      (∀ j, j < (0 : Slot) → slotOpen s j → (s.accounts.lots.get j).number ≠ (5 : BitVec 32).toNat) ∧
      (¬ ((∃ x ∈ s.plan.steps, x.unfinished = true ∧ x.slot = 0) ∨ ∃ e ∈ s.weigher.line, e.mass ≠ 0 ∧ e.tag = some (.lot 0))) ∧
      s.accounts.bills.length < 32 ∧ s.accounts.billCounter = some 4) ∧
    (∃ x ∈ call.plan.steps, x.unfinished = true ∧ x.slot = 0) ∧
    (∀ i, slotOpen call i → (call.accounts.lots.get i).number ≠ (6 : BitVec 32).toNat) ∧
    ({ s.accounts with billCounter := none } : Accounts).billCounter = none ∧
    32 ≤ ({ s.accounts with bills := List.replicate 32 bill3 } : Accounts).bills.length := by decide

theorem witness_ReleaseBillRemovesTheBill :
    (billed.phase = .running ∧ (3 : BitVec 32) ≠ 0 ∧ billed.accounts.bills = [] ++ bill3 :: [] ∧
      bill3.number = (3 : BitVec 32).toNat ∧ billed.accounts.bills.Pairwise (fun x y => x.number < y.number)) ∧
    (∀ b ∈ billed.accounts.bills, b.number ≠ (2 : BitVec 32).toNat) ∧ 16 ≤ (16 : BitVec 16).toNat ∧
    (508 : BitVec 16).toNat ≤ 508 := by decide

/-- Accepted values of a setting of each owner, and the three refusals. -/
theorem witness_WriteSettingStoresTheValue :
    (keyOf 0x0300 = some .rampRate ∧ SettingKey.rampRate.inRange 30 = true ∧ SettingKey.rampRate.inRange 35 = false ∧
      ¬ settingBad call 30 .rampRate ∧ ¬ settingBusy call .rampRate) ∧
    keyOf 0x0309 = none ∧
    (SettingKey.homePosition.inRange 250000 = true ∧ settingBad call (call.store.settings.railLength + 1) .homePosition ∧
      ¬ settingBad call call.store.settings.railLength .homePosition) ∧
    (settingBusy (grain 5 call) .lineLength ∧ SettingKey.lineLength.inRange 100 = true ∧ ¬ settingBad (grain 5 call) 100 .lineLength) ∧
    (settingBusy (pouring .running 100) .pourMargin ∧ SettingKey.pourMargin.inRange 400 = true) := by
  refine ⟨⟨by decide, by decide, by decide, ?_, ?_⟩, by decide, ⟨by decide, ?_, ?_⟩, ⟨?_, by decide, ?_⟩, ?_, by decide⟩ <;>
    simp only [settingBad, settingBusy] <;> decide

theorem witness_WriteCalibrationMakesFourChanges :
    ((4095 : BitVec 16).toNat ≤ 4095 ∧ 1 ≤ (1 : BitVec 16).toNat ∧ (9999 : BitVec 16).toNat ≤ 9999 ∧
      ¬ (4096 : BitVec 16).toNat ≤ 4095) ∧
    (¬ ∃ i, slotOpen call i ∧ 0 < (call.accounts.lots.get i).ledger.weighed) ∧
    (let s := { call with accounts := { call.accounts with
        lots := call.accounts.lots.set (0 : Slot) { lot5 with ledger := { Ledger.empty with weighed := 1 } } } }
     ∃ i, slotOpen s i ∧ 0 < (s.accounts.lots.get i).ledger.weighed) ∧ up.phase = .running := by decide

/-- The monitor with channel 1 in a stage, and what follows from it. -/
def monitor (g : ChannelStage) (latch : Option TripCause) : State :=
  let channels := up.dust.channels.set (0 : ChannelNo) { Channel.cold with stage := g }
  { up with dust := { up.dust with
      channels := channels, tripLatch := latch
      stage := if latch.isSome then .trip else if g = .high then .high else if g = .warn then .warn else .clear
      highHold := if latch.isNone ∧ g = .high then some 5 else none
      suppress := if latch.isSome then { spout := true, boom := true, tower := true, gallery := true }
        else { spout := g != .normal, boom := false, tower := false, gallery := false } } }

theorem monitor_lawful : DustLaw (monitor .high none) ∧ DustLaw (monitor .fault (some (.channel 0))) ∧
    DustLaw (monitor .high (some .holdTime)) ∧ DustLaw (monitor .warn (some .holdTime)) ∧ DustLaw up ∧
    DustLaw { up with dust := { up.dust with reference := .fault, referenceTimer := some 0 } } := by
  refine ⟨⟨?_, by decide⟩, ⟨?_, by decide⟩, ⟨?_, by decide⟩, ⟨?_, by decide⟩, ⟨?_, by decide⟩, ⟨?_, by decide⟩⟩ <;>
    exact ⟨by decide, by decide, by decide, by decide, by decide, by decide, by decide, by decide⟩

/-- A changed mask in a lawful monitor, and limits that a running timer has just reached and has not. -/
theorem witness_WriteSettingStoresTheValue_effects :
    (DustLaw up ∧ keyOf 0x0010 = some .mask ∧ up.store.settings.mask ≠ BitVec.ofNat 8 0x7F ∧ up.store.settings.mask = BitVec.ofNat 8 0xFF) ∧
    keyOf 0x0181 = some .highHoldTime ∧
    (∃ e, ({ up.dust with highHold := some 5000 } : Dust).highHold = some e ∧ 5 * 1000 ≤ e) ∧
    ¬ ∃ e, ({ up.dust with highHold := some 4999 } : Dust).highHold = some e ∧ 5 * 1000 ≤ e :=
  ⟨⟨monitor_lawful.2.2.2.2.1, by decide⟩, by decide, ⟨5000, by decide⟩, fun ⟨_, h, l⟩ => by cases h; omega⟩

/-- The states of `monitor_lawful` meet the other hypotheses. -/
theorem witness_TripsAndTheirAcknowledgement :
    (monitor .high none).dust.highHold.isSome = true ∧
    (monitor .fault (some (.channel 0))).dust.someIn up.store.settings.mask .fault ∧
    (¬ (monitor .high (some .holdTime)).dust.someIn up.store.settings.mask .fault ∧
      (monitor .high (some .holdTime)).dust.someIn up.store.settings.mask .high) ∧
    (monitor .warn (some .holdTime)).dust.someIn up.store.settings.mask .warn ∧
    (up.dust.tripLatch = none ∧ up.dust.highHold = none ∧ up.dust.referenceTimer = none ∧ up.dust.reference = .good ∧
      up.phase = .running) := by decide

theorem witness_DustGroupSamplesItsChannels :
    (up.phase = .running ∧ up.converter.toMonitor = [] ∧
      (delivered ⟨0, 0, 0, 0⟩ .d2 ⟨17, 4078, 16, 4079⟩).converter.toMonitor = .group .d2 ⟨17, 4078, 16, 4079⟩ :: []) ∧
    ((17 : Code).toNat = 17 ∧ (4078 : Code).toNat = 4078 ∧ (16 : Code).toNat = 16 ∧ (4079 : Code).toNat = 4079) ∧
    enabled up.store.settings.mask 7 = true ∧ enabled 0x7F#8 7 = false ∧ 1 ≤ up.store.settings.qualification ∧
    up.store.settings.qualification ≤ 15 ∧ ((monitor .fault (some (.channel 0))).dust.channels.get 0).stage = .fault ∧
    -- a latch clear and set, a group that takes the stage to WARN, and one that leaves it
    (DustLaw up ∧ up.dust.tripLatch = none ∧ (monitor .high (some .holdTime)).dust.tripLatch.isSome = true) ∧
    (let s := delivered ⟨0, 0, 0, 0⟩ .d1 ⟨4000, 4000, 4000, 4000⟩
     let one := { s with store := { s.store with settings := { s.store.settings with qualification := 1 } } }
     (after .dGroupArrival one).dust.stage = .high ∧ one.dust.stage = .clear ∧ (after .dGroupArrival s).dust.stage = .clear) := by
  refine ⟨by decide, by decide, by decide, by decide, by decide, by decide, by decide,
    ⟨⟨?_, by decide⟩, by decide, by decide⟩, by decide⟩
  exact ⟨by decide, by decide, by decide, by decide, by decide, by decide, by decide, by decide⟩

theorem witness_ConverterCycleAndReference :
    (up.phase = .running ∧ up.converter.state = .running ∧ up.converter.slot = 0 ∧ (after .refOkFall up).converter.state = .halted) ∧
    (let s := fun p => { up with converter := { up.converter with position := p, slot := 3 } }
     (s .p1).converter.slot = 3 ∧ (s .p2).converter.position = .p2 ∧ (s .p4).converter.position = .p4) ∧
    (after .refOkFall up).converter.toWeigher = .referenceFault :: [] ∧ (after .refOkFall up).converter.toMonitor = .referenceFault :: [] ∧
    (let s := { up with converter := { up.converter with toWeigher := [.referenceGood], toMonitor := [.referenceGood] } }
     s.converter.toWeigher = .referenceGood :: [] ∧ s.converter.toMonitor = .referenceGood :: []) ∧ up.converter.toWeigher = [] := by
  decide

/-- A group at the blanking limit and one above it, a load at 999,999 g/m and one above, and a stuck group. -/
theorem witness_LoadGroupsEnterTheSegment :
    up.phase = .running ∧
    (delivered ⟨1, 2, 3, 4⟩ .d1 ⟨0, 0, 0, 0⟩).converter.toWeigher = .group .w ⟨1, 2, 3, 4⟩ :: [] ∧
    (¬ (((1 : Code) = 0 ∧ (2 : Code) = 0 ∧ (3 : Code) = 0 ∧ (4 : Code) = 0) ∨
      ((1 : Code) = 4095 ∧ (2 : Code) = 4095 ∧ (3 : Code) = 4095 ∧ (4 : Code) = 4095))) ∧
    ((10 : Int) - 4 * up.store.settings.zero ≤ 10 ∧ ((3 : Nat) : Int) = (10 * up.store.settings.span + 2) / 4) ∧
    (let x := { up.store.settings with zero := 0, span := 9999, band := 0 }
     ((999900 : Nat) : Int) = (400 * x.span + 2) / 4 ∧ ((1002400 : Nat) : Int) = (401 * x.span + 2) / 4 ∧ ¬ (400 : Int) ≤ 4 * x.band) := by
  decide

theorem up_lawful : WeigherLaw up ∧ WeigherLaw (grain 700 up) ∧ WeigherLaw (pouring .running 100) ∧ PlanLaw (pouring .running 100) := by
  refine ⟨?_, ?_, ?_, ?_⟩
  · unfold WeigherLaw Weigher.Lawful; decide
  · unfold WeigherLaw Weigher.Lawful; decide
  · unfold WeigherLaw Weigher.Lawful; decide
  · unfold PlanLaw Plan.Lawful; decide

theorem witness_SegmentCloseMovesTheLine :
    (up.phase = .running ∧ up.weigher.pulseCount + 1 < up.store.settings.pulsesPerSegment ∧ 1 ≤ up.store.settings.pulsesPerSegment) ∧
    (let s := { up with weigher := { up.weigher with pulseCount := up.store.settings.pulsesPerSegment - 1 } }
     s.store.settings.pulsesPerSegment ≤ s.weigher.pulseCount + 1 ∧ s.weigher.pulseCount + 1 < s.store.settings.pulsesPerSegment + 1 ∧
       s.travel.swapPending = false ∧ s.governor.state = .idle ∧ s.travel.state ≠ .pending ∧ s.travel.state.inMotion = false) ∧
    (carriage .moving 9000 .aft).travel.state.inMotion = true ∧
    -- the last grain leaves: with a swap pending, and with a travel request waiting
    (let last := fun s : State => { s with weigher := { s.weigher with
        line := { mass := 5, tag := some .unassigned } :: List.replicate 159 Entry.empty, lineTotal := 5
        pulseCount := up.store.settings.pulsesPerSegment - 1 } }
     let s := last { call with travel := { call.travel with swapPending := true } }
     let p := last (after (.goToHold 2) (grain 5 call))
     (s.travel.swapPending = true ∧ s.travel.state.inMotion = false ∧ stepActive s = false ∧
       (after .tachPulse s).weigher.lineTotal = 0 ∧ (after .tachPulse s).travel.activePage = 1) ∧
     p.travel.state = .pending ∧ p.governor.state = .idle ∧ (after .tachPulse p).travel.state = .moving) := by decide

/-- A pour at its last pulse but one, with a segment of one load. -/
def closing (g : GovernorState) (placed tail : Nat) (r : Option CutoffReason) : State :=
  { pouring g 0 with
    weigher := { (pouring g 0).weigher with pulseCount := up.store.settings.pulsesPerSegment - 1, segmentCount := 1 }
    plan := { (pouring g 0).plan with
      steps := [{ step1 with state := .active, effective := some 90000000, placed := placed, cutoffReason := r }, step2] }
    governor := { (pouring g 0).governor with tail := tail } }

theorem witness_SegmentCloseDrivesTheGovernor_laws :
    WeigherLaw (closing .running 88000000 0 none) ∧ PlanLaw (closing .running 88000000 0 none) ∧
    WeigherLaw (closing .cutoff 88000000 24 (some .target)) ∧ PlanLaw (closing .cutoff 88000000 24 (some .target)) := by
  refine ⟨?_, ?_, ?_, ?_⟩
  · unfold WeigherLaw Weigher.Lawful; decide
  · unfold PlanLaw Plan.Lawful; decide
  · unfold WeigherLaw Weigher.Lawful; decide
  · unfold PlanLaw Plan.Lawful; decide

/-- A close of no segment: bridged while fewer than four were, and the entry into SCALE FAULT after them. -/
def unweighed (g : GovernorState) (tail hold : Nat) : State :=
  { closing g 0 tail none with weigher := { (closing g 0 tail none).weigher with segmentCount := 0, holdLast := hold } }

theorem witness_SegmentCloseDrivesTheGovernor_unweighed :
    (WeigherLaw (unweighed .running 0 4) ∧ PlanLaw (unweighed .running 0 4)) ∧
    ((unweighed .running 0 3).weigher.segmentCount = 0 ∧ (unweighed .running 0 3).weigher.scale = .normal ∧
      (unweighed .running 0 3).weigher.holdLast < 4 ∧ ¬ (unweighed .running 0 4).weigher.holdLast < 4) ∧
    ((after .tachPulse (unweighed .running 0 3)).governor.state = .running ∧
      (after .tachPulse (unweighed .running 0 4)).governor.state = .cutoff) ∧
    -- PAUSED with the run-out reached at the close, held before it, and not; and CUTOFF
    (((unweighed .paused 23 4).governor.state = .paused ∧ ¬ up.store.settings.tailSegments ≤ 23 ∧
      up.store.settings.tailSegments ≤ min (23 + 1) 255 ∧ ¬ up.store.settings.tailSegments ≤ min (22 + 1) 255) ∧
      (unweighed .cutoff 23 4).governor.state = .cutoff ∧
      (after .tachPulse (unweighed .paused 23 4)).governor.state = .idle ∧
      (after .tachPulse (unweighed .paused 24 4)).governor.state = .idle) ∧
    (call.travel.state = .parked ∧ call.travel.swapPending = false) := by
  refine ⟨⟨?_, ?_⟩, by decide, by decide, by decide, by decide⟩
  · unfold WeigherLaw Weigher.Lawful; decide
  · unfold PlanLaw Plan.Lawful; decide

/-- With a preact of 2,000,000 g and a band of 5,000,000 g: 88,000,000 g placed cuts off, 87,999,999 g and 83,000,000 g dribble,
and 82,999,999 g does neither. -/
theorem witness_SegmentCloseDrivesTheGovernor :
    let s := closing .running 0 0 none
    (s.phase = .running ∧ s.store.settings.pulsesPerSegment ≤ s.weigher.pulseCount + 1 ∧ 0 < s.weigher.segmentCount ∧
      (activeStep s.plan).isSome = true ∧ s.governor.state.feeding = true ∧ s.governor.effective.getD 0 = 90000000 ∧
      s.weigher.lineTotal = 0 ∧ s.weigher.segmentSum = 0) ∧
    90000000 ≤ 88000000 + s.governor.preact ∧ 87999999 + s.governor.preact < 90000000 ∧
    90000000 ≤ 83000000 + s.governor.preact + s.store.settings.dribbleBand * 100000 ∧
    82999999 + s.governor.preact + s.store.settings.dribbleBand * 100000 < 90000000 ∧
    (closing .dribble 0 0 none).governor.state = .dribble ∧ (closing .paused 0 0 none).governor.state = .paused ∧
    ((closing .cutoff 0 22 none).governor.state = .cutoff ∧
      ¬ s.store.settings.tailSegments ≤ min ((closing .cutoff 0 22 none).governor.tail + 1) 255) ∧
    s.store.settings.tailSegments ≤ min ((closing .cutoff 0 23 none).governor.tail + 1) 255 := by decide

/-- Bodies of 0 and of 512 bytes, and queues of 3 and of 4 entries. -/
theorem witness_FramesAreReceivedWhole :
    (ready.phase = .running ∧ (ready.ports.get .cab).framer = .ready ∧ (ready.ports.get .cab).queue.length < 4) ∧
    (([] : List Byte).length ≤ 512 ∧ ([] : List Byte).length = (if ([] : List Byte) = [] then 0 else 2)) ∧
    ((List.replicate 512 (0 : Byte)).length ≤ 512 ∧ ([1, 2] : List Byte).length = (if List.replicate 512 (0 : Byte) = [] then 0 else 2)) ∧
    (let entry : QueueEntry := { code := 0x12, tag := 7, body := [], footerGood := true }
     (List.replicate 3 entry).length < 4 ∧ 4 ≤ (List.replicate 4 entry).length) ∧
    (after (.frameComplete .cab (frameBytes 0x12 7 [])) ready).ports.cab.framer = .waitGap := by decide

/-- A port of the Cab with a request at the head of its queue. -/
def waiting (code : Byte) (body : List Byte) (good : Bool) : State :=
  { up with ports := { up.ports with
      cab := { Port.cold with queue := [{ code := code, tag := 7, body := body, footerGood := good }] } } }

theorem witness_PortsJudgeAndAnswer_framer :
    up.phase = .running ∧ (up.ports.get .cab).framer = .waitGap ∧ (ready.ports.get .cab).framer = .ready ∧
    (let s := after (.characterReceived .cab 0x10) ready
     (s.ports.get .cab).framer = .header ∧ (s.ports.get .cab).frame.length < 4) ∧
    (let s := (after (.frameComplete .cab [0x10, 0x2A, 0x02, 0x00]) ready).ports.get .cab
     s.framer = .header ∧ s.frame = [0x10, 0x2A, 0x02, 0x00] ∧ (0xC3 : Byte).toNat = (255 - (16 + 42 + 2 + 0) % 256) % 256) := by
  decide

theorem witness_PortsJudgeAndAnswer_takes :
    (let p := (waiting 0x12 [] true).ports.get .cab
     p.sending = false ∧ p.queue = { code := 0x12, tag := 7, body := [], footerGood := true } :: []) ∧
    ((waiting 0x12 [] false).ports.get .cab).queue.head?.map QueueEntry.footerGood = some false ∧
    requestOf (0x7F : Byte).toNat = none ∧ requestOf (0x12 : Byte).toNat = some .stopStep ∧
    Request.stopStep.cls.allowed .cab = true ∧ Request.stopStep.cls.allowed .office = false ∧
    Request.writeCalibration.cls.allowed .office = true ∧ Request.stopStep.lengthOk 1 = false ∧ Request.stopStep.lengthOk 0 = true ∧
    (let p := (after (.takeRequest .cab false) (waiting 0x12 [] true)).ports.get .cab
     p.sending = true ∧ p.queue = { code := 0x12, tag := 7, body := [], footerGood := true } :: []) := by decide

theorem witness_TakenRequestsDoWhatTheirCommandsDo :
    let s := waiting 0x10 [1, 0] true
    s.phase = .running ∧ (Instr.startStep 1).wellFormed = true ∧ requestSender (.startStep 1) = some .cab ∧
    lineBytes (.startStep 1) = some (0x10, [1, 0]) ∧ s.pins.calUnlock = false ∧ (s.ports.get .cab).sending = false ∧
    (s.ports.get .cab).queue = { code := 0x10, tag := 7, body := [1, 0], footerGood := true } :: [] := by decide

/-! ### The laws: a state that meets the premises and its next state -/

theorem witness_AttentionLawIsKept : AttentionLaw up ∧ ∃ t, step { up with pending := [.estopAsserted] } = .next t := by
  refine ⟨?_, _, rfl⟩
  unfold AttentionLaw Events.Lawful; decide

theorem witness_PortLawIsKept : PortLaw (waiting 0x12 [] true) ∧
    ∃ t, step { waiting 0x12 [] true with pending := [.takeRequest .cab false] } = .next t := by
  refine ⟨?_, _, rfl⟩
  simp [PortLaw, Ports.Lawful, Port.Lawful, Port.FrameFits, waiting, up, State.reset, Port.cold]

theorem witness_SettingsAndPreactLawsAreKept : SettingsLaw up ∧ PreactLaw up ∧
    up.store.checkWord = checkWord up.store.settings ∧ (∃ t, step { up with pending := [.writeSetting 0x0300 30] } = .next t) ∧
    call.store.checkWord = checkWord call.store.settings ∧ HatchLaw call ∧
    ∃ t, step { call with pending := [.writeHatchEntry 1 1 1 0 2000 0 20000] } = .next t := by
  refine ⟨?_, by decide, rfl, ⟨_, rfl⟩, rfl, by decide, _, rfl⟩
  unfold SettingsLaw Settings.Lawful; decide

theorem witness_WeigherLawIsKept : SettingsLaw up ∧ WeigherLaw (grain 700 up) ∧
    ∃ t, step { grain 700 up with pending := [.tachPulse] } = .next t :=
  ⟨witness_SettingsAndPreactLawsAreKept.1, up_lawful.2.1, _, rfl⟩

theorem witness_DustLawIsKept : DustLaw (monitor .warn (some .holdTime)) ∧
    ∃ t, step { monitor .warn (some .holdTime) with pending := [.acknowledgeTrip] } = .next t :=
  ⟨monitor_lawful.2.2.2.1, _, rfl⟩

theorem witness_PlanAndLoaderLawsAreKept : PlanLaw (pouring .running 100) ∧ LoaderLaw (pouring .running 100) ∧
    (pouring .running 100).governor.presenceLive = true ∧
    ∃ t, step { pouring .running 100 with pending := [.stopStep] } = .next t := by
  refine ⟨up_lawful.2.2.2, ⟨⟨by decide, fun _ => ⟨by decide, by decide, ⟨_, rfl, rfl⟩, by decide⟩⟩, by decide, fun _ => ⟨by decide,
    by decide, by decide, by decide, by decide, by decide, fun st h => ?_⟩, by decide⟩, by decide, _, rfl⟩
  cases h; decide

theorem witness_LevelLawIsKept : LevelLaw (pouring .running 100) ∧
    ∃ t, step { pouring .running 100 with pending := [.setFeedLevel 60] } = .next t := by
  refine ⟨by decide, _, rfl⟩

theorem witness_SwapLawIsKept : SwapLaw call ∧ ∃ t, step { call with pending := [.requestSwap] } = .next t := by
  refine ⟨by decide, _, rfl⟩

theorem witness_BillLawIsKept : BillLaw billed ∧ ∃ t, step { billed with pending := [.releaseBill 3] } = .next t := by
  refine ⟨?_, _, rfl⟩
  unfold BillLaw Accounts.BillsLawful; decide

/-- The call with 700 g of lot 5 in the line, weighed and not yet booked. -/
def carried : State :=
  { call with
    weigher := { call.weigher with
      line := { mass := 700, tag := some (.lot 0) } :: List.replicate 159 Entry.empty, lineTotal := 700 }
    accounts := { call.accounts with
      lots := call.accounts.lots.set (0 : Slot) { lot5 with ledger := { Ledger.empty with weighed := 700 } } } }

theorem witness_BalanceLawIsKept : SettingsLaw carried ∧ WeigherLaw carried ∧ PlanLaw carried ∧ MassesFit carried ∧
    BalanceLaw carried ∧ SplitLaw carried ∧ ∃ t, step { carried with pending := [.tachPulse] } = .next t := by
  refine ⟨?_, ?_, ?_, forall_account (by decide) (by decide),
    ⟨by decide, by decide, by decide, fun _ => forall_account (by decide) (by decide),
      fun h => nomatch h⟩, ⟨forall_account (by decide) (by decide), by decide⟩, _, rfl⟩
  · unfold SettingsLaw Settings.Lawful; decide
  · unfold WeigherLaw Weigher.Lawful; decide
  · unfold PlanLaw Plan.Lawful; decide

theorem witness_MomentLawIsKept : SettingsLaw carried ∧ WeigherLaw carried ∧ MomentFits carried ∧ MomentLaw carried ∧
    ∃ t, step { carried with pending := [.tachPulse] } = .next t := by
  refine ⟨witness_BalanceLawIsKept.1, witness_BalanceLawIsKept.2.1, ⟨?_, by decide, by decide⟩, by decide, _, rfl⟩
  have : ∀ (p : Page) (h : Hold), ∀ e ∈ (carried.travel.pages.get p).get h, -999 ≤ e.lever ∧ e.lever ≤ 999 := by decide
  exact fun p h e he => this p h e he

end Sys2Proof.Tests
end

section
/-! Cancel Travel and Cancel Swap (R64, R79): what a cancelled motion leaves behind, and that a part without a pending swap
takes none until Request Swap sets one. -/

namespace Sys2Proof.Machine

open Sys2Proof

/-! ### Requests and arrivals of a running part -/

/-- A request taken by a running part: the owner's change, with the answer kept. -/
theorem request_of_running {s : State} (hr : s.phase = .running) (st : Station) (f : State → State × Answer) :
    request st f s = .next { (f s).1 with answer := some (st, (f s).2) } := by
  simp [request, isRunning_of_running hr]

theorem exec_cancelTravel {s : State} (hr : s.phase = .running) :
    exec .cancelTravel s = .next { (ownCancelTravel s).1 with answer := some (.cab, (ownCancelTravel s).2) } :=
  request_of_running hr .cab ownCancelTravel

/-! ### Cancel Travel -/

/-- The states of a carriage that neither moves nor waits: Cancel Travel finds nothing to end there. -/
def TravelState.settled (x : TravelState) : Prop := x = .unreferenced ∨ x = .parked ∨ x = .fault ∨ x = .stopped

theorem Travel.restState_settled (t : Travel) : t.restState.settled := by
  unfold Travel.restState TravelState.settled
  split <;> simp

theorem ownCancelTravel_of_inMotion {s : State}
    (h : s.travel.state = .moving ∨ s.travel.state = .creeping ∨ s.travel.state = .referencing) :
    ownCancelTravel s = (cancelMotion s, answerOk []) := by
  rcases h with h | h | h <;> simp [ownCancelTravel, h]

theorem ownCancelTravel_of_pending {s : State} (h : s.travel.state = .pending) :
    ownCancelTravel s =
      ({ s with travel := { s.travel with runOutTimer := none, request := none, state := s.travel.beforePending } },
        answerOk []) := by
  simp [ownCancelTravel, h]

theorem ownCancelTravel_of_settled {s : State} (h : s.travel.state.settled) :
    ownCancelTravel s = (s, answerOk []) := by
  rcases h with h | h | h | h <;> simp [ownCancelTravel, h]

/-- The swap test leaves the carriage's state. -/
theorem swapTest_travel_state (s : State) : (swapTest s).travel.state = s.travel.state := by
  obtain ⟨-, -, h⟩ | ⟨-, h⟩ := swapTest_cases s
  · rw [h]
    rfl
  · rw [h]

/-- A cancelled motion ends in PARKED or UNREFERENCED. -/
theorem cancelMotion_travel_state (s : State) : (cancelMotion s).travel.state = s.travel.restState :=
  swapTest_travel_state _

/-- Cancel Travel leaves the carriage settled, if a waiting request was accepted from a carriage at rest. -/
theorem ownCancelTravel_settled {s : State}
    (hb : s.travel.state = .pending → s.travel.beforePending = .parked ∨ s.travel.beforePending = .unreferenced) :
    (ownCancelTravel s).1.travel.state.settled := by
  have moves (h : s.travel.state = .moving ∨ s.travel.state = .creeping ∨ s.travel.state = .referencing) :
      (ownCancelTravel s).1.travel.state.settled := by
    rw [ownCancelTravel_of_inMotion h, cancelMotion_travel_state]
    exact s.travel.restState_settled
  have rests (h : s.travel.state.settled) : (ownCancelTravel s).1.travel.state.settled := by
    rwa [ownCancelTravel_of_settled h]
  cases h : s.travel.state with
  | moving => exact moves (.inl h)
  | creeping => exact moves (.inr (.inl h))
  | referencing => exact moves (.inr (.inr h))
  | pending =>
    rw [ownCancelTravel_of_pending h]
    rcases hb h with hb | hb
    · exact .inr (.inl hb)
    · exact .inl hb
  | unreferenced => exact rests (.inl h)
  | parked => exact rests (.inr (.inl h))
  | fault => exact rests (.inr (.inr (.inl h)))
  | stopped => exact rests (.inr (.inr (.inr h)))

/-- Every Cancel Travel is answered OK. -/
theorem ownCancelTravel_answer (s : State) : (ownCancelTravel s).2 = answerOk [] := by
  unfold ownCancelTravel
  split <;> rfl

/-- A Cancel Travel with the carriage settled and its own answer already kept changes nothing. -/
theorem exec_cancelTravel_of_settled {s : State} (hr : s.phase = .running) (h : s.travel.state.settled)
    (ha : s.answer = some (.cab, answerOk [])) : exec .cancelTravel s = .next s := by
  rw [exec_cancelTravel hr, ownCancelTravel_of_settled h, ← ha]

/-! ### A part without a pending swap

Once no swap is pending in `s`, every command but Request Swap leaves a state `t` with `NoSwap s t` (`exec_noSwap`). The
lemmas before it say so of each operation that can write the Travel Controller's state, in the order of the definitions;
`simp` uses both halves of each. Of the other operations, Laws/Frames.lean says that they leave that state alone. -/

/-- No swap is pending in `t`, and its active page is the one of `s`. -/
@[reducible] def NoSwap (s t : State) : Prop :=
  t.travel.swapPending = false ∧ t.travel.activePage = s.travel.activePage

theorem NoSwap.trans {s t u : State} (hst : NoSwap s t) (htu : NoSwap t u) : NoSwap s u :=
  ⟨htu.1, htu.2.trans hst.2⟩

/-- Close Call withdraws a pending swap (R65). -/
@[simp] theorem clearPages_noSwap (s : State) : NoSwap s (clearPages s) := ⟨rfl, rfl⟩

/-- Cold start withdraws a pending swap and keeps the active page (R86). -/
theorem coldStart_noSwap (s : State) : NoSwap s (coldStart s) := ⟨rfl, rfl⟩

section
variable {s : State} (h : s.travel.swapPending = false)
include h

@[simp] theorem recomputeSpout_noSwap : NoSwap s (recomputeSpout s) := ⟨h, rfl⟩

@[simp] theorem swapTest_noSwap : NoSwap s (swapTest s) := by
  rw [swapTest_of_not_pending h]
  exact ⟨h, rfl⟩

@[simp] theorem completeStep_noSwap : NoSwap s (completeStep s) := by
  unfold completeStep
  (repeat' split) <;> simp [NoSwap, h]

/-! #### The Travel Controller -/

@[simp] theorem enterFault_noSwap (c : FaultCause) : NoSwap s (enterFault c s) := by
  simp [NoSwap, enterFault, h]

@[simp] theorem homeSet_noSwap : NoSwap s (homeSet s) := by
  simp [NoSwap, homeSet, h]

@[simp] theorem abandonPending_noSwap : NoSwap s (abandonPending s) := by
  simp [NoSwap, abandonPending, h]

@[simp] theorem startGoTo_noSwap (x : Nat) : NoSwap s (startGoTo x s) := by
  unfold startGoTo
  dsimp only
  (repeat' split) <;> simp [NoSwap, h]

@[simp] theorem startReference_noSwap : NoSwap s (startReference s) := by
  unfold startReference
  dsimp only
  (repeat' split) <;> simp [NoSwap, h]

@[simp] theorem startMotion_noSwap : NoSwap s (startMotion s) := by
  unfold startMotion
  dsimp only
  (repeat' split) <;> simp [NoSwap, h]

@[simp] theorem inPosition_noSwap : NoSwap s (inPosition s) := by
  simp [NoSwap, inPosition, h]

@[simp] theorem creepOn_noSwap (d : Direction) : NoSwap s (creepOn d s) := by
  simp [NoSwap, creepOn, h]

@[simp] theorem reversal_noSwap (d : Direction) : NoSwap s (reversal d s) := by
  unfold reversal
  dsimp only
  (repeat' split) <;> simp [NoSwap, h]

@[simp] theorem stopJudgement_noSwap : NoSwap s (stopJudgement s) := by
  unfold stopJudgement
  dsimp only
  (repeat' split) <;> simp [NoSwap, h]

@[simp] theorem profileTest_noSwap : NoSwap s (profileTest s) := by
  unfold profileTest
  (repeat' split) <;> simp [NoSwap, h]

@[simp] theorem runOutExpiry_noSwap : NoSwap s (runOutExpiry s) := by
  unfold runOutExpiry
  (repeat' split) <;> simp [NoSwap, h]

@[simp] theorem travelExpiry_noSwap : NoSwap s (travelExpiry s) := by
  unfold travelExpiry
  (repeat' split) <;> simp [NoSwap, h]

@[simp] theorem travelSegmentClosed_noSwap : NoSwap s (travelSegmentClosed s) := by
  unfold travelSegmentClosed
  dsimp only
  (repeat' split) <;> simp [NoSwap, h]

@[simp] theorem travelStop_noSwap : NoSwap s (travelStop s) := by
  unfold travelStop
  dsimp only
  (repeat' split) <;> simp [NoSwap, h]

@[simp] theorem stopCleared_noSwap : NoSwap s (stopCleared s) := by
  unfold stopCleared
  (repeat' split) <;> simp [NoSwap, h]

@[simp] theorem waitPending_noSwap : NoSwap s (waitPending s) := by
  simp [NoSwap, waitPending, h]

@[simp] theorem acceptTravel_noSwap (r : TravelRequest) : NoSwap s (acceptTravel r s).1 := by
  unfold acceptTravel
  dsimp only
  (repeat' split) <;> simp [NoSwap, h]

@[simp] theorem cancelMotion_noSwap : NoSwap s (cancelMotion s) := by
  simp [NoSwap, cancelMotion, h]

/-! #### The Feed Governor and the Belt Weigher -/

@[simp] theorem complete_noSwap : NoSwap s (complete s) := by
  simp [NoSwap, complete, h]

@[simp] theorem cutoff_noSwap (r : CutoffReason) : NoSwap s (cutoff r s) := by
  unfold cutoff
  dsimp only
  (repeat' split) <;> simp [NoSwap, h]

@[simp] theorem feedTests_noSwap : NoSwap s (feedTests s) := by
  unfold feedTests
  (repeat' split) <;> simp [NoSwap, h]

@[simp] theorem segmentClosedNotice_noSwap (entering : Nat) (w : Weighing) (leaving : Nat) (dest : Destination) :
    NoSwap s (segmentClosedNotice entering w leaving dest s) := by
  unfold segmentClosedNotice
  dsimp only
  (repeat' split) <;> simp [NoSwap, h]

@[simp] theorem reEvaluate_noSwap : NoSwap s (reEvaluate s) := by
  unfold reEvaluate
  dsimp only
  (repeat' split) <;> simp [NoSwap, h]

@[simp] theorem scaleFaultNotice_noSwap : NoSwap s (scaleFaultNotice s) := by
  unfold scaleFaultNotice
  dsimp only
  (repeat' split) <;> simp [NoSwap, h]

@[simp] theorem positionLost_noSwap : NoSwap s (positionLost s) := by
  unfold positionLost
  (repeat' split) <;> simp [NoSwap, h]

@[simp] theorem cancelNotice_noSwap : NoSwap s (cancelNotice s) := by
  unfold cancelNotice
  (repeat' split) <;> simp [NoSwap, h]

@[simp] theorem enterScaleFault_noSwap : NoSwap s (enterScaleFault s) := by
  simp [NoSwap, enterScaleFault, h]

@[simp] theorem weighSegment_noSwap : NoSwap s (weighSegment s).state := by
  unfold weighSegment
  dsimp only
  (repeat' split) <;> simp [NoSwap, h]

@[simp] theorem closeSegment_noSwap : NoSwap s (closeSegment s) := by
  have hw := (weighSegment_noSwap h).1
  simp [NoSwap, closeSegment, hw, h]

@[simp] theorem countPulse_noSwap : NoSwap s (countPulse s) := by
  unfold countPulse
  dsimp only
  (repeat' split) <;> simp [NoSwap, h]

/-! #### Requests -/

@[simp] theorem applySetting_noSwap (was : BitVec 8) (v : Nat) (k : SettingKey) : NoSwap s (applySetting was v s k) := by
  unfold applySetting
  (repeat' split) <;> simp [NoSwap, h]

@[simp] theorem ownWriteSetting_noSwap (identifier value : Nat) : NoSwap s (ownWriteSetting identifier value s).1 := by
  unfold ownWriteSetting
  (repeat' split) <;> simp [NoSwap, h]

@[simp] theorem resumeFeed_noSwap : NoSwap s (resumeFeed s) := by
  unfold resumeFeed
  dsimp only
  (repeat' split) <;> simp [NoSwap, h]

@[simp] theorem ownResume_noSwap : NoSwap s (ownResume s).1 := by
  unfold ownResume
  (repeat' split) <;> simp [NoSwap, h]

@[simp] theorem ownStopStep_noSwap : NoSwap s (ownStopStep s).1 := by
  unfold ownStopStep
  (repeat' split) <;> simp [NoSwap, h]

@[simp] theorem ownClearStop_noSwap : NoSwap s (ownClearStop s).1 := by
  unfold ownClearStop
  (repeat' split) <;> simp [NoSwap, h]

@[simp] theorem ownGoToHold_noSwap (hold : Nat) : NoSwap s (ownGoToHold hold s).1 := by
  unfold ownGoToHold
  (repeat' split) <;> simp [NoSwap, h]

@[simp] theorem ownGoToPosition_noSwap (x : Nat) : NoSwap s (ownGoToPosition x s).1 := by
  unfold ownGoToPosition
  (repeat' split) <;> simp [NoSwap, h]

@[simp] theorem ownReferenceTravel_noSwap : NoSwap s (ownReferenceTravel s).1 := by
  unfold ownReferenceTravel
  (repeat' split) <;> simp [NoSwap, h]

@[simp] theorem ownCancelTravel_noSwap : NoSwap s (ownCancelTravel s).1 := by
  unfold ownCancelTravel
  (repeat' split) <;> simp [NoSwap, h]

@[simp] theorem ownClearTravelFault_noSwap : NoSwap s (ownClearTravelFault s).1 := by
  unfold ownClearTravelFault
  (repeat' split) <;> simp [NoSwap, h]

@[simp] theorem divert_noSwap (v : Diverter) : NoSwap s (divert v s) := by
  unfold divert
  dsimp only
  (repeat' split) <;> simp [NoSwap, h]

@[simp] theorem ownSetDiverter_noSwap (value : Nat) : NoSwap s (ownSetDiverter value s).1 := by
  unfold ownSetDiverter
  (repeat' split) <;> simp [NoSwap, h]

@[simp] theorem ownCloseCall_noSwap : NoSwap s (ownCloseCall s).1 := by
  unfold ownCloseCall
  (repeat' split) <;> simp [NoSwap, h]

@[simp] theorem ownSetTrimBand_noSwap (band : Nat) : NoSwap s (ownSetTrimBand band s).1 := by
  unfold ownSetTrimBand
  dsimp only
  (repeat' split) <;> simp [NoSwap, h]

@[simp] theorem modifyPlan_noSwap (st : Step) (target level : Nat) : NoSwap s (modifyPlan st target level s) := by
  unfold modifyPlan
  dsimp only
  (repeat' split) <;> simp [NoSwap, h]

@[simp] theorem ownModifyStep_noSwap (id target level : Nat) : NoSwap s (ownModifyStep id target level s).1 := by
  unfold ownModifyStep
  (repeat' split) <;> simp [NoSwap, h]

@[simp] theorem cancelActive_noSwap (st : Step) : NoSwap s (cancelActive st s) := by
  unfold cancelActive
  (repeat' split) <;> simp [NoSwap, h]

@[simp] theorem ownCancelStep_noSwap (id : Nat) : NoSwap s (ownCancelStep id s).1 := by
  unfold ownCancelStep
  dsimp only
  (repeat' split) <;> simp [NoSwap, h]

@[simp] theorem writeEntry_noSwap (p : Page) (x : Hold) (e : Option Hatch) : NoSwap s (writeEntry p x e s) := by
  simp [NoSwap, writeEntry, h]

@[simp] theorem ownWriteHatchEntry_noSwap (page hold present fore aft : Nat) (lever : Int) (limit : Nat) :
    NoSwap s (ownWriteHatchEntry page hold present fore aft lever limit s).1 := by
  unfold ownWriteHatchEntry
  (repeat' split) <;> simp [NoSwap, h]

@[simp] theorem ownCancelSwap_noSwap : NoSwap s (ownCancelSwap s).1 := by
  unfold ownCancelSwap
  (repeat' split) <;> simp [NoSwap, h]

/-! #### Field inputs -/

@[simp] theorem countEncoder_noSwap (d : Direction) : NoSwap s (countEncoder d s) := by
  unfold countEncoder
  extract_lets _ counted noticed
  have hc : NoSwap s counted := ⟨h, rfl⟩
  have hn : NoSwap s noticed := by
    unfold noticed
    split
    · exact hc.trans (positionLost_noSwap hc.1)
    · exact hc
  split
  · exact hn.trans (profileTest_noSwap hn.1)
  · exact hn

@[simp] theorem speedPeriodEnds_noSwap : NoSwap s (speedPeriodEnds s) := by
  unfold speedPeriodEnds
  dsimp only
  (repeat' split) <;> simp [NoSwap, h]

@[simp] theorem homeCloses_noSwap (closed : Bool) : NoSwap s (homeCloses closed s) := by
  unfold homeCloses
  (repeat' split) <;> simp [NoSwap, h]

@[simp] theorem limitAsserts_noSwap (d : Direction) (level : Bool) : NoSwap s (limitAsserts d level s) := by
  unfold limitAsserts
  (repeat' split) <;> simp [NoSwap, h]

@[simp] theorem estopAsserts_noSwap : NoSwap s (estopAsserts s) := by
  simp [NoSwap, estopAsserts, h]

end

/-- Every request but Request Swap leaves a part without a pending swap without one. -/
theorem handOver_noSwap {r : Request} (hr : r ≠ .requestSwap) (st : Station) (b : List Byte) {s : State}
    (h : s.travel.swapPending = false) : NoSwap s (handOver r st b s).1 := by
  cases r with
  | requestSwap => exact absurd rfl hr
  | _ => simp [NoSwap, handOver, h]

/-- The code of Request Swap is 41h (section 8.8). -/
theorem code_of_requestOf_requestSwap {c : Byte} (h : requestOf c.toNat = some .requestSwap) : c = 0x41 := by
  have hc : (Request.requestSwap.code == c.toNat) = true :=
    List.find?_some (p := fun r : Request => r.code == c.toNat) h
  exact BitVec.eq_of_toNat_eq (eq_of_beq hc).symm

/-- A port other than the Deck's refuses Request Swap, so only the Deck's can hand one over (R164). -/
theorem judgeEntry_noSwap {st : Station} {e : QueueEntry} (he : st = .deck → e.code ≠ 0x41) {s : State}
    (h : s.travel.swapPending = false) : NoSwap s (judgeEntry st e s).1 := by
  unfold judgeEntry
  split
  · exact ⟨h, rfl⟩
  split
  · exact ⟨h, rfl⟩
  next r hr =>
    split
    · simp [NoSwap, h]
    next ha =>
      have hne : r ≠ .requestSwap := by
        rintro rfl
        cases st with
        | deck => exact he rfl (code_of_requestOf_requestSwap hr)
        | cab => exact ha rfl
        | office => exact ha rfl
      split
      · exact ⟨h, rfl⟩
      split
      · exact ⟨h, rfl⟩
      · exact handOver_noSwap hne st e.body h

theorem takeHead_noSwap {st : Station} {s : State}
    (he : st = .deck → ∀ e ∈ (s.ports.get st).queue.head?, e.code ≠ 0x41) (k : Bool)
    (h : s.travel.swapPending = false) : NoSwap s (takeHead st k s) := by
  unfold takeHead
  split
  next e rest hs hq =>
    have hj : NoSwap s (judgeEntry st e (setCalUnlock k s)).1 :=
      judgeEntry_noSwap (fun hd => he hd e (by simp [hq])) h
    simpa [NoSwap] using hj
  · exact ⟨h, rfl⟩

theorem takeCharacters_travel (st : Station) (chars : List Byte) (s : State) :
    (chars.foldl (takeCharacter st) s).travel = s.travel := by
  induction chars generalizing s with
  | nil => rfl
  | cons b bs ih => simp [ih]

theorem request_noSwap {st : Station} {f : State → State × Answer} {s u : State} (hs : s.travel.swapPending = false)
    (hf : NoSwap s (f s).1) (hu : request st f s = .next u) : NoSwap s u := by
  obtain rfl := Host.Outcome.next.inj hu
  split
  · exact hf
  · exact ⟨hs, rfl⟩

/-- An arrival at `t`, which is `s` or `s` with a new pin level. -/
theorem arrival_noSwap {f : State → State} {s t u : State} (ht : NoSwap s t) (hf : NoSwap s (f t))
    (hu : arrival f t = .next u) : NoSwap s u := by
  obtain rfl := Host.Outcome.next.inj hu
  split
  · exact hf
  · exact ht

/-- Only Request Swap, taken by itself or from the Deck's queue, can bring a part without a pending swap to take one (R62,
R63). -/
theorem exec_noSwap {c : Instr} {s u : State} (hr : s.phase = .running) (hc : c ≠ .requestSwap)
    (hq : ∀ k, c = .takeRequest .deck k → ∀ e ∈ (s.ports.get .deck).queue.head?, e.code ≠ 0x41)
    (h : s.travel.swapPending = false) (hu : exec c s = .next u) : NoSwap s u := by
  cases c with
  | requestSwap => exact absurd rfl hc
  | takeRequest st k =>
    exact arrival_noSwap ⟨h, rfl⟩ (takeHead_noSwap (by rintro rfl; exact hq k rfl) k h) hu
  | frameComplete st chars =>
    exact arrival_noSwap (f := fun s => chars.foldl (takeCharacter st) s) ⟨h, rfl⟩
      (by simp [NoSwap, takeCharacters_travel, h]) hu
  | presence _ =>
    exact request_noSwap (f := fun s => ownPresence (presenceNotice s)) h (by simp [NoSwap, h]) hu
  | characterReceived st b =>
    exact arrival_noSwap (f := fun s => takeCharacter st s b) ⟨h, rfl⟩ (by simp [NoSwap, h]) hu
  | governorPeriodExpiry =>
    exact arrival_noSwap (f := fun s => restartPeriod (rampLevel s)) ⟨h, rfl⟩ (by simp [NoSwap, h]) hu
  | secondsTick =>
    exact arrival_noSwap (f := fun s => { s with accounts := tickSeconds s.accounts }) ⟨h, rfl⟩ ⟨h, rfl⟩ hu
  | powerOn =>
    obtain rfl := Host.Outcome.next.inj hu
    exact coldStart_noSwap s
  | resetNAsserted =>
    obtain rfl := Host.Outcome.next.inj hu
    exact coldStart_noSwap s
  | readStatus | readPlan | readStep | readLot | readHolds | readHatchMap | readBill | readTransit | readSettings
  | fetchEvent | startStep | resume | stopStep | setFeedLevel | acknowledgeTrip | clearStop | goToHold
  | goToPosition | referenceTravel | cancelTravel | clearTravelFault | setDiverter | holdPour | releasePour
  | openCall | closeCall | insertStep | modifyStep | deleteStep | cancelStep | closeStepShort | releaseHold
  | setTrimBand | writeHatchEntry | cancelSwap | openLot | closeLot | releaseBill | setTime | writeSetting
  | acceptSettings | writeCalibration =>
    exact request_noSwap h (by simp [NoSwap, h]) hu
  | stopBitMissing | idleGap | lineBreak | replySent | conversionComplete | refOkFall | refOkRise | wGroupArrival
  | referenceFaultNotice | referenceGoodNotice | tachPulse | dGroupArrival | highHoldExpiry | referenceTimerExpiry
  | encoderCount | travelSpeedPeriodEnd | homeCloses | limitSwitchAsserted | travelTimerExpiry | runOutTimerExpiry
  | estopAsserted | estopReleased | beltRunFall | feedRatePeriodEnd | presenceTimerExpiry =>
    exact arrival_noSwap (by simp [NoSwap, h]) (by simp [NoSwap, h]) hu
  | beltRunRise =>
    obtain rfl := Host.Outcome.next.inj hu
    exact ⟨h, rfl⟩
  | coldStartRecovery p =>
    obtain rfl := Host.Outcome.next.inj hu
    rw [if_pos (isRunning_of_running hr)]
    exact ⟨h, rfl⟩

/-! ### Cancel Swap -/

theorem otherPage_ne (p : Page) : otherPage p ≠ p := by
  fin_cases p <;> decide

theorem pageNumber_byte (p : Page) : pageNumber (BitVec.ofNat 8 p.val).toNat = some p := by
  fin_cases p <;> decide

theorem holdOf_byte (h : Hold) : holdOf (BitVec.ofNat 8 (h.val + 1)).toNat = some h := by
  fin_cases h <;> decide

/-- The state after a Cancel Swap that finds a call open (R64). -/
def swapCancelled (s : State) : State :=
  { s with travel := { s.travel with swapPending := false }, answer := some (.deck, answerOk []) }

theorem exec_cancelSwap_of_call {s : State} (hr : s.phase = .running) (hc : s.plan.callOpen = true) :
    exec .cancelSwap s = .next (swapCancelled s) := by
  refine (request_of_running hr .deck ownCancelSwap).trans ?_
  simp [ownCancelSwap, swapCancelled, hc]

theorem exec_cancelSwap_of_noCall {s : State} (hr : s.phase = .running) (hc : s.plan.callOpen = false) :
    exec .cancelSwap s = .next (s.notReady .deck .noCall) := by
  refine (request_of_running hr .deck ownCancelSwap).trans ?_
  simp [ownCancelSwap, hc, answerNotReady]

/-- With a call open and no swap pending, an entry of the inactive page can be marked absent (R61). -/
theorem exec_writeHatchEntry_absent {s : State} (hr : s.phase = .running) (hc : s.plan.callOpen = true)
    (h : s.travel.swapPending = false) (x : Hold) :
    exec (.writeHatchEntry (BitVec.ofNat 8 (otherPage s.travel.activePage).val) (BitVec.ofNat 8 (x.val + 1)) 0 0 0 0 0) s =
      .next { writeEntry (otherPage s.travel.activePage) x none s with
        answer := some (.deck, answerOk (hatchRecord x none)) } := by
  refine (request_of_running hr .deck (ownWriteHatchEntry _ _ _ _ _ _ _)).trans ?_
  rw [ownWriteHatchEntry, pageNumber_byte, holdOf_byte]
  simp [carriedEntry, firstOf, hc, h, otherPage_ne]

/-- An entry written on a page reads back. -/
theorem writeEntry_get (p : Page) (x : Hold) (e : Option Hatch) (s : State) :
    ((writeEntry p x e s).travel.pages.get p).get x = e := by
  simp [writeEntry]

/-! ### The statements -/

/-- Settles O23: each case is the owner's, and it leaves the carriage where a second Cancel Travel has nothing to end. -/
theorem cancelTravelEndsTheMotion : Obligations.CancelTravelEndsTheMotion := by
  intro s hr
  refine ⟨fun h => ?_, fun h => ?_, fun h => ?_, fun hb t ht => ?_⟩
  · rw [exec_cancelTravel hr, ownCancelTravel_of_inMotion h]
    exact congrArg Host.Outcome.next (swapTest_answer _ _).symm
  · rw [exec_cancelTravel hr, ownCancelTravel_of_pending h]
  · rw [exec_cancelTravel hr, ownCancelTravel_of_settled h]
    rfl
  · rw [exec_cancelTravel hr] at ht
    obtain rfl := Host.Outcome.next.inj ht
    refine exec_cancelTravel_of_settled (by simpa using hr) (ownCancelTravel_settled hb) ?_
    rw [ownCancelTravel_answer]

/-- Settles O36: the state after Cancel Swap has no swap pending, which every command but Request Swap keeps so
(`exec_noSwap`), and R61 then admits a write to the inactive page. -/
theorem cancelSwapWithdrawsTheSwap : Obligations.CancelSwapWithdrawsTheSwap := by
  intro s hr
  refine ⟨exec_cancelSwap_of_noCall hr, fun hc => ⟨swapCancelled s, exec_cancelSwap_of_call hr hc, rfl, ?_, ?_, ?_, ?_⟩⟩
  · exact swapTest_of_not_pending rfl
  · exact fun c u hne hq hu => exec_noSwap hr hne hq rfl hu
  · intro h
    rw [swapCancelled, ← h]
  · exact fun x => ⟨_, exec_writeHatchEntry_absent (s := swapCancelled s) hr hc rfl x, rfl, writeEntry_get ..⟩

end Sys2Proof.Machine

end

section
/-! Delete Step and Close Step Short (R100, R103): the refusals that the two share, and what each does to the step that it
names, which is the only one of its id. -/

namespace Sys2Proof.Machine

open Sys2Proof

/-! ### Steps with ids all different -/

section
variable {l : List Step} (hp : l.Pairwise (fun a b => a.id ≠ b.id))
include hp

/-- Steps with ids all different are equal when their ids are. -/
theorem eq_of_id_eq {x y : Step} (hx : x ∈ l) (hy : y ∈ l) (h : x.id = y.id) : x = y :=
  List.inj_on_of_nodup_map (List.pairwise_map.2 hp) hx hy h

/-- Looking for the id of a step of the list finds that step. -/
theorem find_id_of_mem {x : Step} (hx : x ∈ l) : l.find? (fun y => y.id == x.id) = some x := by
  cases h : l.find? (fun y => y.id == x.id) with
  | none => simpa using List.find?_eq_none.1 h x hx
  | some y => exact congrArg some (eq_of_id_eq hp (List.mem_of_find?_eq_some h) hx (by simpa using List.find?_some h))

end

section
variable {before after : List Step} {x : Step} (hp : (before ++ x :: after).Pairwise (fun a b => a.id ≠ b.id))
include hp

/-- Dropping the id of a step drops that step alone: those before it stay and those after it move up. -/
theorem filter_id_eq_append : (before ++ x :: after).filter (fun y => y.id != x.id) = before ++ after := by
  obtain ⟨-, hxa, hb⟩ := List.pairwise_append.1 hp
  have keepsBefore : before.filter (fun y => y.id != x.id) = before :=
    List.filter_eq_self.2 fun y hy => by simpa using hb y hy x (by simp)
  have keepsAfter : after.filter (fun y => y.id != x.id) = after :=
    List.filter_eq_self.2 fun y hy => by simpa using (List.rel_of_pairwise_cons hxa hy).symm
  rw [List.filter_append, List.filter_cons_of_neg (by simp), keepsBefore, keepsAfter]

/-- Once the first step that meets a test is gone, the first one left to meet it comes after it. -/
theorem find_append_of_find_eq {q : Step → Bool} (h : (before ++ x :: after).find? q = some x) :
    (before ++ after).find? q = after.find? q := by
  have notBefore : before.find? q = none := by
    cases hb : before.find? q with
    | none => rfl
    | some y =>
      obtain rfl : y = x := by simpa [hb] using h
      exact absurd rfl ((List.pairwise_append.1 hp).2.2 y (List.mem_of_find?_eq_some hb) y (by simp))
  simp [notBefore]

end

theorem stepOf_eq_none {p : Plan} {id : Nat} (h : ∀ x ∈ p.steps, x.id ≠ id) : stepOf p id = none :=
  List.find?_eq_none.2 (by simpa using h)

/-! ### A PLAN request about one step -/

/-- A PLAN request that names a step by its id and takes it in one state only: the refusals in order, and the reply with
the revision after the change (R94). -/
def stepRequest (q : StepState) (change : Step → State → State) (id : Nat) (s : State) : State × Answer :=
  if !s.plan.callOpen then (s, answerNotReady .noCall)
  else match stepOf s.plan id with
    | none => (s, answerOnly .notFound)
    | some x =>
      if x.state = q then (change x s, answerOk (le 2 (change x s).plan.revision))
      else (s, answerOnly .busy)

/-- Delete Step's change (R100). -/
def removeStep (id : Nat) (s : State) : State :=
  bumpRevision { s with plan := { s.plan with steps := s.plan.steps.filter (fun y => y.id != id) } }

/-- Close Step Short's change to the step record (R103). -/
def Step.closeShort (x : Step) : Step :=
  { x with state := .done, shortClosed := true, holdReason := none, effective := none }

/-- Close Step Short's change (R103). -/
def closeShort (id : Nat) (x : Step) (s : State) : State :=
  raise (.stepDone x.id .shortClosed x.placed) (bumpRevision { s with plan := s.plan.updateId id Step.closeShort })

theorem exec_deleteStep (id : BitVec 16) (s : State) :
    exec (.deleteStep id) s = request .deck (stepRequest .pending (fun _ => removeStep id.toNat) id.toNat) s := rfl

theorem exec_closeStepShort (id : BitVec 16) (s : State) :
    exec (.closeStepShort id) s = request .deck (stepRequest .held (closeShort id.toNat) id.toNat) s := rfl

section
variable {s : State} (hr : s.phase = .running) {q : StepState} {change : Step → State → State} {id : Nat}
include hr

theorem stepRequest_noCall (hc : s.plan.callOpen = false) :
    request .deck (stepRequest q change id) s = .next (s.notReady .deck .noCall) := by
  rw [request_of_running hr]
  simp [stepRequest, hc, answerNotReady]

variable (hc : s.plan.callOpen = true)
include hc

theorem stepRequest_notFound (h : ∀ x ∈ s.plan.steps, x.id ≠ id) :
    request .deck (stepRequest q change id) s = .next (s.replied .deck .notFound []) := by
  rw [request_of_running hr]
  simp [stepRequest, hc, stepOf_eq_none h, answerOnly]

variable {x : Step} (hx : stepOf s.plan id = some x)
include hx

theorem stepRequest_busy (h : x.state ≠ q) :
    request .deck (stepRequest q change id) s = .next (s.replied .deck .busy []) := by
  rw [request_of_running hr]
  simp [stepRequest, hc, hx, h, answerOnly]

theorem stepRequest_accepted (h : x.state = q) :
    request .deck (stepRequest q change id) s =
      .next { change x s with answer := some (.deck, answerOk (le 2 (change x s).plan.revision)) } := by
  rw [request_of_running hr]
  simp [stepRequest, hc, hx, h]

end

/-- A step removed: the others in their order, the revision and PLAN_CHANGED (R94, R100). -/
theorem removeStep_eq {s : State} {before after : List Step} {x : Step} (hs : s.plan.steps = before ++ x :: after)
    (hp : s.plan.steps.Pairwise (fun a b => a.id ≠ b.id)) : removeStep x.id s = { s with
      plan := { s.plan with steps := before ++ after, revision := (s.plan.revision + 1) % 65536 }
      events := s.events.raise (.planChanged ((s.plan.revision + 1) % 65536)) } := by
  rw [hs] at hp
  rw [removeStep, hs, filter_id_eq_append hp, bumpRevision_eq]

/-- A step closed short: its record, the revision, PLAN_CHANGED and then STEP_DONE (R94, R95, R103). -/
theorem closeShort_eq (id : Nat) (x : Step) (s : State) : closeShort id x s = { s with
      plan := { s.plan with
        revision := (s.plan.revision + 1) % 65536
        steps := s.plan.steps.map (fun y => if y.id = id then y.closeShort else y) }
      events := (s.events.raise (.planChanged ((s.plan.revision + 1) % 65536))).raise
        (.stepDone x.id .shortClosed x.placed) } := by
  simp [closeShort, bumpRevision_eq, raise, Plan.updateId]

/-! ### The statements -/

/-- Settles O31: the ids being all different, the step found is the one named and the only one to go; if it was the current
step, none before it is unfinished, and the next current step comes after it. -/
theorem deleteStepRemovesAPendingStep : Obligations.DeleteStepRemovesAPendingStep := by
  intro s id hr
  rw [exec_deleteStep]
  refine ⟨stepRequest_noCall hr, stepRequest_notFound hr, fun before x after hc hs hid hp => ?_⟩
  have found : stepOf s.plan id.toNat = some x := hid ▸ find_id_of_mem hp (by simp [hs])
  have removed := hid ▸ removeStep_eq hs hp
  refine ⟨stepRequest_busy hr hc found, fun h => ⟨_, stepRequest_accepted hr hc found h, ?_, fun hcur => ?_⟩⟩
  · rw [removed]
  · rw [removed]
    rw [currentStep, hs] at hcur
    exact find_append_of_find_eq (hs ▸ hp) hcur

/-- Settles O32: the ids being all different, the step found is the one named, and a HELD one is closed short
(`closeShort_eq`). -/
theorem closeStepShortEndsAHeldStep : Obligations.CloseStepShortEndsAHeldStep := by
  intro s id hr
  rw [exec_closeStepShort]
  refine ⟨stepRequest_noCall hr, stepRequest_notFound hr, fun x hc hx hid hp => ?_⟩
  have found : stepOf s.plan id.toNat = some x := hid ▸ find_id_of_mem hp hx
  refine ⟨stepRequest_busy hr hc found, fun h => ?_⟩
  rw [stepRequest_accepted hr hc found h, closeShort_eq]
  rfl

end Sys2Proof.Machine

end

section
/-! Start Step (R111 to R114): the tests in their order, the judgement of the remainder, and the two outcomes that change
the step: the start and the hold at start. -/

namespace Sys2Proof.Machine

open Sys2Proof

/-! ### The first of a list of tests -/

theorem firstOf_append (l m : List (Bool × Answer)) : firstOf (l ++ m) = (firstOf l).or (firstOf m) := by
  induction l with
  | nil => rfl
  | cons x l ih =>
    obtain ⟨c, b⟩ := x
    cases c
    · simpa [firstOf] using ih
    · rfl

theorem firstOf_eq_none {l : List (Bool × Answer)} (h : ∀ x ∈ l, x.1 = false) : firstOf l = none := by
  induction l with
  | nil => rfl
  | cons x l ih =>
    obtain ⟨hx, hl⟩ := List.forall_mem_cons.1 h
    rw [firstOf, hx]
    exact ih hl

/-- The owner's search through its tests answers as the claims say it (`FirstTest`). -/
theorem firstOf_of_firstTest {l : List (Bool × Answer)} {a : Answer} (h : FirstTest l a) : firstOf l = some a := by
  obtain ⟨before, after, rfl, hb⟩ := h
  rw [firstOf_append, firstOf_eq_none hb]
  rfl

/-! ### The fifteen tests -/

/-- The tests of Start Step that come before the current step is looked at (R111). -/
def startGuards (revision : Nat) (s : State) : List (Bool × Answer) :=
  [(!s.plan.callOpen, answerNotReady .noCall),
   (decide (revision ≠ s.plan.revision), answerOnly .stalePlan),
   (decide (s.governor.state ≠ .idle), answerOnly .busy)]

/-- The tests of Start Step on the current step and its surroundings (R111). -/
def surroundingTests (st : Step) (s : State) : List (Bool × Answer) :=
  [(decide (st.state = .held ∧ (st.holdReason = some .trim ∨ st.holdReason = some .holdFull ∨
      st.holdReason = some .scale ∨ st.holdReason = some .power)), answerNotReady .heldForDeck),
   (s.store.defaulted, answerNotReady .defaulted),
   (s.pins.estop || s.governor.estopLatch, answerNotReady .estop),
   (decide (s.travel.state ≠ .parked), answerNotReady .travelNotParked),
   (decide (s.travel.spoutOver ≠ some st.hold), answerNotReady .notOverHold),
   (decide (s.travel.diverter = .reject), answerNotReady .diverterReject),
   (decide (s.weigher.lineTotal ≠ 0), answerNotReady .lineNotClear),
   (!s.pins.beltRun, answerNotReady .beltNotRunning),
   (decide (s.dust.stage = .high ∨ s.dust.stage = .trip), answerNotReady .dust),
   (s.governor.deckHold, answerNotReady .deckHold),
   (decide (s.weigher.scale = .scaleFault), answerNotReady .scaleFault)]

/-- The tests of Start Step in their order; with no current step, NO_STEP always applies (R111). -/
def startTests (revision : Nat) (s : State) : List (Bool × Answer) :=
  startGuards revision s ++
    match currentStep s.plan with
    | none => [(true, answerNotReady .noStep)]
    | some st => surroundingTests st s

theorem startRefusal_eq (st : Step) (s : State) : startRefusal st s = firstOf (surroundingTests st s) := by
  simp [startRefusal, surroundingTests, firstOf, or_assoc]

theorem firstOf_startGuards (revision : Nat) (s : State) : firstOf (startGuards revision s) = firstOf
    [(!s.plan.callOpen, answerNotReady .noCall), (revision != s.plan.revision, answerOnly .stalePlan),
     (s.governor.state != .idle, answerOnly .busy)] := by
  simp [startGuards, firstOf]

/-- Start Step is its guards, then the current step, then the step's surroundings, then the judgement. -/
theorem ownStartStep_eq (revision : Nat) (s : State) : ownStartStep revision s =
    ((firstOf (startGuards revision s)).elim
      ((currentStep s.plan).elim (s, answerNotReady .noStep) fun st =>
        (firstOf (surroundingTests st s)).elim (judgedStart st s) (s, ·)) (s, ·)) := by
  simp only [ownStartStep, ← firstOf_startGuards, startRefusal_eq]
  cases firstOf (startGuards revision s) with
  | some a => rfl
  | none =>
    cases currentStep s.plan with
    | none => rfl
    | some st => cases h : firstOf (surroundingTests st s) <;> simp only [h, Option.elim]

/-- The first test that applies is the answer, and nothing changes (R111). -/
theorem ownStartStep_of_firstTest {revision : Nat} {s : State} {a : Answer} (h : FirstTest (startTests revision s) a) :
    ownStartStep revision s = (s, a) := by
  have found := firstOf_of_firstTest h
  rw [startTests, firstOf_append] at found
  rw [ownStartStep_eq]
  cases hg : firstOf (startGuards revision s) with
  | some b =>
    rw [hg] at found
    cases found
    rfl
  | none =>
    rw [hg, Option.none_or] at found
    cases hc : currentStep s.plan with
    | none =>
      rw [hc] at found
      cases found
      rfl
    | some st =>
      rw [hc] at found
      simp [found]

/-- With everything that Start Step tests, the remainder is judged (R111, R113). -/
theorem ownStartStep_of_allowed {revision : Nat} {s : State} {st : Step} (h : StartAllowed s st revision) :
    ownStartStep revision s = judgedStart st s := by
  obtain ⟨-, call, rev, idle, cur, held, defaulted, estop, latch, parked, spout, normal, clear, belt, dust, deck,
    scale⟩ := h
  have guards : firstOf (startGuards revision s) = none := firstOf_eq_none (by simp [startGuards, call, rev, idle])
  have notForDeck : st.state = .held → ¬ (st.holdReason = some .trim ∨ st.holdReason = some .holdFull ∨
      st.holdReason = some .scale ∨ st.holdReason = some .power) := by
    intro hs
    obtain e | e | e := held hs <;> simp [e]
  have quiet : ¬ (s.dust.stage = .high ∨ s.dust.stage = .trip) := by
    obtain e | e := dust <;> simp [e]
  have surroundings : firstOf (surroundingTests st s) = none := firstOf_eq_none (by
    simpa [surroundingTests, defaulted, estop, latch, parked, spout, normal, clear, belt, deck, scale]
      using ⟨by simpa using notForDeck, by simpa using quiet⟩)
  rw [ownStartStep_eq, guards, cur, Option.elim_none, Option.elim_some, surroundings, Option.elim_none]

theorem exec_startStep {s : State} (hr : s.phase = .running) (revision : BitVec 16) :
    exec (.startStep revision) s = .next { (ownStartStep revision.toNat s).1 with
      answer := some (.cab, (ownStartStep revision.toNat s).2) } :=
  request_of_running hr .cab (ownStartStep revision.toNat)

theorem exec_startStep_of_allowed {s : State} {st : Step} {revision : BitVec 16}
    (h : StartAllowed s st revision.toNat) : exec (.startStep revision) s =
      .next { (judgedStart st s).1 with answer := some (.cab, (judgedStart st s).2) } := by
  obtain ⟨hr, -⟩ := id h
  rw [exec_startStep hr, ownStartStep_of_allowed h]

/-! ### The judgement of the remainder (R113) -/

theorem TargetTerms.targetLeast_iff (t : TargetTerms) :
    t.targetLeast = true ↔ t.target ≤ t.room ∧ ∀ m ∈ t.trim, t.target ≤ m := by
  unfold TargetTerms.targetLeast
  cases t.trim <;> simp

theorem TargetTerms.roomFirst_iff (t : TargetTerms) : t.roomFirst = true ↔ ∀ m ∈ t.trim, t.room ≤ m := by
  unfold TargetTerms.roomFirst
  cases t.trim <;> simp

section
variable {t : TargetTerms} {placed minimum : Nat}

theorem judgeStart_start (h : placed + minimum ≤ t.least) : judgeStart t placed minimum = .start := if_pos h

variable (h : t.least < placed + minimum)
include h

theorem judgeStart_targetMet (ht : t.target ≤ t.room ∧ ∀ m ∈ t.trim, t.target ≤ m) :
    judgeStart t placed minimum = .targetMet := by
  rw [judgeStart, if_neg h.not_ge, if_pos (t.targetLeast_iff.2 ht)]

variable (ht : ¬ (t.target ≤ t.room ∧ ∀ m ∈ t.trim, t.target ≤ m))
include ht

theorem judgeStart_holdFull (hm : ∀ m ∈ t.trim, t.room ≤ m) : judgeStart t placed minimum = .heldFor .holdFull := by
  rw [judgeStart, if_neg h.not_ge, if_neg (mt t.targetLeast_iff.1 ht), if_pos (t.roomFirst_iff.2 hm)]

theorem judgeStart_trim (hm : ∃ m ∈ t.trim, m < t.room) : judgeStart t placed minimum = .heldFor .trim := by
  obtain ⟨m, mem, lt⟩ := hm
  have notRoom : ¬ t.roomFirst = true := fun hr => (t.roomFirst_iff.1 hr m mem).not_gt lt
  rw [judgeStart, if_neg h.not_ge, if_neg (mt t.targetLeast_iff.1 ht), if_neg notRoom]

end

/-! ### The start and the hold at start -/

/-- The current step is a step of the plan. -/
theorem mem_of_currentStep {p : Plan} {st : Step} (h : currentStep p = some st) : st ∈ p.steps :=
  List.mem_of_find?_eq_some h

theorem not_isActive_of_stepActive {s : State} (h : stepActive s = false) : ∀ x ∈ s.plan.steps, x.isActive = false := by
  simpa [stepActive, activeStep] using h

/-- A step started: its record, the revision and PLAN_CHANGED (R94, R105). -/
theorem stepStarted_eq (id eff : Nat) (s : State) : stepStarted id eff s = { s with
    plan := { s.plan with
      revision := (s.plan.revision + 1) % 65536
      steps := s.plan.steps.map (fun x => if x.id = id then
        { x with state := .active, holdReason := none, cutoffReason := none, effective := some eff } else x) }
    events := s.events.raise (.planChanged ((s.plan.revision + 1) % 65536)) } := by
  simp [stepStarted, bumpRevision_eq, Plan.updateId]

/-- A step held at start: its record, the revision, PLAN_CHANGED and then STEP_HELD (R94, R95, R105). -/
theorem heldAtStart_eq (id eff : Nat) (r : HoldReason) (s : State) : heldAtStart id eff r s = { s with
    plan := { s.plan with
      revision := (s.plan.revision + 1) % 65536
      steps := s.plan.steps.map (fun x => if x.id = id then
        { x with state := .held, holdReason := some r, effective := some eff } else x) }
    events := (s.events.raise (.planChanged ((s.plan.revision + 1) % 65536))).raise (.stepHeld id r) } := by
  simp [heldAtStart, bumpRevision_eq, raise, Plan.updateId]

/-- Once started, the step is the ACTIVE one, so that its maximum feed level bounds the ceiling. -/
theorem activeMaximum_stepStarted {s : State} {st : Step} (hp : PlanLaw s) (hm : st ∈ s.plan.steps)
    (hn : stepActive s = false) (eff : Nat) : activeMaximum (stepStarted st.id eff s) = st.maxLevel := by
  obtain ⟨-, -, -, ids, -⟩ := hp
  have active : activeStep (stepStarted st.id eff s).plan = some { st with
      state := .active, holdReason := none, cutoffReason := none, effective := some eff } :=
    find_active_updateId s.plan.steps _ st ids hm (not_isActive_of_stepActive hn) rfl
  rw [activeMaximum, active]

/-- A start: the step ACTIVE, its lot weighed, and feed permitted from level 0 in RAMPING (R114). -/
theorem startPour_eq {s : State} {st : Step} (hp : PlanLaw s) (hm : st ∈ s.plan.steps) (hn : stepActive s = false)
    (eff : Nat) : startPour st eff s = { stepStarted st.id eff s with
      weigher := { s.weigher with weighingLot := some st.slot }
      governor := { s.governor with
        state := .ramping, feedPermit := true, level := 0, dutyStaged := 0, tail := 0, clean := true
        effective := some eff
        ceiling := feedCeiling s st.maxLevel } } := by
  have maximum := activeMaximum_stepStarted hp hm hn eff
  rw [startPour, openGate_eq _ _ (by decide), ceilingNow_of_not_dribble _ (by simp), ← maximum]
  rfl

theorem judgedStart_start {s : State} {st : Step}
    (h : st.placed + minimumPourGrams s ≤ effectiveTarget s st) :
    judgedStart st s = (startPour st (effectiveTarget s st) s,
      startReply st.id .active none (effectiveTarget s st) (startPour st (effectiveTarget s st) s).plan.revision) := by
  rw [judgedStart, judgeStart_start h]

theorem judgedStart_targetMet {s : State} {st : Step}
    (h : judgeStart (targetTerms s st) st.placed (minimumPourGrams s) = .targetMet) :
    judgedStart st s = (s, answerNotReady .targetMet) := by
  rw [judgedStart, h]

theorem judgedStart_heldFor {s : State} {st : Step} {r : HoldReason}
    (h : judgeStart (targetTerms s st) st.placed (minimumPourGrams s) = .heldFor r) :
    judgedStart st s = (heldAtStart st.id (effectiveTarget s st) r s,
      startReply st.id .held (some r) (effectiveTarget s st)
        (heldAtStart st.id (effectiveTarget s st) r s).plan.revision) := by
  rw [judgedStart, h]

/-! ### The statement -/

/-- Settles O13: a refused Start Step changes nothing; one that is allowed comes to the judgement of the remainder, whose
four answers are the four outcomes. -/
theorem startStepJudgesTheRemainder : Obligations.StartStepJudgesTheRemainder := by
  refine ⟨fun revision s a hr h => ?_, fun revision s st ha hp hn hmin => ?_, fun revision s st ha hmin => ⟨?_, ?_, ?_⟩⟩
  · rw [exec_startStep hr, ownStartStep_of_firstTest h]
  · obtain ⟨-, -, -, -, cur, -⟩ := id ha
    rw [exec_startStep_of_allowed ha, judgedStart_start hmin, startPour_eq hp (mem_of_currentStep cur) hn, stepStarted_eq]
    rfl
  · intro ht
    rw [exec_startStep_of_allowed ha, judgedStart_targetMet (judgeStart_targetMet hmin ht)]
    rfl
  · intro ht hm
    rw [exec_startStep_of_allowed ha, judgedStart_heldFor (judgeStart_holdFull hmin ht hm), heldAtStart_eq]
    rfl
  · intro ht hm
    rw [exec_startStep_of_allowed ha, judgedStart_heldFor (judgeStart_trim hmin ht hm), heldAtStart_eq]
    rfl

end Sys2Proof.Machine

end

section
/-! Laws that every step keeps: what a command does, by its kind (a request to an owner block, an arrival, a cold start or a
recovery), and what a law must be kept by so that every step keeps it. -/

namespace Sys2Proof.Machine

open Sys2Proof

/-! ### The kinds of commands -/

/-- A request command, with the station that sends it and its owner's judgement. -/
inductive IsRequest : Instr → Station → (State → State × Answer) → Prop
  | readStatus (st : Station) : IsRequest (.readStatus st) st ownReadStatus
  | readPlan (st : Station) (offset limit : BitVec 16) :
    IsRequest (.readPlan st offset limit) st (ownReadPlan offset.toNat limit.toNat)
  | readStep (st : Station) (id : BitVec 16) : IsRequest (.readStep st id) st (ownReadStep id.toNat)
  | readLot (st : Station) (slot : Byte) (offset limit : BitVec 16) :
    IsRequest (.readLot st slot offset limit) st (ownReadLot slot.toNat offset.toNat limit.toNat)
  | readHolds (st : Station) : IsRequest (.readHolds st) st ownReadHolds
  | readHatchMap (st : Station) (page : Byte) (offset limit : BitVec 16) :
    IsRequest (.readHatchMap st page offset limit) st (ownReadHatchMap page.toNat offset.toNat limit.toNat)
  | readBill (st : Station) (number : BitVec 32) (offset limit : BitVec 16) :
    IsRequest (.readBill st number offset limit) st (ownReadBill number.toNat offset.toNat limit.toNat)
  | readTransit (st : Station) : IsRequest (.readTransit st) st ownReadTransit
  | readSettings (st : Station) (offset limit : BitVec 16) :
    IsRequest (.readSettings st offset limit) st (ownReadSettings offset.toNat limit.toNat)
  | fetchEvent (st : Station) : IsRequest (.fetchEvent st) st (ownFetchEvent st)
  | startStep (revision : BitVec 16) : IsRequest (.startStep revision) .cab (ownStartStep revision.toNat)
  | resume : IsRequest .resume .cab ownResume
  | stopStep : IsRequest .stopStep .cab ownStopStep
  | setFeedLevel (level : Byte) : IsRequest (.setFeedLevel level) .cab (ownSetFeedLevel level.toNat)
  | presence (body : List Byte) : IsRequest (.presence body) .cab (fun s => ownPresence (presenceNotice s))
  | acknowledgeTrip : IsRequest .acknowledgeTrip .cab ownAcknowledgeTrip
  | clearStop : IsRequest .clearStop .cab ownClearStop
  | goToHold (hold : Byte) : IsRequest (.goToHold hold) .cab (ownGoToHold hold.toNat)
  | goToPosition (position : BitVec 32) : IsRequest (.goToPosition position) .cab (ownGoToPosition position.toNat)
  | referenceTravel : IsRequest .referenceTravel .cab ownReferenceTravel
  | cancelTravel : IsRequest .cancelTravel .cab ownCancelTravel
  | clearTravelFault : IsRequest .clearTravelFault .cab ownClearTravelFault
  | setDiverter (value : Byte) : IsRequest (.setDiverter value) .cab (ownSetDiverter value.toNat)
  | holdPour : IsRequest .holdPour .deck ownHoldPour
  | releasePour : IsRequest .releasePour .deck ownReleasePour
  | openCall (callId : BitVec 32) (band : Option (BitVec 16)) :
    IsRequest (.openCall callId band) .deck (ownOpenCall callId.toNat (band.map BitVec.toNat))
  | closeCall : IsRequest .closeCall .deck ownCloseCall
  | insertStep (position hold slot : Byte) (target : BitVec 16) (maxLevel : Byte) :
    IsRequest (.insertStep position hold slot target maxLevel) .deck
      (ownInsertStep position.toNat hold.toNat slot.toNat target.toNat maxLevel.toNat)
  | modifyStep (id target : BitVec 16) (level : Byte) :
    IsRequest (.modifyStep id target level) .deck (ownModifyStep id.toNat target.toNat level.toNat)
  | deleteStep (id : BitVec 16) : IsRequest (.deleteStep id) .deck (ownDeleteStep id.toNat)
  | cancelStep (id : BitVec 16) : IsRequest (.cancelStep id) .deck (ownCancelStep id.toNat)
  | closeStepShort (id : BitVec 16) : IsRequest (.closeStepShort id) .deck (ownCloseStepShort id.toNat)
  | releaseHold (id : BitVec 16) : IsRequest (.releaseHold id) .deck (ownReleaseHold id.toNat)
  | setTrimBand (band : BitVec 16) : IsRequest (.setTrimBand band) .deck (ownSetTrimBand band.toNat)
  | writeHatchEntry (page hold present : Byte) (fore aft : BitVec 32) (lever limit : BitVec 16) :
    IsRequest (.writeHatchEntry page hold present fore aft lever limit) .deck
      (ownWriteHatchEntry page.toNat hold.toNat present.toNat fore.toNat aft.toNat lever.toInt limit.toNat)
  | requestSwap : IsRequest .requestSwap .deck ownRequestSwap
  | cancelSwap : IsRequest .cancelSwap .deck ownCancelSwap
  | openLot (number : BitVec 32) (grade refLength : Byte) (reference : List Byte) (declared : BitVec 32) :
    IsRequest (.openLot number grade refLength reference declared) .office
      (ownOpenLot number.toNat grade.toNat refLength.toNat reference declared.toNat)
  | closeLot (number : BitVec 32) : IsRequest (.closeLot number) .office (ownCloseLot number.toNat)
  | releaseBill (number : BitVec 32) : IsRequest (.releaseBill number) .office (ownReleaseBill number.toNat)
  | setTime (seconds : BitVec 32) : IsRequest (.setTime seconds) .office (ownSetTime seconds.toNat)
  | writeSetting (identifier : BitVec 16) (value : BitVec 32) :
    IsRequest (.writeSetting identifier value) .office (ownWriteSetting identifier.toNat value.toNat)
  | acceptSettings : IsRequest .acceptSettings .office ownAcceptSettings
  | writeCalibration (zero span : BitVec 16) (band : Byte) (calUnlock : Bool) :
    IsRequest (.writeCalibration zero span band calUnlock) .office
      (calibrationRequest zero.toNat span.toNat band.toNat calUnlock)

/-- The judgement of an owner block on a request, with whatever operands. -/
inductive Owner : (State → State × Answer) → Prop
  | readStatus : Owner ownReadStatus
  | readPlan (offset limit : Nat) : Owner (ownReadPlan offset limit)
  | readStep (id : Nat) : Owner (ownReadStep id)
  | readLot (slot offset limit : Nat) : Owner (ownReadLot slot offset limit)
  | readHolds : Owner ownReadHolds
  | readHatchMap (page offset limit : Nat) : Owner (ownReadHatchMap page offset limit)
  | readBill (n offset limit : Nat) : Owner (ownReadBill n offset limit)
  | readTransit : Owner ownReadTransit
  | readSettings (offset limit : Nat) : Owner (ownReadSettings offset limit)
  | fetchEvent (st : Station) : Owner (ownFetchEvent st)
  | startStep (revision : Nat) : Owner (ownStartStep revision)
  | resume : Owner ownResume
  | stopStep : Owner ownStopStep
  | setFeedLevel (level : Nat) : Owner (ownSetFeedLevel level)
  | presence : Owner ownPresence
  | presenceFrame : Owner (fun s => ownPresence (presenceNotice s))
  | acknowledgeTrip : Owner ownAcknowledgeTrip
  | clearStop : Owner ownClearStop
  | goToHold (hold : Nat) : Owner (ownGoToHold hold)
  | goToPosition (x : Nat) : Owner (ownGoToPosition x)
  | referenceTravel : Owner ownReferenceTravel
  | cancelTravel : Owner ownCancelTravel
  | clearTravelFault : Owner ownClearTravelFault
  | setDiverter (value : Nat) : Owner (ownSetDiverter value)
  | holdPour : Owner ownHoldPour
  | releasePour : Owner ownReleasePour
  | openCall (id : Nat) (band : Option Nat) : Owner (ownOpenCall id band)
  | closeCall : Owner ownCloseCall
  | insertStep (position hold slot target maxLevel : Nat) : Owner (ownInsertStep position hold slot target maxLevel)
  | modifyStep (id target level : Nat) : Owner (ownModifyStep id target level)
  | deleteStep (id : Nat) : Owner (ownDeleteStep id)
  | cancelStep (id : Nat) : Owner (ownCancelStep id)
  | closeStepShort (id : Nat) : Owner (ownCloseStepShort id)
  | releaseHold (id : Nat) : Owner (ownReleaseHold id)
  | setTrimBand (band : Nat) : Owner (ownSetTrimBand band)
  | writeHatchEntry (page hold present fore aft : Nat) (lever : Int) (limit : Nat) :
    Owner (ownWriteHatchEntry page hold present fore aft lever limit)
  | requestSwap : Owner ownRequestSwap
  | cancelSwap : Owner ownCancelSwap
  | openLot (number grade length : Nat) (reference : List Byte) (declared : Nat) :
    Owner (ownOpenLot number grade length reference declared)
  | closeLot (number : Nat) : Owner (ownCloseLot number)
  | releaseBill (n : Nat) : Owner (ownReleaseBill n)
  | setTime (seconds : Nat) : Owner (ownSetTime seconds)
  | writeSetting (identifier value : Nat) : Owner (ownWriteSetting identifier value)
  | acceptSettings : Owner ownAcceptSettings
  | writeCalibration (z sp b : Nat) : Owner (ownWriteCalibration z sp b)
  | calibrationRequest (z sp b : Nat) (calUnlock : Bool) : Owner (calibrationRequest z sp b calUnlock)

/-- An arrival, with what it sets in the input levels, in every phase, and what it does in a running part. -/
inductive IsArrival : Instr → (State → State) → (State → State) → Prop
  | frameComplete (st : Station) (chars : List Byte) :
    IsArrival (.frameComplete st chars) id (fun s => chars.foldl (takeCharacter st) s)
  | stopBitMissing (st : Station) :
    IsArrival (.stopBitMissing st) id (fun s => setPort st (s.ports.get st).dropFrame s)
  | idleGap (st : Station) : IsArrival (.idleGap st) id (fun s => setPort st (s.ports.get st).gap s)
  | lineBreak (st : Station) : IsArrival (.lineBreak st) id (fun s => setPort st Port.cold s)
  | takeRequest (st : Station) (calUnlock : Bool) : IsArrival (.takeRequest st calUnlock) id (takeHead st calUnlock)
  | replySent (st : Station) : IsArrival (.replySent st) id (fun s => setPort st (s.ports.get st).replyDone s)
  | conversionComplete (code : Code) : IsArrival (.conversionComplete code) id (conversionEnds code)
  | refOkFall : IsArrival .refOkFall (setRefOk false) referenceFalls
  | refOkRise : IsArrival .refOkRise (setRefOk true) referenceRises
  | wGroupArrival : IsArrival .wGroupArrival id takeWGroup
  | referenceFaultNotice (c : Consumer) : IsArrival (.referenceFaultNotice c) id (takeFaultNotice c)
  | referenceGoodNotice (c : Consumer) : IsArrival (.referenceGoodNotice c) id (takeGoodNotice c)
  | tachPulse : IsArrival .tachPulse id countPulse
  | dGroupArrival : IsArrival .dGroupArrival id takeDGroup
  | highHoldExpiry : IsArrival .highHoldExpiry id highHoldExpires
  | referenceTimerExpiry : IsArrival .referenceTimerExpiry id referenceTimerExpires
  | encoderCount (d : Direction) : IsArrival (.encoderCount d) id (countEncoder d)
  | travelSpeedPeriodEnd : IsArrival .travelSpeedPeriodEnd id speedPeriodEnds
  | homeCloses (closed : Bool) : IsArrival (.homeCloses closed) (setHome closed) (homeCloses closed)
  | limitSwitchAsserted (d : Direction) (level : Bool) :
    IsArrival (.limitSwitchAsserted d level) (setLimit d level) (limitAsserts d level)
  | travelTimerExpiry : IsArrival .travelTimerExpiry id travelExpiry
  | runOutTimerExpiry : IsArrival .runOutTimerExpiry id runOutExpiry
  | estopAsserted : IsArrival .estopAsserted (setEstop true) estopAsserts
  | estopReleased : IsArrival .estopReleased (setEstop false) estopReleases
  | beltRunFall : IsArrival .beltRunFall (setBeltRun false) (pauseCause .beltStopped)
  | beltRunRise : IsArrival .beltRunRise (setBeltRun true) id
  | governorPeriodExpiry : IsArrival .governorPeriodExpiry id (fun s => restartPeriod (rampLevel s))
  | feedRatePeriodEnd : IsArrival .feedRatePeriodEnd id feedPeriodEnds
  | presenceTimerExpiry : IsArrival .presenceTimerExpiry id presenceExpiry
  | secondsTick : IsArrival .secondsTick id (fun s => { s with accounts := tickSeconds s.accounts })
  | characterReceived (st : Station) (b : Byte) :
    IsArrival (.characterReceived st b) id (fun s => takeCharacter st s b)

theorem exec_of_request {c : Instr} {st : Station} {f : State → State × Answer} (hc : IsRequest c st f) (s : State) :
    exec c s = request st f s := by
  cases hc <;> rfl

theorem owner_of_request {c : Instr} {st : Station} {f : State → State × Answer} (hc : IsRequest c st f) : Owner f :=
  match hc with
  | .readStatus _ => .readStatus
  | .readPlan _ _ _ => .readPlan _ _
  | .readStep _ _ => .readStep _
  | .readLot _ _ _ _ => .readLot _ _ _
  | .readHolds _ => .readHolds
  | .readHatchMap _ _ _ _ => .readHatchMap _ _ _
  | .readBill _ _ _ _ => .readBill _ _ _
  | .readTransit _ => .readTransit
  | .readSettings _ _ _ => .readSettings _ _
  | .fetchEvent _ => .fetchEvent _
  | .startStep _ => .startStep _
  | .resume => .resume
  | .stopStep => .stopStep
  | .setFeedLevel _ => .setFeedLevel _
  | .presence _ => .presenceFrame
  | .acknowledgeTrip => .acknowledgeTrip
  | .clearStop => .clearStop
  | .goToHold _ => .goToHold _
  | .goToPosition _ => .goToPosition _
  | .referenceTravel => .referenceTravel
  | .cancelTravel => .cancelTravel
  | .clearTravelFault => .clearTravelFault
  | .setDiverter _ => .setDiverter _
  | .holdPour => .holdPour
  | .releasePour => .releasePour
  | .openCall _ _ => .openCall _ _
  | .closeCall => .closeCall
  | .insertStep _ _ _ _ _ => .insertStep _ _ _ _ _
  | .modifyStep _ _ _ => .modifyStep _ _ _
  | .deleteStep _ => .deleteStep _
  | .cancelStep _ => .cancelStep _
  | .closeStepShort _ => .closeStepShort _
  | .releaseHold _ => .releaseHold _
  | .setTrimBand _ => .setTrimBand _
  | .writeHatchEntry _ _ _ _ _ _ _ => .writeHatchEntry _ _ _ _ _ _ _
  | .requestSwap => .requestSwap
  | .cancelSwap => .cancelSwap
  | .openLot _ _ _ _ _ => .openLot _ _ _ _ _
  | .closeLot _ => .closeLot _
  | .releaseBill _ => .releaseBill _
  | .setTime _ => .setTime _
  | .writeSetting _ _ => .writeSetting _ _
  | .acceptSettings => .acceptSettings
  | .writeCalibration _ _ _ _ => .calibrationRequest _ _ _ _

theorem owner_handOver (r : Request) (st : Station) (b : List Byte) : Owner (handOver r st b) :=
  match r with
  | .readStatus => .readStatus
  | .readPlan => .readPlan _ _
  | .readStep => .readStep _
  | .readLot => .readLot _ _ _
  | .readHolds => .readHolds
  | .readHatchMap => .readHatchMap _ _ _
  | .readBill => .readBill _ _ _
  | .readTransit => .readTransit
  | .readSettings => .readSettings _ _
  | .fetchEvent => .fetchEvent _
  | .startStep => .startStep _
  | .resume => .resume
  | .stopStep => .stopStep
  | .setFeedLevel => .setFeedLevel _
  | .presence => .presence
  | .acknowledgeTrip => .acknowledgeTrip
  | .clearStop => .clearStop
  | .goToHold => .goToHold _
  | .goToPosition => .goToPosition _
  | .referenceTravel => .referenceTravel
  | .cancelTravel => .cancelTravel
  | .clearTravelFault => .clearTravelFault
  | .setDiverter => .setDiverter _
  | .holdPour => .holdPour
  | .releasePour => .releasePour
  | .openCall => .openCall _ _
  | .closeCall => .closeCall
  | .insertStep => .insertStep _ _ _ _ _
  | .modifyStep => .modifyStep _ _ _
  | .deleteStep => .deleteStep _
  | .cancelStep => .cancelStep _
  | .closeStepShort => .closeStepShort _
  | .releaseHold => .releaseHold _
  | .setTrimBand => .setTrimBand _
  | .writeHatchEntry => .writeHatchEntry _ _ _ _ _ _ _
  | .requestSwap => .requestSwap
  | .cancelSwap => .cancelSwap
  | .openLot => .openLot _ _ _ _ _
  | .closeLot => .closeLot _
  | .releaseBill => .releaseBill _
  | .setTime => .setTime _
  | .writeSetting => .writeSetting _ _
  | .acceptSettings => .acceptSettings
  | .writeCalibration => .writeCalibration _ _ _

theorem exec_of_arrival {c : Instr} {p f : State → State} (hc : IsArrival c p f) (s : State) :
    exec c s = arrival f (p s) := by
  cases hc with
  | beltRunRise => exact congrArg Host.Outcome.next (ite_self _).symm
  | _ => rfl

/-- Every command is a request, an arrival, a cold start or a recovery. -/
theorem command_kinds (c : Instr) :
    (∃ st f, IsRequest c st f) ∨ (∃ p f, IsArrival c p f) ∨ c = .powerOn ∨ c = .resetNAsserted ∨
      ∃ a, c = .coldStartRecovery a := by
  cases c with
  | powerOn => exact .inr (.inr (.inl rfl))
  | resetNAsserted => exact .inr (.inr (.inr (.inl rfl)))
  | coldStartRecovery a => exact .inr (.inr (.inr (.inr ⟨a, rfl⟩)))
  | readStatus | readPlan | readStep | readLot | readHolds | readHatchMap | readBill | readTransit | readSettings
  | fetchEvent | startStep | resume | stopStep | setFeedLevel | presence | acknowledgeTrip | clearStop | goToHold
  | goToPosition | referenceTravel | cancelTravel | clearTravelFault | setDiverter | holdPour | releasePour
  | openCall | closeCall | insertStep | modifyStep | deleteStep | cancelStep | closeStepShort | releaseHold
  | setTrimBand | writeHatchEntry | requestSwap | cancelSwap | openLot | closeLot | releaseBill | setTime
  | writeSetting | acceptSettings | writeCalibration => exact .inl ⟨_, _, by constructor⟩
  | _ => exact .inr (.inl ⟨_, _, by constructor⟩)

/-! ### What a law must be kept by -/

/-- What must be shown so that every step from a state that meets `pre` leads to one that meets `law`: each kind of command in
its phases, and the passage of a millisecond. -/
structure Kept (pre law : State → Prop) : Prop where
  base : ∀ s, pre s → law s
  queue : ∀ s q, pre s → pre { s with pending := q }
  answer : ∀ s a, law s → law { s with answer := a }
  tick : ∀ s, pre s → law (tick s)
  owner : ∀ s f, Owner f → s.phase = .running → pre s → law (f s).1
  pins : ∀ s c p f, IsArrival c p f → pre s → law (p s)
  arrival : ∀ s c p f, IsArrival c p f → s.phase = .running → pre s → law (f (p s))
  cold : ∀ s, pre s → law (coldStart s)
  reset : ∀ s, pre s → law (resetAsserts s)
  recover : ∀ s, s.phase = .cold → pre s → law (recover s)
  abandon : ∀ s p, s.phase = .cold → pre s → law (abandonRecovery p s)

theorem isRunning_iff (s : State) : s.isRunning = true ↔ s.phase = .running := by
  simp [State.isRunning]

theorem phase_cold_of_not_isRunning {s : State} (h : ¬ s.isRunning = true) : s.phase = .cold := by
  cases hp : s.phase with
  | cold => rfl
  | running => exact absurd ((isRunning_iff s).2 hp) h

/-- The input levels that an arrival sets do not move the phase. -/
theorem phase_of_pins {c : Instr} {p f : State → State} (hc : IsArrival c p f) (s : State) : (p s).phase = s.phase := by
  cases hc with
  | limitSwitchAsserted d => cases d <;> rfl
  | _ => rfl

/-- A request taken by a running part. -/
theorem exec_request_of_running {c : Instr} {st : Station} {f : State → State × Answer} (hc : IsRequest c st f) {s : State}
    (hr : s.phase = .running) : exec c s = .next { (f s).1 with answer := some (st, (f s).2) } := by
  rw [exec_of_request hc, request_of_running hr]

/-- An arrival taken by a running part. -/
theorem exec_arrival_of_running {c : Instr} {p f : State → State} (hc : IsArrival c p f) {s : State}
    (hr : s.phase = .running) : exec c s = .next (f (p s)) := by
  rw [exec_of_arrival hc, arrival, if_pos ((isRunning_iff _).2 ((phase_of_pins hc s).trans hr))]

section
variable {pre law : State → Prop} (k : Kept pre law) {s t : State}
include k

theorem Kept.exec {c : Instr} (h : pre s) (ht : exec c s = .next t) : law t := by
  obtain ⟨st, f, hc⟩ | ⟨p, f, hc⟩ | rfl | rfl | ⟨a, rfl⟩ := command_kinds c
  · rw [exec_of_request hc] at ht
    obtain rfl := Host.Outcome.next.inj ht
    split
    next hr => exact k.answer _ _ (k.owner s f (owner_of_request hc) ((isRunning_iff s).1 hr) h)
    next => exact k.base s h
  · rw [exec_of_arrival hc] at ht
    obtain rfl := Host.Outcome.next.inj ht
    split
    next hr => exact k.arrival s c p f hc (by rw [← phase_of_pins hc]; exact (isRunning_iff _).1 hr) h
    next => exact k.pins s c p f hc h
  · obtain rfl := Host.Outcome.next.inj ht
    exact k.cold s h
  · obtain rfl := Host.Outcome.next.inj ht
    exact k.reset s h
  · obtain rfl := Host.Outcome.next.inj ht
    split
    next => exact k.base s h
    next hr =>
      have hp := phase_cold_of_not_isRunning hr
      cases a with
      | none => exact k.recover s hp h
      | some p => exact k.abandon s p hp h

theorem Kept.step (h : pre s) (ht : step s = .next t) : law t := by
  unfold Machine.step at ht
  split at ht
  next c rest _ => exact k.exec (k.queue s rest h) ht
  next =>
    obtain rfl := Host.Outcome.next.inj ht
    exact k.tick s h

end

theorem Kept.keeps {law : State → Prop} (k : Kept law law) : Keeps law := fun _ _ => k.step

/-- No test applies when none is answered. -/
theorem forall_of_firstOf_none {l : List (Bool × Answer)} (h : firstOf l = none) : ∀ x ∈ l, x.1 = false := by
  induction l with
  | nil => nofun
  | cons x l ih =>
    rw [firstOf] at h
    split at h
    · cases h
    next hx => exact List.forall_mem_cons.2 ⟨by simpa using hx, ih h⟩

/-! ### A request taken from a queue -/

/-- What the take of a request leads to: nothing, or a reply after the entry is refused at the port, is not permitted, or is
handed to an owner whose class the port allows (R161, R164). -/
theorem takeHead_cases (st : Station) (u : Bool) (s : State) :
    takeHead st u s = s ∨ ∃ e a t, takeHead st u s = sendReply st e a t ∧
      (t = setCalUnlock u s ∨ t = raise (.rights st e.code) (setCalUnlock u s) ∨
        ∃ r b, r.cls.allowed st = true ∧ t = (handOver r st b (setCalUnlock u s)).1) := by
  unfold takeHead
  split
  next e rest _ _ =>
    refine .inr ⟨e, _, _, rfl, ?_⟩
    unfold judgeEntry
    split
    · exact .inl rfl
    split
    · exact .inl rfl
    next r _ =>
      split
      · exact .inr (.inl rfl)
      next allowed =>
        split
        · exact .inl rfl
        split
        · exact .inl rfl
        · exact .inr (.inr ⟨r, e.body, by simpa using allowed, rfl⟩)
  next => exact .inl rfl

/-- A law that does not look at the ports or at CAL_UNLOCK is kept by a take when the owners keep it. -/
theorem takeHead_keeps {pre law : State → Prop} (hb : ∀ s, pre s → law s)
    (hu : ∀ s u, pre s → pre (setCalUnlock u s)) (hr : ∀ s st c, law s → law (raise (.rights st c) s))
    (hp : ∀ s st v, law s → law (setPort st v s)) (ho : ∀ s f, Owner f → s.phase = .running → pre s → law (f s).1)
    {st : Station} {u : Bool} {s : State} (hs : s.phase = .running) (h : pre s) : law (takeHead st u s) := by
  obtain ht | ⟨e, a, t, ht, rfl | rfl | ⟨r, b, -, rfl⟩⟩ := takeHead_cases st u s <;> rw [ht]
  · exact hb s h
  · exact hp _ _ _ (hb _ (hu s u h))
  · exact hp _ _ _ (hr _ _ _ (hb _ (hu s u h)))
  · exact hp _ _ _ (ho _ _ (owner_handOver r st b) hs (hu s u h))

/-- What one character keeps, the characters of a frame keep. -/
theorem takeCharacters_keeps {law : State → Prop} {st : Station} (h1 : ∀ s b, law s → law (takeCharacter st s b))
    (chars : List Byte) {s : State} (h : law s) : law (chars.foldl (takeCharacter st) s) := by
  induction chars generalizing s with
  | nil => exact h
  | cons b bs ih => exact ih (h1 s b h)

end Sys2Proof.Machine

end

section
/-! Fields: of a block's state that an operation changes, the fields that the operation leaves as they are. Laws/Frames.lean says
so of whole blocks; each lemma here is, as there, a conjunction that `simp` uses field by field. -/

namespace Sys2Proof.Machine

open Sys2Proof

/-! ### The pieces that operations are made of -/

@[simp] theorem Travel.atRest_waiting (t : Travel) :
    t.atRest.travelTimer = t.travelTimer ∧ t.atRest.runOutTimer = t.runOutTimer ∧
    t.atRest.beforePending = t.beforePending := ⟨rfl, rfl, rfl⟩

@[simp] theorem Plan.updateActive_fields (p : Plan) (f : Step → Step) :
    (p.updateActive f).callOpen = p.callOpen ∧ (p.updateActive f).callId = p.callId ∧
    (p.updateActive f).trimBand = p.trimBand ∧ (p.updateActive f).revision = p.revision ∧
    (p.updateActive f).stepIdCounter = p.stepIdCounter := ⟨rfl, rfl, rfl, rfl, rfl⟩

@[simp] theorem Plan.updateId_fields (p : Plan) (id : Nat) (f : Step → Step) :
    (p.updateId id f).callOpen = p.callOpen ∧ (p.updateId id f).callId = p.callId ∧
    (p.updateId id f).trimBand = p.trimBand ∧ (p.updateId id f).revision = p.revision ∧
    (p.updateId id f).stepIdCounter = p.stepIdCounter := ⟨rfl, rfl, rfl, rfl, rfl⟩

@[simp] theorem updateLedger_fields (acc : Account) (f : Ledger → Ledger) (s : State) :
    (updateLedger acc f s).accounts.credited = s.accounts.credited ∧
    (updateLedger acc f s).accounts.moment = s.accounts.moment ∧
    (updateLedger acc f s).accounts.bills = s.accounts.bills ∧
    (updateLedger acc f s).accounts.billCounter = s.accounts.billCounter := by
  simp [updateLedger]

@[simp] theorem Accounts.cold_fields (a : Accounts) :
    a.cold.lots = a.lots ∧ a.cold.unassigned = a.unassigned ∧ a.cold.credited = a.credited ∧
    a.cold.moment = a.moment ∧ a.cold.bills = a.bills ∧ a.cold.billCounter = a.billCounter :=
  ⟨rfl, rfl, rfl, rfl, rfl, rfl⟩

@[simp] theorem Travel.cold_fields (pages : Vector HatchPage 2) (active : Page) :
    (Travel.cold pages active).pages = pages ∧ (Travel.cold pages active).activePage = active := ⟨rfl, rfl⟩

@[simp] theorem Governor.cold_preact (preact : Nat) : (Governor.cold preact).preact = preact := rfl

@[simp] theorem Weigher.cold_weighingLot (n : Nat) (lot : Option Slot) : (Weigher.cold n lot).weighingLot = lot := rfl

@[simp] theorem Weigher.addLoad_fields (w : Weigher) (load : Nat) :
    (w.addLoad load).line = w.line ∧ (w.addLoad load).lineTotal = w.lineTotal ∧
    (w.addLoad load).weighingLot = w.weighingLot ∧ (w.addLoad load).scale = w.scale ∧
    (w.addLoad load).lastMean = w.lastMean ∧ (w.addLoad load).holdLast = w.holdLast ∧
    (w.addLoad load).pulseCount = w.pulseCount := by
  unfold Weigher.addLoad
  split <;> simp

/-! ### The operations, in the order of their definitions -/

@[simp] theorem bumpRevision_fields (s : State) :
    (bumpRevision s).plan.callOpen = s.plan.callOpen ∧ (bumpRevision s).plan.callId = s.plan.callId ∧
    (bumpRevision s).plan.trimBand = s.plan.trimBand ∧ (bumpRevision s).plan.stepIdCounter = s.plan.stepIdCounter := by
  simp [bumpRevision]

@[simp] theorem recomputeSpout_fields (s : State) :
    (recomputeSpout s).travel.pages = s.travel.pages ∧ (recomputeSpout s).travel.diverter = s.travel.diverter ∧
    (recomputeSpout s).travel.referenced = s.travel.referenced ∧
    (recomputeSpout s).travel.position = s.travel.position ∧
    (recomputeSpout s).travel.travelTimer = s.travel.travelTimer ∧
    (recomputeSpout s).travel.runOutTimer = s.travel.runOutTimer ∧
    (recomputeSpout s).travel.beforePending = s.travel.beforePending := by
  simp [recomputeSpout]

@[simp] theorem recomputeMoment_fields (s : State) :
    (recomputeMoment s).accounts.lots = s.accounts.lots ∧
    (recomputeMoment s).accounts.unassigned = s.accounts.unassigned ∧
    (recomputeMoment s).accounts.credited = s.accounts.credited ∧
    (recomputeMoment s).accounts.bills = s.accounts.bills ∧
    (recomputeMoment s).accounts.billCounter = s.accounts.billCounter := by
  simp [recomputeMoment]

@[simp] theorem takeSwap_fields (s : State) :
    (takeSwap s).travel.pages = s.travel.pages ∧ (takeSwap s).travel.diverter = s.travel.diverter ∧
    (takeSwap s).travel.referenced = s.travel.referenced ∧ (takeSwap s).travel.position = s.travel.position ∧
    (takeSwap s).travel.travelTimer = s.travel.travelTimer ∧ (takeSwap s).travel.runOutTimer = s.travel.runOutTimer ∧
    (takeSwap s).travel.beforePending = s.travel.beforePending ∧ (takeSwap s).accounts.lots = s.accounts.lots ∧
    (takeSwap s).accounts.unassigned = s.accounts.unassigned ∧ (takeSwap s).accounts.credited = s.accounts.credited ∧
    (takeSwap s).accounts.bills = s.accounts.bills ∧ (takeSwap s).accounts.billCounter = s.accounts.billCounter := by
  simp [takeSwap]

@[simp] theorem swapTest_fields (s : State) :
    (swapTest s).travel.pages = s.travel.pages ∧ (swapTest s).travel.diverter = s.travel.diverter ∧
    (swapTest s).travel.referenced = s.travel.referenced ∧ (swapTest s).travel.position = s.travel.position ∧
    (swapTest s).travel.travelTimer = s.travel.travelTimer ∧ (swapTest s).travel.runOutTimer = s.travel.runOutTimer ∧
    (swapTest s).travel.beforePending = s.travel.beforePending ∧ (swapTest s).accounts.lots = s.accounts.lots ∧
    (swapTest s).accounts.unassigned = s.accounts.unassigned ∧ (swapTest s).accounts.credited = s.accounts.credited ∧
    (swapTest s).accounts.bills = s.accounts.bills ∧ (swapTest s).accounts.billCounter = s.accounts.billCounter := by
  unfold swapTest
  (repeat' split) <;> simp

@[simp] theorem completeStep_fields (s : State) :
    (completeStep s).travel.pages = s.travel.pages ∧ (completeStep s).travel.diverter = s.travel.diverter ∧
    (completeStep s).travel.referenced = s.travel.referenced ∧ (completeStep s).travel.position = s.travel.position ∧
    (completeStep s).travel.travelTimer = s.travel.travelTimer ∧
    (completeStep s).travel.runOutTimer = s.travel.runOutTimer ∧
    (completeStep s).travel.beforePending = s.travel.beforePending ∧ (completeStep s).plan.callOpen = s.plan.callOpen ∧
    (completeStep s).plan.callId = s.plan.callId ∧ (completeStep s).plan.trimBand = s.plan.trimBand ∧
    (completeStep s).plan.stepIdCounter = s.plan.stepIdCounter ∧ (completeStep s).accounts.lots = s.accounts.lots ∧
    (completeStep s).accounts.unassigned = s.accounts.unassigned ∧
    (completeStep s).accounts.credited = s.accounts.credited ∧ (completeStep s).accounts.bills = s.accounts.bills ∧
    (completeStep s).accounts.billCounter = s.accounts.billCounter := by
  unfold completeStep
  (repeat' split) <;> simp

@[simp] theorem stepStarted_fields (id eff : Nat) (s : State) :
    (stepStarted id eff s).plan.callOpen = s.plan.callOpen ∧ (stepStarted id eff s).plan.callId = s.plan.callId ∧
    (stepStarted id eff s).plan.trimBand = s.plan.trimBand ∧
    (stepStarted id eff s).plan.stepIdCounter = s.plan.stepIdCounter := by
  simp [stepStarted]

@[simp] theorem heldAtStart_fields (id eff : Nat) (r : HoldReason) (s : State) :
    (heldAtStart id eff r s).plan.callOpen = s.plan.callOpen ∧ (heldAtStart id eff r s).plan.callId = s.plan.callId ∧
    (heldAtStart id eff r s).plan.trimBand = s.plan.trimBand ∧
    (heldAtStart id eff r s).plan.stepIdCounter = s.plan.stepIdCounter := by
  simp [heldAtStart]

@[simp] theorem recordCutoff_fields (r : CutoffReason) (s : State) :
    (recordCutoff r s).plan.callOpen = s.plan.callOpen ∧ (recordCutoff r s).plan.callId = s.plan.callId ∧
    (recordCutoff r s).plan.trimBand = s.plan.trimBand ∧
    (recordCutoff r s).plan.stepIdCounter = s.plan.stepIdCounter := by
  simp [recordCutoff]

@[simp] theorem enterFault_fields (c : FaultCause) (s : State) :
    (enterFault c s).travel.pages = s.travel.pages ∧ (enterFault c s).travel.diverter = s.travel.diverter ∧
    (enterFault c s).travel.referenced = s.travel.referenced ∧ (enterFault c s).travel.position = s.travel.position ∧
    (enterFault c s).travel.runOutTimer = s.travel.runOutTimer ∧
    (enterFault c s).travel.beforePending = s.travel.beforePending ∧ (enterFault c s).accounts.lots = s.accounts.lots ∧
    (enterFault c s).accounts.unassigned = s.accounts.unassigned ∧
    (enterFault c s).accounts.credited = s.accounts.credited ∧ (enterFault c s).accounts.bills = s.accounts.bills ∧
    (enterFault c s).accounts.billCounter = s.accounts.billCounter := by
  simp [enterFault]

@[simp] theorem homeSet_fields (s : State) :
    (homeSet s).travel.pages = s.travel.pages ∧ (homeSet s).travel.diverter = s.travel.diverter ∧
    (homeSet s).travel.runOutTimer = s.travel.runOutTimer ∧ (homeSet s).travel.beforePending = s.travel.beforePending ∧
    (homeSet s).accounts.lots = s.accounts.lots ∧ (homeSet s).accounts.unassigned = s.accounts.unassigned ∧
    (homeSet s).accounts.credited = s.accounts.credited ∧ (homeSet s).accounts.bills = s.accounts.bills ∧
    (homeSet s).accounts.billCounter = s.accounts.billCounter := by
  simp [homeSet]

@[simp] theorem abandonPending_fields (s : State) :
    (abandonPending s).travel.pages = s.travel.pages ∧ (abandonPending s).travel.diverter = s.travel.diverter ∧
    (abandonPending s).travel.referenced = s.travel.referenced ∧
    (abandonPending s).travel.position = s.travel.position ∧
    (abandonPending s).travel.travelTimer = s.travel.travelTimer ∧
    (abandonPending s).travel.beforePending = s.travel.beforePending := by
  simp [abandonPending]

@[simp] theorem startGoTo_fields (x : Nat) (s : State) :
    (startGoTo x s).travel.pages = s.travel.pages ∧ (startGoTo x s).travel.diverter = s.travel.diverter ∧
    (startGoTo x s).travel.referenced = s.travel.referenced ∧ (startGoTo x s).travel.position = s.travel.position ∧
    (startGoTo x s).travel.runOutTimer = s.travel.runOutTimer ∧
    (startGoTo x s).travel.beforePending = s.travel.beforePending ∧ (startGoTo x s).accounts.lots = s.accounts.lots ∧
    (startGoTo x s).accounts.unassigned = s.accounts.unassigned ∧
    (startGoTo x s).accounts.credited = s.accounts.credited ∧ (startGoTo x s).accounts.bills = s.accounts.bills ∧
    (startGoTo x s).accounts.billCounter = s.accounts.billCounter := by
  unfold startGoTo
  dsimp only
  (repeat' split) <;> simp

@[simp] theorem startReference_fields (s : State) :
    (startReference s).travel.pages = s.travel.pages ∧ (startReference s).travel.diverter = s.travel.diverter ∧
    (startReference s).travel.runOutTimer = s.travel.runOutTimer ∧
    (startReference s).travel.beforePending = s.travel.beforePending ∧
    (startReference s).accounts.lots = s.accounts.lots ∧
    (startReference s).accounts.unassigned = s.accounts.unassigned ∧
    (startReference s).accounts.credited = s.accounts.credited ∧ (startReference s).accounts.bills = s.accounts.bills ∧
    (startReference s).accounts.billCounter = s.accounts.billCounter := by
  unfold startReference
  dsimp only
  (repeat' split) <;> simp

@[simp] theorem startMotion_fields (s : State) :
    (startMotion s).travel.pages = s.travel.pages ∧ (startMotion s).travel.diverter = s.travel.diverter ∧
    (startMotion s).travel.beforePending = s.travel.beforePending ∧ (startMotion s).accounts.lots = s.accounts.lots ∧
    (startMotion s).accounts.unassigned = s.accounts.unassigned ∧
    (startMotion s).accounts.credited = s.accounts.credited ∧ (startMotion s).accounts.bills = s.accounts.bills ∧
    (startMotion s).accounts.billCounter = s.accounts.billCounter := by
  unfold startMotion
  dsimp only
  (repeat' split) <;> simp

@[simp] theorem inPosition_fields (s : State) :
    (inPosition s).travel.pages = s.travel.pages ∧ (inPosition s).travel.diverter = s.travel.diverter ∧
    (inPosition s).travel.referenced = s.travel.referenced ∧ (inPosition s).travel.position = s.travel.position ∧
    (inPosition s).travel.runOutTimer = s.travel.runOutTimer ∧
    (inPosition s).travel.beforePending = s.travel.beforePending ∧ (inPosition s).accounts.lots = s.accounts.lots ∧
    (inPosition s).accounts.unassigned = s.accounts.unassigned ∧
    (inPosition s).accounts.credited = s.accounts.credited ∧ (inPosition s).accounts.bills = s.accounts.bills ∧
    (inPosition s).accounts.billCounter = s.accounts.billCounter := by
  simp [inPosition]

@[simp] theorem creepOn_fields (d : Direction) (s : State) :
    (creepOn d s).travel.pages = s.travel.pages ∧ (creepOn d s).travel.diverter = s.travel.diverter ∧
    (creepOn d s).travel.referenced = s.travel.referenced ∧ (creepOn d s).travel.position = s.travel.position ∧
    (creepOn d s).travel.travelTimer = s.travel.travelTimer ∧ (creepOn d s).travel.runOutTimer = s.travel.runOutTimer ∧
    (creepOn d s).travel.beforePending = s.travel.beforePending := by
  simp [creepOn]

@[simp] theorem reversal_fields (d : Direction) (s : State) :
    (reversal d s).travel.pages = s.travel.pages ∧ (reversal d s).travel.diverter = s.travel.diverter ∧
    (reversal d s).travel.referenced = s.travel.referenced ∧ (reversal d s).travel.position = s.travel.position ∧
    (reversal d s).travel.runOutTimer = s.travel.runOutTimer ∧
    (reversal d s).travel.beforePending = s.travel.beforePending ∧ (reversal d s).accounts.lots = s.accounts.lots ∧
    (reversal d s).accounts.unassigned = s.accounts.unassigned ∧
    (reversal d s).accounts.credited = s.accounts.credited ∧ (reversal d s).accounts.bills = s.accounts.bills ∧
    (reversal d s).accounts.billCounter = s.accounts.billCounter := by
  unfold reversal
  dsimp only
  (repeat' split) <;> simp

@[simp] theorem stopJudgement_fields (s : State) :
    (stopJudgement s).travel.pages = s.travel.pages ∧ (stopJudgement s).travel.diverter = s.travel.diverter ∧
    (stopJudgement s).travel.referenced = s.travel.referenced ∧ (stopJudgement s).travel.position = s.travel.position ∧
    (stopJudgement s).travel.runOutTimer = s.travel.runOutTimer ∧
    (stopJudgement s).travel.beforePending = s.travel.beforePending ∧
    (stopJudgement s).accounts.lots = s.accounts.lots ∧ (stopJudgement s).accounts.unassigned = s.accounts.unassigned ∧
    (stopJudgement s).accounts.credited = s.accounts.credited ∧ (stopJudgement s).accounts.bills = s.accounts.bills ∧
    (stopJudgement s).accounts.billCounter = s.accounts.billCounter := by
  unfold stopJudgement
  dsimp only
  (repeat' split) <;> simp

@[simp] theorem profileTest_fields (s : State) :
    (profileTest s).travel.pages = s.travel.pages ∧ (profileTest s).travel.diverter = s.travel.diverter ∧
    (profileTest s).travel.referenced = s.travel.referenced ∧ (profileTest s).travel.position = s.travel.position ∧
    (profileTest s).travel.travelTimer = s.travel.travelTimer ∧
    (profileTest s).travel.runOutTimer = s.travel.runOutTimer ∧
    (profileTest s).travel.beforePending = s.travel.beforePending := by
  unfold profileTest
  (repeat' split) <;> simp

@[simp] theorem runOutExpiry_fields (s : State) :
    (runOutExpiry s).travel.pages = s.travel.pages ∧ (runOutExpiry s).travel.diverter = s.travel.diverter ∧
    (runOutExpiry s).travel.referenced = s.travel.referenced ∧ (runOutExpiry s).travel.position = s.travel.position ∧
    (runOutExpiry s).travel.travelTimer = s.travel.travelTimer ∧
    (runOutExpiry s).travel.beforePending = s.travel.beforePending := by
  unfold runOutExpiry
  (repeat' split) <;> simp

@[simp] theorem travelExpiry_fields (s : State) :
    (travelExpiry s).travel.pages = s.travel.pages ∧ (travelExpiry s).travel.diverter = s.travel.diverter ∧
    (travelExpiry s).travel.referenced = s.travel.referenced ∧ (travelExpiry s).travel.position = s.travel.position ∧
    (travelExpiry s).travel.runOutTimer = s.travel.runOutTimer ∧
    (travelExpiry s).travel.beforePending = s.travel.beforePending ∧ (travelExpiry s).accounts.lots = s.accounts.lots ∧
    (travelExpiry s).accounts.unassigned = s.accounts.unassigned ∧
    (travelExpiry s).accounts.credited = s.accounts.credited ∧ (travelExpiry s).accounts.bills = s.accounts.bills ∧
    (travelExpiry s).accounts.billCounter = s.accounts.billCounter := by
  unfold travelExpiry
  (repeat' split) <;> simp

@[simp] theorem travelSegmentClosed_fields (s : State) :
    (travelSegmentClosed s).travel.pages = s.travel.pages ∧
    (travelSegmentClosed s).travel.beforePending = s.travel.beforePending ∧
    (travelSegmentClosed s).accounts.lots = s.accounts.lots ∧
    (travelSegmentClosed s).accounts.unassigned = s.accounts.unassigned ∧
    (travelSegmentClosed s).accounts.credited = s.accounts.credited ∧
    (travelSegmentClosed s).accounts.bills = s.accounts.bills ∧
    (travelSegmentClosed s).accounts.billCounter = s.accounts.billCounter := by
  unfold travelSegmentClosed
  dsimp only
  (repeat' split) <;> simp

@[simp] theorem travelStop_fields (s : State) :
    (travelStop s).travel.pages = s.travel.pages ∧ (travelStop s).travel.diverter = s.travel.diverter ∧
    (travelStop s).travel.referenced = s.travel.referenced ∧ (travelStop s).travel.position = s.travel.position ∧
    (travelStop s).travel.beforePending = s.travel.beforePending ∧ (travelStop s).accounts.lots = s.accounts.lots ∧
    (travelStop s).accounts.unassigned = s.accounts.unassigned ∧
    (travelStop s).accounts.credited = s.accounts.credited ∧ (travelStop s).accounts.bills = s.accounts.bills ∧
    (travelStop s).accounts.billCounter = s.accounts.billCounter := by
  unfold travelStop
  dsimp only
  (repeat' split) <;> simp

@[simp] theorem stopCleared_fields (s : State) :
    (stopCleared s).travel.pages = s.travel.pages ∧ (stopCleared s).travel.diverter = s.travel.diverter ∧
    (stopCleared s).travel.referenced = s.travel.referenced ∧ (stopCleared s).travel.position = s.travel.position ∧
    (stopCleared s).travel.travelTimer = s.travel.travelTimer ∧
    (stopCleared s).travel.runOutTimer = s.travel.runOutTimer ∧
    (stopCleared s).travel.beforePending = s.travel.beforePending ∧ (stopCleared s).accounts.lots = s.accounts.lots ∧
    (stopCleared s).accounts.unassigned = s.accounts.unassigned ∧
    (stopCleared s).accounts.credited = s.accounts.credited ∧ (stopCleared s).accounts.bills = s.accounts.bills ∧
    (stopCleared s).accounts.billCounter = s.accounts.billCounter := by
  unfold stopCleared
  (repeat' split) <;> simp

@[simp] theorem waitPending_fields (s : State) :
    (waitPending s).travel.pages = s.travel.pages ∧ (waitPending s).travel.diverter = s.travel.diverter ∧
    (waitPending s).travel.referenced = s.travel.referenced ∧ (waitPending s).travel.position = s.travel.position ∧
    (waitPending s).travel.travelTimer = s.travel.travelTimer := by
  simp [waitPending]

@[simp] theorem acceptTravel_fields (r : TravelRequest) (s : State) :
    (acceptTravel r s).1.travel.pages = s.travel.pages ∧ (acceptTravel r s).1.travel.diverter = s.travel.diverter ∧
    (acceptTravel r s).1.accounts.lots = s.accounts.lots ∧
    (acceptTravel r s).1.accounts.unassigned = s.accounts.unassigned ∧
    (acceptTravel r s).1.accounts.credited = s.accounts.credited ∧
    (acceptTravel r s).1.accounts.bills = s.accounts.bills ∧
    (acceptTravel r s).1.accounts.billCounter = s.accounts.billCounter := by
  unfold acceptTravel
  dsimp only
  (repeat' split) <;> simp

@[simp] theorem cancelMotion_fields (s : State) :
    (cancelMotion s).travel.pages = s.travel.pages ∧ (cancelMotion s).travel.diverter = s.travel.diverter ∧
    (cancelMotion s).travel.referenced = s.travel.referenced ∧ (cancelMotion s).travel.position = s.travel.position ∧
    (cancelMotion s).travel.runOutTimer = s.travel.runOutTimer ∧
    (cancelMotion s).travel.beforePending = s.travel.beforePending ∧ (cancelMotion s).accounts.lots = s.accounts.lots ∧
    (cancelMotion s).accounts.unassigned = s.accounts.unassigned ∧
    (cancelMotion s).accounts.credited = s.accounts.credited ∧ (cancelMotion s).accounts.bills = s.accounts.bills ∧
    (cancelMotion s).accounts.billCounter = s.accounts.billCounter := by
  simp [cancelMotion]

@[simp] theorem setLevel_fields (level : Nat) (s : State) :
    (setLevel level s).governor.preact = s.governor.preact ∧
    (setLevel level s).governor.presenceLive = s.governor.presenceLive ∧
    (setLevel level s).governor.estopLatch = s.governor.estopLatch ∧
    (setLevel level s).governor.beltPermit = s.governor.beltPermit ∧
    (setLevel level s).governor.deckHold = s.governor.deckHold ∧
    (setLevel level s).governor.requested = s.governor.requested := by
  simp [setLevel]

@[simp] theorem recomputeCeiling_fields (s : State) :
    (recomputeCeiling s).governor.preact = s.governor.preact ∧
    (recomputeCeiling s).governor.presenceLive = s.governor.presenceLive ∧
    (recomputeCeiling s).governor.estopLatch = s.governor.estopLatch ∧
    (recomputeCeiling s).governor.beltPermit = s.governor.beltPermit ∧
    (recomputeCeiling s).governor.deckHold = s.governor.deckHold ∧
    (recomputeCeiling s).governor.requested = s.governor.requested := by
  unfold recomputeCeiling
  dsimp only
  (repeat' split) <;> simp

@[simp] theorem shutGate_fields (s : State) :
    (shutGate s).governor.preact = s.governor.preact ∧ (shutGate s).governor.presenceLive = s.governor.presenceLive ∧
    (shutGate s).governor.estopLatch = s.governor.estopLatch ∧
    (shutGate s).governor.beltPermit = s.governor.beltPermit ∧ (shutGate s).governor.deckHold = s.governor.deckHold ∧
    (shutGate s).governor.requested = s.governor.requested := by
  simp [shutGate]

@[simp] theorem leftDribble_fields (was : GovernorState) (s : State) :
    (leftDribble was s).governor.preact = s.governor.preact ∧
    (leftDribble was s).governor.presenceLive = s.governor.presenceLive ∧
    (leftDribble was s).governor.estopLatch = s.governor.estopLatch ∧
    (leftDribble was s).governor.beltPermit = s.governor.beltPermit ∧
    (leftDribble was s).governor.deckHold = s.governor.deckHold ∧
    (leftDribble was s).governor.requested = s.governor.requested := by
  unfold leftDribble
  (repeat' split) <;> simp

@[simp] theorem enterDribble_fields (s : State) :
    (enterDribble s).governor.preact = s.governor.preact ∧
    (enterDribble s).governor.presenceLive = s.governor.presenceLive ∧
    (enterDribble s).governor.estopLatch = s.governor.estopLatch ∧
    (enterDribble s).governor.beltPermit = s.governor.beltPermit ∧
    (enterDribble s).governor.deckHold = s.governor.deckHold ∧
    (enterDribble s).governor.requested = s.governor.requested := by
  simp [enterDribble]

@[simp] theorem adaptPreact_fields (s : State) :
    (adaptPreact s).governor.presenceLive = s.governor.presenceLive ∧
    (adaptPreact s).governor.estopLatch = s.governor.estopLatch ∧
    (adaptPreact s).governor.beltPermit = s.governor.beltPermit ∧
    (adaptPreact s).governor.deckHold = s.governor.deckHold ∧
    (adaptPreact s).governor.requested = s.governor.requested := by
  unfold adaptPreact
  (repeat' split) <;> simp

@[simp] theorem complete_fields (s : State) :
    (complete s).travel.pages = s.travel.pages ∧ (complete s).travel.diverter = s.travel.diverter ∧
    (complete s).travel.referenced = s.travel.referenced ∧ (complete s).travel.position = s.travel.position ∧
    (complete s).travel.travelTimer = s.travel.travelTimer ∧ (complete s).travel.runOutTimer = s.travel.runOutTimer ∧
    (complete s).travel.beforePending = s.travel.beforePending ∧ (complete s).plan.callOpen = s.plan.callOpen ∧
    (complete s).plan.callId = s.plan.callId ∧ (complete s).plan.trimBand = s.plan.trimBand ∧
    (complete s).plan.stepIdCounter = s.plan.stepIdCounter ∧
    (complete s).governor.presenceLive = s.governor.presenceLive ∧
    (complete s).governor.estopLatch = s.governor.estopLatch ∧
    (complete s).governor.beltPermit = s.governor.beltPermit ∧ (complete s).governor.deckHold = s.governor.deckHold ∧
    (complete s).governor.requested = s.governor.requested ∧ (complete s).accounts.lots = s.accounts.lots ∧
    (complete s).accounts.unassigned = s.accounts.unassigned ∧ (complete s).accounts.credited = s.accounts.credited ∧
    (complete s).accounts.bills = s.accounts.bills ∧ (complete s).accounts.billCounter = s.accounts.billCounter := by
  simp [complete]

@[simp] theorem enterCutoff_fields (s : State) :
    (enterCutoff s).governor.preact = s.governor.preact ∧
    (enterCutoff s).governor.presenceLive = s.governor.presenceLive ∧
    (enterCutoff s).governor.estopLatch = s.governor.estopLatch ∧
    (enterCutoff s).governor.beltPermit = s.governor.beltPermit ∧
    (enterCutoff s).governor.deckHold = s.governor.deckHold ∧
    (enterCutoff s).governor.requested = s.governor.requested := by
  unfold enterCutoff
  dsimp only
  (repeat' split) <;> simp

@[simp] theorem cutoff_fields (r : CutoffReason) (s : State) :
    (cutoff r s).travel.pages = s.travel.pages ∧ (cutoff r s).travel.diverter = s.travel.diverter ∧
    (cutoff r s).travel.referenced = s.travel.referenced ∧ (cutoff r s).travel.position = s.travel.position ∧
    (cutoff r s).travel.travelTimer = s.travel.travelTimer ∧ (cutoff r s).travel.runOutTimer = s.travel.runOutTimer ∧
    (cutoff r s).travel.beforePending = s.travel.beforePending ∧ (cutoff r s).plan.callOpen = s.plan.callOpen ∧
    (cutoff r s).plan.callId = s.plan.callId ∧ (cutoff r s).plan.trimBand = s.plan.trimBand ∧
    (cutoff r s).plan.stepIdCounter = s.plan.stepIdCounter ∧
    (cutoff r s).governor.presenceLive = s.governor.presenceLive ∧
    (cutoff r s).governor.estopLatch = s.governor.estopLatch ∧
    (cutoff r s).governor.beltPermit = s.governor.beltPermit ∧ (cutoff r s).governor.deckHold = s.governor.deckHold ∧
    (cutoff r s).governor.requested = s.governor.requested ∧ (cutoff r s).accounts.lots = s.accounts.lots ∧
    (cutoff r s).accounts.unassigned = s.accounts.unassigned ∧ (cutoff r s).accounts.credited = s.accounts.credited ∧
    (cutoff r s).accounts.bills = s.accounts.bills ∧ (cutoff r s).accounts.billCounter = s.accounts.billCounter := by
  unfold cutoff
  dsimp only
  (repeat' split) <;> simp

@[simp] theorem pauseCause_fields (r : PauseReason) (s : State) :
    (pauseCause r s).governor.preact = s.governor.preact ∧
    (pauseCause r s).governor.presenceLive = s.governor.presenceLive ∧
    (pauseCause r s).governor.estopLatch = s.governor.estopLatch ∧
    (pauseCause r s).governor.beltPermit = s.governor.beltPermit ∧
    (pauseCause r s).governor.deckHold = s.governor.deckHold ∧
    (pauseCause r s).governor.requested = s.governor.requested := by
  unfold pauseCause
  dsimp only
  (repeat' split) <;> simp

@[simp] theorem setBeltPermit_fields (s : State) :
    (setBeltPermit s).governor.preact = s.governor.preact ∧
    (setBeltPermit s).governor.presenceLive = s.governor.presenceLive ∧
    (setBeltPermit s).governor.estopLatch = s.governor.estopLatch ∧
    (setBeltPermit s).governor.deckHold = s.governor.deckHold ∧
    (setBeltPermit s).governor.requested = s.governor.requested := by
  simp [setBeltPermit]

@[simp] theorem stageNotice_fields (s : State) :
    (stageNotice s).governor.preact = s.governor.preact ∧
    (stageNotice s).governor.presenceLive = s.governor.presenceLive ∧
    (stageNotice s).governor.estopLatch = s.governor.estopLatch ∧
    (stageNotice s).governor.deckHold = s.governor.deckHold ∧
    (stageNotice s).governor.requested = s.governor.requested := by
  unfold stageNotice
  (repeat' split) <;> simp

@[simp] theorem bookSegment_fields (entering : Nat) (w : Weighing) (leaving : Nat) (dest : Destination) (s : State) :
    (bookSegment entering w leaving dest s).plan.callOpen = s.plan.callOpen ∧
    (bookSegment entering w leaving dest s).plan.callId = s.plan.callId ∧
    (bookSegment entering w leaving dest s).plan.trimBand = s.plan.trimBand ∧
    (bookSegment entering w leaving dest s).plan.stepIdCounter = s.plan.stepIdCounter ∧
    (bookSegment entering w leaving dest s).governor.preact = s.governor.preact ∧
    (bookSegment entering w leaving dest s).governor.presenceLive = s.governor.presenceLive ∧
    (bookSegment entering w leaving dest s).governor.estopLatch = s.governor.estopLatch ∧
    (bookSegment entering w leaving dest s).governor.beltPermit = s.governor.beltPermit ∧
    (bookSegment entering w leaving dest s).governor.deckHold = s.governor.deckHold ∧
    (bookSegment entering w leaving dest s).governor.requested = s.governor.requested := by
  unfold bookSegment
  (repeat' split) <;> simp

@[simp] theorem feedTests_fields (s : State) :
    (feedTests s).travel.pages = s.travel.pages ∧ (feedTests s).travel.diverter = s.travel.diverter ∧
    (feedTests s).travel.referenced = s.travel.referenced ∧ (feedTests s).travel.position = s.travel.position ∧
    (feedTests s).travel.travelTimer = s.travel.travelTimer ∧ (feedTests s).travel.runOutTimer = s.travel.runOutTimer ∧
    (feedTests s).travel.beforePending = s.travel.beforePending ∧ (feedTests s).plan.callOpen = s.plan.callOpen ∧
    (feedTests s).plan.callId = s.plan.callId ∧ (feedTests s).plan.trimBand = s.plan.trimBand ∧
    (feedTests s).plan.stepIdCounter = s.plan.stepIdCounter ∧
    (feedTests s).governor.presenceLive = s.governor.presenceLive ∧
    (feedTests s).governor.estopLatch = s.governor.estopLatch ∧
    (feedTests s).governor.beltPermit = s.governor.beltPermit ∧ (feedTests s).governor.deckHold = s.governor.deckHold ∧
    (feedTests s).governor.requested = s.governor.requested ∧ (feedTests s).accounts.lots = s.accounts.lots ∧
    (feedTests s).accounts.unassigned = s.accounts.unassigned ∧ (feedTests s).accounts.credited = s.accounts.credited ∧
    (feedTests s).accounts.bills = s.accounts.bills ∧ (feedTests s).accounts.billCounter = s.accounts.billCounter := by
  unfold feedTests
  (repeat' split) <;> simp

@[simp] theorem segmentClosedNotice_fields (entering : Nat) (w : Weighing) (leaving : Nat) (dest : Destination) (s : State) :
    (segmentClosedNotice entering w leaving dest s).travel.pages = s.travel.pages ∧
    (segmentClosedNotice entering w leaving dest s).travel.diverter = s.travel.diverter ∧
    (segmentClosedNotice entering w leaving dest s).travel.referenced = s.travel.referenced ∧
    (segmentClosedNotice entering w leaving dest s).travel.position = s.travel.position ∧
    (segmentClosedNotice entering w leaving dest s).travel.travelTimer = s.travel.travelTimer ∧
    (segmentClosedNotice entering w leaving dest s).travel.runOutTimer = s.travel.runOutTimer ∧
    (segmentClosedNotice entering w leaving dest s).travel.beforePending = s.travel.beforePending ∧
    (segmentClosedNotice entering w leaving dest s).plan.callOpen = s.plan.callOpen ∧
    (segmentClosedNotice entering w leaving dest s).plan.callId = s.plan.callId ∧
    (segmentClosedNotice entering w leaving dest s).plan.trimBand = s.plan.trimBand ∧
    (segmentClosedNotice entering w leaving dest s).plan.stepIdCounter = s.plan.stepIdCounter ∧
    (segmentClosedNotice entering w leaving dest s).governor.presenceLive = s.governor.presenceLive ∧
    (segmentClosedNotice entering w leaving dest s).governor.estopLatch = s.governor.estopLatch ∧
    (segmentClosedNotice entering w leaving dest s).governor.beltPermit = s.governor.beltPermit ∧
    (segmentClosedNotice entering w leaving dest s).governor.deckHold = s.governor.deckHold ∧
    (segmentClosedNotice entering w leaving dest s).governor.requested = s.governor.requested ∧
    (segmentClosedNotice entering w leaving dest s).accounts.lots = s.accounts.lots ∧
    (segmentClosedNotice entering w leaving dest s).accounts.unassigned = s.accounts.unassigned ∧
    (segmentClosedNotice entering w leaving dest s).accounts.credited = s.accounts.credited ∧
    (segmentClosedNotice entering w leaving dest s).accounts.bills = s.accounts.bills ∧
    (segmentClosedNotice entering w leaving dest s).accounts.billCounter = s.accounts.billCounter := by
  unfold segmentClosedNotice
  dsimp only
  (repeat' split) <;> simp

@[simp] theorem recomputeEffective_fields (s : State) :
    (recomputeEffective s).plan.callOpen = s.plan.callOpen ∧ (recomputeEffective s).plan.callId = s.plan.callId ∧
    (recomputeEffective s).plan.trimBand = s.plan.trimBand ∧
    (recomputeEffective s).plan.stepIdCounter = s.plan.stepIdCounter ∧
    (recomputeEffective s).governor.preact = s.governor.preact ∧
    (recomputeEffective s).governor.presenceLive = s.governor.presenceLive ∧
    (recomputeEffective s).governor.estopLatch = s.governor.estopLatch ∧
    (recomputeEffective s).governor.beltPermit = s.governor.beltPermit ∧
    (recomputeEffective s).governor.deckHold = s.governor.deckHold ∧
    (recomputeEffective s).governor.requested = s.governor.requested := by
  unfold recomputeEffective
  (repeat' split) <;> simp

@[simp] theorem reEvaluate_fields (s : State) :
    (reEvaluate s).travel.pages = s.travel.pages ∧ (reEvaluate s).travel.diverter = s.travel.diverter ∧
    (reEvaluate s).travel.referenced = s.travel.referenced ∧ (reEvaluate s).travel.position = s.travel.position ∧
    (reEvaluate s).travel.travelTimer = s.travel.travelTimer ∧
    (reEvaluate s).travel.runOutTimer = s.travel.runOutTimer ∧
    (reEvaluate s).travel.beforePending = s.travel.beforePending ∧ (reEvaluate s).plan.callOpen = s.plan.callOpen ∧
    (reEvaluate s).plan.callId = s.plan.callId ∧ (reEvaluate s).plan.trimBand = s.plan.trimBand ∧
    (reEvaluate s).plan.stepIdCounter = s.plan.stepIdCounter ∧
    (reEvaluate s).governor.presenceLive = s.governor.presenceLive ∧
    (reEvaluate s).governor.estopLatch = s.governor.estopLatch ∧
    (reEvaluate s).governor.beltPermit = s.governor.beltPermit ∧
    (reEvaluate s).governor.deckHold = s.governor.deckHold ∧ (reEvaluate s).governor.requested = s.governor.requested ∧
    (reEvaluate s).accounts.lots = s.accounts.lots ∧ (reEvaluate s).accounts.unassigned = s.accounts.unassigned ∧
    (reEvaluate s).accounts.credited = s.accounts.credited ∧ (reEvaluate s).accounts.bills = s.accounts.bills ∧
    (reEvaluate s).accounts.billCounter = s.accounts.billCounter := by
  unfold reEvaluate
  dsimp only
  (repeat' split) <;> simp

@[simp] theorem scaleFaultNotice_fields (s : State) :
    (scaleFaultNotice s).travel.pages = s.travel.pages ∧ (scaleFaultNotice s).travel.diverter = s.travel.diverter ∧
    (scaleFaultNotice s).travel.referenced = s.travel.referenced ∧
    (scaleFaultNotice s).travel.position = s.travel.position ∧
    (scaleFaultNotice s).travel.travelTimer = s.travel.travelTimer ∧
    (scaleFaultNotice s).travel.runOutTimer = s.travel.runOutTimer ∧
    (scaleFaultNotice s).travel.beforePending = s.travel.beforePending ∧
    (scaleFaultNotice s).plan.callOpen = s.plan.callOpen ∧ (scaleFaultNotice s).plan.callId = s.plan.callId ∧
    (scaleFaultNotice s).plan.trimBand = s.plan.trimBand ∧
    (scaleFaultNotice s).plan.stepIdCounter = s.plan.stepIdCounter ∧
    (scaleFaultNotice s).governor.presenceLive = s.governor.presenceLive ∧
    (scaleFaultNotice s).governor.estopLatch = s.governor.estopLatch ∧
    (scaleFaultNotice s).governor.beltPermit = s.governor.beltPermit ∧
    (scaleFaultNotice s).governor.deckHold = s.governor.deckHold ∧
    (scaleFaultNotice s).governor.requested = s.governor.requested ∧
    (scaleFaultNotice s).accounts.lots = s.accounts.lots ∧
    (scaleFaultNotice s).accounts.unassigned = s.accounts.unassigned ∧
    (scaleFaultNotice s).accounts.credited = s.accounts.credited ∧
    (scaleFaultNotice s).accounts.bills = s.accounts.bills ∧
    (scaleFaultNotice s).accounts.billCounter = s.accounts.billCounter := by
  unfold scaleFaultNotice
  dsimp only
  (repeat' split) <;> simp

@[simp] theorem positionLost_fields (s : State) :
    (positionLost s).travel.pages = s.travel.pages ∧ (positionLost s).travel.diverter = s.travel.diverter ∧
    (positionLost s).travel.referenced = s.travel.referenced ∧ (positionLost s).travel.position = s.travel.position ∧
    (positionLost s).travel.travelTimer = s.travel.travelTimer ∧
    (positionLost s).travel.runOutTimer = s.travel.runOutTimer ∧
    (positionLost s).travel.beforePending = s.travel.beforePending ∧ (positionLost s).plan.callOpen = s.plan.callOpen ∧
    (positionLost s).plan.callId = s.plan.callId ∧ (positionLost s).plan.trimBand = s.plan.trimBand ∧
    (positionLost s).plan.stepIdCounter = s.plan.stepIdCounter ∧
    (positionLost s).governor.presenceLive = s.governor.presenceLive ∧
    (positionLost s).governor.estopLatch = s.governor.estopLatch ∧
    (positionLost s).governor.beltPermit = s.governor.beltPermit ∧
    (positionLost s).governor.deckHold = s.governor.deckHold ∧
    (positionLost s).governor.requested = s.governor.requested ∧ (positionLost s).accounts.lots = s.accounts.lots ∧
    (positionLost s).accounts.unassigned = s.accounts.unassigned ∧
    (positionLost s).accounts.credited = s.accounts.credited ∧ (positionLost s).accounts.bills = s.accounts.bills ∧
    (positionLost s).accounts.billCounter = s.accounts.billCounter := by
  unfold positionLost
  (repeat' split) <;> simp

@[simp] theorem cancelNotice_fields (s : State) :
    (cancelNotice s).travel.pages = s.travel.pages ∧ (cancelNotice s).travel.diverter = s.travel.diverter ∧
    (cancelNotice s).travel.referenced = s.travel.referenced ∧ (cancelNotice s).travel.position = s.travel.position ∧
    (cancelNotice s).travel.travelTimer = s.travel.travelTimer ∧
    (cancelNotice s).travel.runOutTimer = s.travel.runOutTimer ∧
    (cancelNotice s).travel.beforePending = s.travel.beforePending ∧ (cancelNotice s).plan.callOpen = s.plan.callOpen ∧
    (cancelNotice s).plan.callId = s.plan.callId ∧ (cancelNotice s).plan.trimBand = s.plan.trimBand ∧
    (cancelNotice s).plan.stepIdCounter = s.plan.stepIdCounter ∧
    (cancelNotice s).governor.presenceLive = s.governor.presenceLive ∧
    (cancelNotice s).governor.estopLatch = s.governor.estopLatch ∧
    (cancelNotice s).governor.beltPermit = s.governor.beltPermit ∧
    (cancelNotice s).governor.deckHold = s.governor.deckHold ∧
    (cancelNotice s).governor.requested = s.governor.requested ∧ (cancelNotice s).accounts.lots = s.accounts.lots ∧
    (cancelNotice s).accounts.unassigned = s.accounts.unassigned ∧
    (cancelNotice s).accounts.credited = s.accounts.credited ∧ (cancelNotice s).accounts.bills = s.accounts.bills ∧
    (cancelNotice s).accounts.billCounter = s.accounts.billCounter := by
  unfold cancelNotice
  (repeat' split) <;> simp

@[simp] theorem presenceNotice_fields (s : State) :
    (presenceNotice s).governor.preact = s.governor.preact ∧
    (presenceNotice s).governor.estopLatch = s.governor.estopLatch ∧
    (presenceNotice s).governor.beltPermit = s.governor.beltPermit ∧
    (presenceNotice s).governor.deckHold = s.governor.deckHold ∧
    (presenceNotice s).governor.requested = s.governor.requested := by
  simp [presenceNotice]

@[simp] theorem presenceExpiry_fields (s : State) :
    (presenceExpiry s).governor.preact = s.governor.preact ∧
    (presenceExpiry s).governor.estopLatch = s.governor.estopLatch ∧
    (presenceExpiry s).governor.beltPermit = s.governor.beltPermit ∧
    (presenceExpiry s).governor.deckHold = s.governor.deckHold ∧
    (presenceExpiry s).governor.requested = s.governor.requested := by
  unfold presenceExpiry
  dsimp only
  (repeat' split) <;> simp

@[simp] theorem openGate_fields (g : GovernorState) (s : State) :
    (openGate g s).governor.preact = s.governor.preact ∧
    (openGate g s).governor.presenceLive = s.governor.presenceLive ∧
    (openGate g s).governor.estopLatch = s.governor.estopLatch ∧
    (openGate g s).governor.beltPermit = s.governor.beltPermit ∧
    (openGate g s).governor.deckHold = s.governor.deckHold ∧
    (openGate g s).governor.requested = s.governor.requested := by
  simp [openGate]

@[simp] theorem recomputeStage_fields (s : State) :
    (recomputeStage s).governor.preact = s.governor.preact ∧
    (recomputeStage s).governor.presenceLive = s.governor.presenceLive ∧
    (recomputeStage s).governor.estopLatch = s.governor.estopLatch ∧
    (recomputeStage s).governor.deckHold = s.governor.deckHold ∧
    (recomputeStage s).governor.requested = s.governor.requested := by
  unfold recomputeStage
  dsimp only
  (repeat' split) <;> simp

@[simp] theorem highHoldExpires_fields (s : State) :
    (highHoldExpires s).governor.preact = s.governor.preact ∧
    (highHoldExpires s).governor.presenceLive = s.governor.presenceLive ∧
    (highHoldExpires s).governor.estopLatch = s.governor.estopLatch ∧
    (highHoldExpires s).governor.deckHold = s.governor.deckHold ∧
    (highHoldExpires s).governor.requested = s.governor.requested := by
  unfold highHoldExpires
  (repeat' split) <;> simp

@[simp] theorem referenceTimerExpires_fields (s : State) :
    (referenceTimerExpires s).governor.preact = s.governor.preact ∧
    (referenceTimerExpires s).governor.presenceLive = s.governor.presenceLive ∧
    (referenceTimerExpires s).governor.estopLatch = s.governor.estopLatch ∧
    (referenceTimerExpires s).governor.deckHold = s.governor.deckHold ∧
    (referenceTimerExpires s).governor.requested = s.governor.requested := by
  unfold referenceTimerExpires
  (repeat' split) <;> simp

@[simp] theorem dustGroup_fields (k : GroupKind) (q : Quad) (s : State) :
    (dustGroup k q s).governor.preact = s.governor.preact ∧
    (dustGroup k q s).governor.presenceLive = s.governor.presenceLive ∧
    (dustGroup k q s).governor.estopLatch = s.governor.estopLatch ∧
    (dustGroup k q s).governor.deckHold = s.governor.deckHold ∧
    (dustGroup k q s).governor.requested = s.governor.requested := by
  unfold dustGroup
  (repeat' split) <;> simp

@[simp] theorem applyMask_fields (was now : BitVec 8) (s : State) :
    (applyMask was now s).governor.preact = s.governor.preact ∧
    (applyMask was now s).governor.presenceLive = s.governor.presenceLive ∧
    (applyMask was now s).governor.estopLatch = s.governor.estopLatch ∧
    (applyMask was now s).governor.deckHold = s.governor.deckHold ∧
    (applyMask was now s).governor.requested = s.governor.requested := by
  simp [applyMask, allChannels]

@[simp] theorem markOverRange_fields (s : State) :
    (markOverRange s).accounts.credited = s.accounts.credited ∧ (markOverRange s).accounts.bills = s.accounts.bills ∧
    (markOverRange s).accounts.billCounter = s.accounts.billCounter := by
  simp [markOverRange]

@[simp] theorem weighGroup_fields (q : Quad) (s : State) :
    (weighGroup q s).accounts.credited = s.accounts.credited ∧ (weighGroup q s).accounts.bills = s.accounts.bills ∧
    (weighGroup q s).accounts.billCounter = s.accounts.billCounter ∧ (weighGroup q s).weigher.line = s.weigher.line ∧
    (weighGroup q s).weigher.lineTotal = s.weigher.lineTotal ∧
    (weighGroup q s).weigher.weighingLot = s.weigher.weighingLot ∧ (weighGroup q s).weigher.scale = s.weigher.scale ∧
    (weighGroup q s).weigher.lastMean = s.weigher.lastMean ∧ (weighGroup q s).weigher.holdLast = s.weigher.holdLast ∧
    (weighGroup q s).weigher.pulseCount = s.weigher.pulseCount := by
  unfold weighGroup
  dsimp only
  (repeat' split) <;> simp

@[simp] theorem countUnweighed_fields (s : State) :
    (countUnweighed s).accounts.credited = s.accounts.credited ∧ (countUnweighed s).accounts.bills = s.accounts.bills ∧
    (countUnweighed s).accounts.billCounter = s.accounts.billCounter := by
  simp [countUnweighed]

@[simp] theorem enterScaleFault_fields (s : State) :
    (enterScaleFault s).travel.pages = s.travel.pages ∧ (enterScaleFault s).travel.diverter = s.travel.diverter ∧
    (enterScaleFault s).travel.referenced = s.travel.referenced ∧
    (enterScaleFault s).travel.position = s.travel.position ∧
    (enterScaleFault s).travel.travelTimer = s.travel.travelTimer ∧
    (enterScaleFault s).travel.runOutTimer = s.travel.runOutTimer ∧
    (enterScaleFault s).travel.beforePending = s.travel.beforePending ∧
    (enterScaleFault s).plan.callOpen = s.plan.callOpen ∧ (enterScaleFault s).plan.callId = s.plan.callId ∧
    (enterScaleFault s).plan.trimBand = s.plan.trimBand ∧
    (enterScaleFault s).plan.stepIdCounter = s.plan.stepIdCounter ∧
    (enterScaleFault s).governor.presenceLive = s.governor.presenceLive ∧
    (enterScaleFault s).governor.estopLatch = s.governor.estopLatch ∧
    (enterScaleFault s).governor.beltPermit = s.governor.beltPermit ∧
    (enterScaleFault s).governor.deckHold = s.governor.deckHold ∧
    (enterScaleFault s).governor.requested = s.governor.requested ∧
    (enterScaleFault s).accounts.lots = s.accounts.lots ∧
    (enterScaleFault s).accounts.unassigned = s.accounts.unassigned ∧
    (enterScaleFault s).accounts.credited = s.accounts.credited ∧
    (enterScaleFault s).accounts.bills = s.accounts.bills ∧
    (enterScaleFault s).accounts.billCounter = s.accounts.billCounter ∧
    (enterScaleFault s).weigher.line = s.weigher.line ∧ (enterScaleFault s).weigher.lineTotal = s.weigher.lineTotal ∧
    (enterScaleFault s).weigher.weighingLot = s.weigher.weighingLot ∧
    (enterScaleFault s).weigher.segmentSum = s.weigher.segmentSum ∧
    (enterScaleFault s).weigher.segmentCount = s.weigher.segmentCount ∧
    (enterScaleFault s).weigher.lastMean = s.weigher.lastMean ∧
    (enterScaleFault s).weigher.holdLast = s.weigher.holdLast ∧
    (enterScaleFault s).weigher.pulseCount = s.weigher.pulseCount := by
  simp [enterScaleFault]

@[simp] theorem weighSegment_fields (s : State) :
    (weighSegment s).state.travel.pages = s.travel.pages ∧ (weighSegment s).state.travel.diverter = s.travel.diverter ∧
    (weighSegment s).state.travel.referenced = s.travel.referenced ∧
    (weighSegment s).state.travel.position = s.travel.position ∧
    (weighSegment s).state.travel.travelTimer = s.travel.travelTimer ∧
    (weighSegment s).state.travel.runOutTimer = s.travel.runOutTimer ∧
    (weighSegment s).state.travel.beforePending = s.travel.beforePending ∧
    (weighSegment s).state.plan.callOpen = s.plan.callOpen ∧ (weighSegment s).state.plan.callId = s.plan.callId ∧
    (weighSegment s).state.plan.trimBand = s.plan.trimBand ∧
    (weighSegment s).state.plan.stepIdCounter = s.plan.stepIdCounter ∧
    (weighSegment s).state.governor.presenceLive = s.governor.presenceLive ∧
    (weighSegment s).state.governor.estopLatch = s.governor.estopLatch ∧
    (weighSegment s).state.governor.beltPermit = s.governor.beltPermit ∧
    (weighSegment s).state.governor.deckHold = s.governor.deckHold ∧
    (weighSegment s).state.governor.requested = s.governor.requested ∧
    (weighSegment s).state.accounts.credited = s.accounts.credited ∧
    (weighSegment s).state.accounts.bills = s.accounts.bills ∧
    (weighSegment s).state.accounts.billCounter = s.accounts.billCounter ∧
    (weighSegment s).state.weigher.line = s.weigher.line ∧
    (weighSegment s).state.weigher.lineTotal = s.weigher.lineTotal ∧
    (weighSegment s).state.weigher.weighingLot = s.weigher.weighingLot ∧
    (weighSegment s).state.weigher.segmentSum = s.weigher.segmentSum ∧
    (weighSegment s).state.weigher.segmentCount = s.weigher.segmentCount ∧
    (weighSegment s).state.weigher.pulseCount = s.weigher.pulseCount := by
  unfold weighSegment
  dsimp only
  (repeat' split) <;> simp

@[simp] theorem billSegment_fields (mass : Nat) (how : Weighing) (s : State) :
    (billSegment mass how s).accounts.credited = s.accounts.credited ∧
    (billSegment mass how s).accounts.bills = s.accounts.bills ∧
    (billSegment mass how s).accounts.billCounter = s.accounts.billCounter := by
  unfold billSegment
  (repeat' split) <;> simp

@[simp] theorem shiftLine_fields (e : Entry) (s : State) :
    (shiftLine e s).weigher.weighingLot = s.weigher.weighingLot ∧ (shiftLine e s).weigher.scale = s.weigher.scale ∧
    (shiftLine e s).weigher.segmentSum = s.weigher.segmentSum ∧
    (shiftLine e s).weigher.segmentCount = s.weigher.segmentCount ∧
    (shiftLine e s).weigher.lastMean = s.weigher.lastMean ∧ (shiftLine e s).weigher.holdLast = s.weigher.holdLast ∧
    (shiftLine e s).weigher.pulseCount = s.weigher.pulseCount := by
  simp [shiftLine]

@[simp] theorem creditHold_fields (h : Hold) (mass : Nat) (acc : Account) (s : State) :
    (creditHold h mass acc s).accounts.bills = s.accounts.bills ∧
    (creditHold h mass acc s).accounts.billCounter = s.accounts.billCounter := by
  simp [creditHold]

@[simp] theorem setSpillRun_fields (b : Bool) (s : State) :
    (setSpillRun b s).weigher.line = s.weigher.line ∧ (setSpillRun b s).weigher.lineTotal = s.weigher.lineTotal ∧
    (setSpillRun b s).weigher.weighingLot = s.weigher.weighingLot ∧ (setSpillRun b s).weigher.scale = s.weigher.scale ∧
    (setSpillRun b s).weigher.segmentSum = s.weigher.segmentSum ∧
    (setSpillRun b s).weigher.segmentCount = s.weigher.segmentCount ∧
    (setSpillRun b s).weigher.lastMean = s.weigher.lastMean ∧ (setSpillRun b s).weigher.holdLast = s.weigher.holdLast ∧
    (setSpillRun b s).weigher.pulseCount = s.weigher.pulseCount := by
  simp [setSpillRun]

@[simp] theorem dischargeSpill_fields (mass : Nat) (acc : Account) (s : State) :
    (dischargeSpill mass acc s).accounts.credited = s.accounts.credited ∧
    (dischargeSpill mass acc s).accounts.bills = s.accounts.bills ∧
    (dischargeSpill mass acc s).accounts.billCounter = s.accounts.billCounter ∧
    (dischargeSpill mass acc s).weigher.line = s.weigher.line ∧
    (dischargeSpill mass acc s).weigher.lineTotal = s.weigher.lineTotal ∧
    (dischargeSpill mass acc s).weigher.weighingLot = s.weigher.weighingLot ∧
    (dischargeSpill mass acc s).weigher.scale = s.weigher.scale ∧
    (dischargeSpill mass acc s).weigher.segmentSum = s.weigher.segmentSum ∧
    (dischargeSpill mass acc s).weigher.segmentCount = s.weigher.segmentCount ∧
    (dischargeSpill mass acc s).weigher.lastMean = s.weigher.lastMean ∧
    (dischargeSpill mass acc s).weigher.holdLast = s.weigher.holdLast ∧
    (dischargeSpill mass acc s).weigher.pulseCount = s.weigher.pulseCount := by
  unfold dischargeSpill
  dsimp only
  (repeat' split) <;> simp

@[simp] theorem discharge_fields (e : Entry) (d : Destination) (s : State) :
    (discharge e d s).accounts.bills = s.accounts.bills ∧
    (discharge e d s).accounts.billCounter = s.accounts.billCounter ∧ (discharge e d s).weigher.line = s.weigher.line ∧
    (discharge e d s).weigher.lineTotal = s.weigher.lineTotal ∧
    (discharge e d s).weigher.weighingLot = s.weigher.weighingLot ∧ (discharge e d s).weigher.scale = s.weigher.scale ∧
    (discharge e d s).weigher.segmentSum = s.weigher.segmentSum ∧
    (discharge e d s).weigher.segmentCount = s.weigher.segmentCount ∧
    (discharge e d s).weigher.lastMean = s.weigher.lastMean ∧ (discharge e d s).weigher.holdLast = s.weigher.holdLast ∧
    (discharge e d s).weigher.pulseCount = s.weigher.pulseCount := by
  unfold discharge
  (repeat' split) <;> simp

@[simp] theorem restartSegment_fields (s : State) :
    (restartSegment s).weigher.line = s.weigher.line ∧ (restartSegment s).weigher.lineTotal = s.weigher.lineTotal ∧
    (restartSegment s).weigher.weighingLot = s.weigher.weighingLot ∧
    (restartSegment s).weigher.scale = s.weigher.scale ∧ (restartSegment s).weigher.lastMean = s.weigher.lastMean ∧
    (restartSegment s).weigher.holdLast = s.weigher.holdLast := by
  simp [restartSegment]

@[simp] theorem moveLine_fields (mass : Nat) (how : Weighing) (s : State) :
    (moveLine mass how s).accounts.bills = s.accounts.bills ∧
    (moveLine mass how s).accounts.billCounter = s.accounts.billCounter ∧
    (moveLine mass how s).weigher.weighingLot = s.weigher.weighingLot ∧
    (moveLine mass how s).weigher.scale = s.weigher.scale ∧
    (moveLine mass how s).weigher.segmentSum = s.weigher.segmentSum ∧
    (moveLine mass how s).weigher.segmentCount = s.weigher.segmentCount ∧
    (moveLine mass how s).weigher.lastMean = s.weigher.lastMean ∧
    (moveLine mass how s).weigher.holdLast = s.weigher.holdLast ∧
    (moveLine mass how s).weigher.pulseCount = s.weigher.pulseCount := by
  simp [moveLine]

@[simp] theorem closeSegment_fields (s : State) :
    (closeSegment s).travel.pages = s.travel.pages ∧ (closeSegment s).travel.beforePending = s.travel.beforePending ∧
    (closeSegment s).plan.callOpen = s.plan.callOpen ∧ (closeSegment s).plan.callId = s.plan.callId ∧
    (closeSegment s).plan.trimBand = s.plan.trimBand ∧ (closeSegment s).plan.stepIdCounter = s.plan.stepIdCounter ∧
    (closeSegment s).governor.presenceLive = s.governor.presenceLive ∧
    (closeSegment s).governor.estopLatch = s.governor.estopLatch ∧
    (closeSegment s).governor.beltPermit = s.governor.beltPermit ∧
    (closeSegment s).governor.deckHold = s.governor.deckHold ∧
    (closeSegment s).governor.requested = s.governor.requested ∧ (closeSegment s).accounts.bills = s.accounts.bills ∧
    (closeSegment s).accounts.billCounter = s.accounts.billCounter ∧
    (closeSegment s).weigher.weighingLot = s.weigher.weighingLot := by
  simp [closeSegment]

@[simp] theorem countPulse_fields (s : State) :
    (countPulse s).travel.pages = s.travel.pages ∧ (countPulse s).travel.beforePending = s.travel.beforePending ∧
    (countPulse s).plan.callOpen = s.plan.callOpen ∧ (countPulse s).plan.callId = s.plan.callId ∧
    (countPulse s).plan.trimBand = s.plan.trimBand ∧ (countPulse s).plan.stepIdCounter = s.plan.stepIdCounter ∧
    (countPulse s).governor.presenceLive = s.governor.presenceLive ∧
    (countPulse s).governor.estopLatch = s.governor.estopLatch ∧
    (countPulse s).governor.beltPermit = s.governor.beltPermit ∧
    (countPulse s).governor.deckHold = s.governor.deckHold ∧ (countPulse s).governor.requested = s.governor.requested ∧
    (countPulse s).accounts.bills = s.accounts.bills ∧ (countPulse s).accounts.billCounter = s.accounts.billCounter ∧
    (countPulse s).weigher.weighingLot = s.weigher.weighingLot := by
  unfold countPulse
  dsimp only
  (repeat' split) <;> simp

@[simp] theorem rebuildLine_fields (n : Nat) (s : State) :
    (rebuildLine n s).weigher.weighingLot = s.weigher.weighingLot ∧ (rebuildLine n s).weigher.scale = s.weigher.scale ∧
    (rebuildLine n s).weigher.segmentSum = s.weigher.segmentSum ∧
    (rebuildLine n s).weigher.segmentCount = s.weigher.segmentCount ∧
    (rebuildLine n s).weigher.lastMean = s.weigher.lastMean ∧ (rebuildLine n s).weigher.holdLast = s.weigher.holdLast ∧
    (rebuildLine n s).weigher.pulseCount = s.weigher.pulseCount := by
  simp [rebuildLine]

@[simp] theorem storeSettings_fields (x : Settings) (s : State) :
    (storeSettings x s).store.defaulted = s.store.defaulted := by
  simp [storeSettings]

@[simp] theorem storeSetting_fields (k : SettingKey) (v : Nat) (s : State) :
    (storeSetting k v s).governor.presenceLive = s.governor.presenceLive ∧
    (storeSetting k v s).governor.estopLatch = s.governor.estopLatch ∧
    (storeSetting k v s).governor.beltPermit = s.governor.beltPermit ∧
    (storeSetting k v s).governor.deckHold = s.governor.deckHold ∧
    (storeSetting k v s).governor.requested = s.governor.requested ∧
    (storeSetting k v s).store.defaulted = s.store.defaulted := by
  unfold storeSetting
  (repeat' split) <;> simp

@[simp] theorem clampPreact_fields (s : State) :
    (clampPreact s).governor.presenceLive = s.governor.presenceLive ∧
    (clampPreact s).governor.estopLatch = s.governor.estopLatch ∧
    (clampPreact s).governor.beltPermit = s.governor.beltPermit ∧
    (clampPreact s).governor.deckHold = s.governor.deckHold ∧
    (clampPreact s).governor.requested = s.governor.requested := by
  simp [clampPreact]

@[simp] theorem maskChanged_fields (was now : BitVec 8) (s : State) :
    (maskChanged was now s).governor.preact = s.governor.preact ∧
    (maskChanged was now s).governor.presenceLive = s.governor.presenceLive ∧
    (maskChanged was now s).governor.estopLatch = s.governor.estopLatch ∧
    (maskChanged was now s).governor.deckHold = s.governor.deckHold ∧
    (maskChanged was now s).governor.requested = s.governor.requested := by
  unfold maskChanged
  (repeat' split) <;> simp

@[simp] theorem applySetting_fields (was : BitVec 8) (v : Nat) (s : State) (k : SettingKey) :
    (applySetting was v s k).travel.pages = s.travel.pages ∧
    (applySetting was v s k).travel.diverter = s.travel.diverter ∧
    (applySetting was v s k).travel.referenced = s.travel.referenced ∧
    (applySetting was v s k).travel.position = s.travel.position ∧
    (applySetting was v s k).travel.beforePending = s.travel.beforePending ∧
    (applySetting was v s k).governor.estopLatch = s.governor.estopLatch ∧
    (applySetting was v s k).governor.deckHold = s.governor.deckHold ∧
    (applySetting was v s k).governor.requested = s.governor.requested ∧
    (applySetting was v s k).accounts.lots = s.accounts.lots ∧
    (applySetting was v s k).accounts.unassigned = s.accounts.unassigned ∧
    (applySetting was v s k).accounts.credited = s.accounts.credited ∧
    (applySetting was v s k).accounts.bills = s.accounts.bills ∧
    (applySetting was v s k).accounts.billCounter = s.accounts.billCounter ∧
    (applySetting was v s k).weigher.weighingLot = s.weigher.weighingLot ∧
    (applySetting was v s k).weigher.scale = s.weigher.scale ∧
    (applySetting was v s k).weigher.segmentSum = s.weigher.segmentSum ∧
    (applySetting was v s k).weigher.segmentCount = s.weigher.segmentCount ∧
    (applySetting was v s k).weigher.lastMean = s.weigher.lastMean ∧
    (applySetting was v s k).weigher.holdLast = s.weigher.holdLast ∧
    (applySetting was v s k).weigher.pulseCount = s.weigher.pulseCount := by
  unfold applySetting
  (repeat' split) <;> simp

@[simp] theorem ownWriteSetting_fields (identifier value : Nat) (s : State) :
    (ownWriteSetting identifier value s).1.travel.pages = s.travel.pages ∧
    (ownWriteSetting identifier value s).1.travel.diverter = s.travel.diverter ∧
    (ownWriteSetting identifier value s).1.travel.referenced = s.travel.referenced ∧
    (ownWriteSetting identifier value s).1.travel.position = s.travel.position ∧
    (ownWriteSetting identifier value s).1.travel.beforePending = s.travel.beforePending ∧
    (ownWriteSetting identifier value s).1.governor.estopLatch = s.governor.estopLatch ∧
    (ownWriteSetting identifier value s).1.governor.deckHold = s.governor.deckHold ∧
    (ownWriteSetting identifier value s).1.governor.requested = s.governor.requested ∧
    (ownWriteSetting identifier value s).1.accounts.lots = s.accounts.lots ∧
    (ownWriteSetting identifier value s).1.accounts.unassigned = s.accounts.unassigned ∧
    (ownWriteSetting identifier value s).1.accounts.credited = s.accounts.credited ∧
    (ownWriteSetting identifier value s).1.accounts.bills = s.accounts.bills ∧
    (ownWriteSetting identifier value s).1.accounts.billCounter = s.accounts.billCounter ∧
    (ownWriteSetting identifier value s).1.weigher.weighingLot = s.weigher.weighingLot ∧
    (ownWriteSetting identifier value s).1.weigher.scale = s.weigher.scale ∧
    (ownWriteSetting identifier value s).1.weigher.segmentSum = s.weigher.segmentSum ∧
    (ownWriteSetting identifier value s).1.weigher.segmentCount = s.weigher.segmentCount ∧
    (ownWriteSetting identifier value s).1.weigher.lastMean = s.weigher.lastMean ∧
    (ownWriteSetting identifier value s).1.weigher.holdLast = s.weigher.holdLast ∧
    (ownWriteSetting identifier value s).1.weigher.pulseCount = s.weigher.pulseCount ∧
    (ownWriteSetting identifier value s).1.store.defaulted = s.store.defaulted := by
  unfold ownWriteSetting
  (repeat' split) <;> simp

@[simp] theorem ownAcceptSettings_fields (s : State) :
    (ownAcceptSettings s).1.store.settings = s.store.settings ∧
    (ownAcceptSettings s).1.store.checkWord = s.store.checkWord := by
  simp [ownAcceptSettings]

@[simp] theorem calibrate_fields (z sp b : Nat) (s : State) :
    (calibrate z sp b s).weigher.line = s.weigher.line ∧ (calibrate z sp b s).weigher.lineTotal = s.weigher.lineTotal ∧
    (calibrate z sp b s).weigher.weighingLot = s.weigher.weighingLot ∧
    (calibrate z sp b s).weigher.scale = s.weigher.scale ∧ (calibrate z sp b s).weigher.holdLast = s.weigher.holdLast ∧
    (calibrate z sp b s).weigher.pulseCount = s.weigher.pulseCount ∧
    (calibrate z sp b s).store.defaulted = s.store.defaulted := by
  simp [calibrate]

@[simp] theorem ownWriteCalibration_fields (z sp b : Nat) (s : State) :
    (ownWriteCalibration z sp b s).1.weigher.line = s.weigher.line ∧
    (ownWriteCalibration z sp b s).1.weigher.lineTotal = s.weigher.lineTotal ∧
    (ownWriteCalibration z sp b s).1.weigher.weighingLot = s.weigher.weighingLot ∧
    (ownWriteCalibration z sp b s).1.weigher.scale = s.weigher.scale ∧
    (ownWriteCalibration z sp b s).1.weigher.holdLast = s.weigher.holdLast ∧
    (ownWriteCalibration z sp b s).1.weigher.pulseCount = s.weigher.pulseCount ∧
    (ownWriteCalibration z sp b s).1.store.defaulted = s.store.defaulted := by
  unfold ownWriteCalibration
  (repeat' split) <;> simp

@[simp] theorem startPour_fields (st : Step) (eff : Nat) (s : State) :
    (startPour st eff s).plan.callOpen = s.plan.callOpen ∧ (startPour st eff s).plan.callId = s.plan.callId ∧
    (startPour st eff s).plan.trimBand = s.plan.trimBand ∧
    (startPour st eff s).plan.stepIdCounter = s.plan.stepIdCounter ∧
    (startPour st eff s).governor.preact = s.governor.preact ∧
    (startPour st eff s).governor.presenceLive = s.governor.presenceLive ∧
    (startPour st eff s).governor.estopLatch = s.governor.estopLatch ∧
    (startPour st eff s).governor.beltPermit = s.governor.beltPermit ∧
    (startPour st eff s).governor.deckHold = s.governor.deckHold ∧
    (startPour st eff s).governor.requested = s.governor.requested ∧
    (startPour st eff s).weigher.line = s.weigher.line ∧ (startPour st eff s).weigher.lineTotal = s.weigher.lineTotal ∧
    (startPour st eff s).weigher.scale = s.weigher.scale ∧
    (startPour st eff s).weigher.segmentSum = s.weigher.segmentSum ∧
    (startPour st eff s).weigher.segmentCount = s.weigher.segmentCount ∧
    (startPour st eff s).weigher.lastMean = s.weigher.lastMean ∧
    (startPour st eff s).weigher.holdLast = s.weigher.holdLast ∧
    (startPour st eff s).weigher.pulseCount = s.weigher.pulseCount := by
  simp [startPour]

@[simp] theorem judgedStart_fields (st : Step) (s : State) :
    (judgedStart st s).1.plan.callOpen = s.plan.callOpen ∧ (judgedStart st s).1.plan.callId = s.plan.callId ∧
    (judgedStart st s).1.plan.trimBand = s.plan.trimBand ∧
    (judgedStart st s).1.plan.stepIdCounter = s.plan.stepIdCounter ∧
    (judgedStart st s).1.governor.preact = s.governor.preact ∧
    (judgedStart st s).1.governor.presenceLive = s.governor.presenceLive ∧
    (judgedStart st s).1.governor.estopLatch = s.governor.estopLatch ∧
    (judgedStart st s).1.governor.beltPermit = s.governor.beltPermit ∧
    (judgedStart st s).1.governor.deckHold = s.governor.deckHold ∧
    (judgedStart st s).1.governor.requested = s.governor.requested ∧
    (judgedStart st s).1.weigher.line = s.weigher.line ∧ (judgedStart st s).1.weigher.lineTotal = s.weigher.lineTotal ∧
    (judgedStart st s).1.weigher.scale = s.weigher.scale ∧
    (judgedStart st s).1.weigher.segmentSum = s.weigher.segmentSum ∧
    (judgedStart st s).1.weigher.segmentCount = s.weigher.segmentCount ∧
    (judgedStart st s).1.weigher.lastMean = s.weigher.lastMean ∧
    (judgedStart st s).1.weigher.holdLast = s.weigher.holdLast ∧
    (judgedStart st s).1.weigher.pulseCount = s.weigher.pulseCount := by
  unfold judgedStart
  dsimp only
  (repeat' split) <;> simp

@[simp] theorem ownStartStep_fields (revision : Nat) (s : State) :
    (ownStartStep revision s).1.plan.callOpen = s.plan.callOpen ∧
    (ownStartStep revision s).1.plan.callId = s.plan.callId ∧
    (ownStartStep revision s).1.plan.trimBand = s.plan.trimBand ∧
    (ownStartStep revision s).1.plan.stepIdCounter = s.plan.stepIdCounter ∧
    (ownStartStep revision s).1.governor.preact = s.governor.preact ∧
    (ownStartStep revision s).1.governor.presenceLive = s.governor.presenceLive ∧
    (ownStartStep revision s).1.governor.estopLatch = s.governor.estopLatch ∧
    (ownStartStep revision s).1.governor.beltPermit = s.governor.beltPermit ∧
    (ownStartStep revision s).1.governor.deckHold = s.governor.deckHold ∧
    (ownStartStep revision s).1.governor.requested = s.governor.requested ∧
    (ownStartStep revision s).1.weigher.line = s.weigher.line ∧
    (ownStartStep revision s).1.weigher.lineTotal = s.weigher.lineTotal ∧
    (ownStartStep revision s).1.weigher.scale = s.weigher.scale ∧
    (ownStartStep revision s).1.weigher.segmentSum = s.weigher.segmentSum ∧
    (ownStartStep revision s).1.weigher.segmentCount = s.weigher.segmentCount ∧
    (ownStartStep revision s).1.weigher.lastMean = s.weigher.lastMean ∧
    (ownStartStep revision s).1.weigher.holdLast = s.weigher.holdLast ∧
    (ownStartStep revision s).1.weigher.pulseCount = s.weigher.pulseCount := by
  unfold ownStartStep
  (repeat' split) <;> simp

@[simp] theorem resumeFeed_fields (s : State) :
    (resumeFeed s).travel.pages = s.travel.pages ∧ (resumeFeed s).travel.diverter = s.travel.diverter ∧
    (resumeFeed s).travel.referenced = s.travel.referenced ∧ (resumeFeed s).travel.position = s.travel.position ∧
    (resumeFeed s).travel.travelTimer = s.travel.travelTimer ∧
    (resumeFeed s).travel.runOutTimer = s.travel.runOutTimer ∧
    (resumeFeed s).travel.beforePending = s.travel.beforePending ∧ (resumeFeed s).plan.callOpen = s.plan.callOpen ∧
    (resumeFeed s).plan.callId = s.plan.callId ∧ (resumeFeed s).plan.trimBand = s.plan.trimBand ∧
    (resumeFeed s).plan.stepIdCounter = s.plan.stepIdCounter ∧
    (resumeFeed s).governor.presenceLive = s.governor.presenceLive ∧
    (resumeFeed s).governor.estopLatch = s.governor.estopLatch ∧
    (resumeFeed s).governor.beltPermit = s.governor.beltPermit ∧
    (resumeFeed s).governor.deckHold = s.governor.deckHold ∧ (resumeFeed s).governor.requested = s.governor.requested ∧
    (resumeFeed s).accounts.lots = s.accounts.lots ∧ (resumeFeed s).accounts.unassigned = s.accounts.unassigned ∧
    (resumeFeed s).accounts.credited = s.accounts.credited ∧ (resumeFeed s).accounts.bills = s.accounts.bills ∧
    (resumeFeed s).accounts.billCounter = s.accounts.billCounter := by
  unfold resumeFeed
  dsimp only
  (repeat' split) <;> simp

@[simp] theorem ownResume_fields (s : State) :
    (ownResume s).1.travel.pages = s.travel.pages ∧ (ownResume s).1.travel.diverter = s.travel.diverter ∧
    (ownResume s).1.travel.referenced = s.travel.referenced ∧ (ownResume s).1.travel.position = s.travel.position ∧
    (ownResume s).1.travel.travelTimer = s.travel.travelTimer ∧
    (ownResume s).1.travel.runOutTimer = s.travel.runOutTimer ∧
    (ownResume s).1.travel.beforePending = s.travel.beforePending ∧ (ownResume s).1.plan.callOpen = s.plan.callOpen ∧
    (ownResume s).1.plan.callId = s.plan.callId ∧ (ownResume s).1.plan.trimBand = s.plan.trimBand ∧
    (ownResume s).1.plan.stepIdCounter = s.plan.stepIdCounter ∧
    (ownResume s).1.governor.presenceLive = s.governor.presenceLive ∧
    (ownResume s).1.governor.estopLatch = s.governor.estopLatch ∧
    (ownResume s).1.governor.beltPermit = s.governor.beltPermit ∧
    (ownResume s).1.governor.deckHold = s.governor.deckHold ∧
    (ownResume s).1.governor.requested = s.governor.requested ∧ (ownResume s).1.accounts.lots = s.accounts.lots ∧
    (ownResume s).1.accounts.unassigned = s.accounts.unassigned ∧
    (ownResume s).1.accounts.credited = s.accounts.credited ∧ (ownResume s).1.accounts.bills = s.accounts.bills ∧
    (ownResume s).1.accounts.billCounter = s.accounts.billCounter := by
  unfold ownResume
  (repeat' split) <;> simp

@[simp] theorem ownStopStep_fields (s : State) :
    (ownStopStep s).1.travel.pages = s.travel.pages ∧ (ownStopStep s).1.travel.diverter = s.travel.diverter ∧
    (ownStopStep s).1.travel.referenced = s.travel.referenced ∧ (ownStopStep s).1.travel.position = s.travel.position ∧
    (ownStopStep s).1.travel.travelTimer = s.travel.travelTimer ∧
    (ownStopStep s).1.travel.runOutTimer = s.travel.runOutTimer ∧
    (ownStopStep s).1.travel.beforePending = s.travel.beforePending ∧
    (ownStopStep s).1.plan.callOpen = s.plan.callOpen ∧ (ownStopStep s).1.plan.callId = s.plan.callId ∧
    (ownStopStep s).1.plan.trimBand = s.plan.trimBand ∧ (ownStopStep s).1.plan.stepIdCounter = s.plan.stepIdCounter ∧
    (ownStopStep s).1.governor.presenceLive = s.governor.presenceLive ∧
    (ownStopStep s).1.governor.estopLatch = s.governor.estopLatch ∧
    (ownStopStep s).1.governor.beltPermit = s.governor.beltPermit ∧
    (ownStopStep s).1.governor.deckHold = s.governor.deckHold ∧
    (ownStopStep s).1.governor.requested = s.governor.requested ∧ (ownStopStep s).1.accounts.lots = s.accounts.lots ∧
    (ownStopStep s).1.accounts.unassigned = s.accounts.unassigned ∧
    (ownStopStep s).1.accounts.credited = s.accounts.credited ∧ (ownStopStep s).1.accounts.bills = s.accounts.bills ∧
    (ownStopStep s).1.accounts.billCounter = s.accounts.billCounter := by
  unfold ownStopStep
  (repeat' split) <;> simp

@[simp] theorem ownSetFeedLevel_fields (level : Nat) (s : State) :
    (ownSetFeedLevel level s).1.governor.preact = s.governor.preact ∧
    (ownSetFeedLevel level s).1.governor.presenceLive = s.governor.presenceLive ∧
    (ownSetFeedLevel level s).1.governor.estopLatch = s.governor.estopLatch ∧
    (ownSetFeedLevel level s).1.governor.beltPermit = s.governor.beltPermit ∧
    (ownSetFeedLevel level s).1.governor.deckHold = s.governor.deckHold := by
  unfold ownSetFeedLevel
  (repeat' split) <;> simp

@[simp] theorem ownAcknowledgeTrip_fields (s : State) :
    (ownAcknowledgeTrip s).1.governor.preact = s.governor.preact ∧
    (ownAcknowledgeTrip s).1.governor.presenceLive = s.governor.presenceLive ∧
    (ownAcknowledgeTrip s).1.governor.estopLatch = s.governor.estopLatch ∧
    (ownAcknowledgeTrip s).1.governor.deckHold = s.governor.deckHold ∧
    (ownAcknowledgeTrip s).1.governor.requested = s.governor.requested := by
  unfold ownAcknowledgeTrip
  (repeat' split) <;> simp

@[simp] theorem ownClearStop_fields (s : State) :
    (ownClearStop s).1.travel.pages = s.travel.pages ∧ (ownClearStop s).1.travel.diverter = s.travel.diverter ∧
    (ownClearStop s).1.travel.referenced = s.travel.referenced ∧
    (ownClearStop s).1.travel.position = s.travel.position ∧
    (ownClearStop s).1.travel.travelTimer = s.travel.travelTimer ∧
    (ownClearStop s).1.travel.runOutTimer = s.travel.runOutTimer ∧
    (ownClearStop s).1.travel.beforePending = s.travel.beforePending ∧
    (ownClearStop s).1.governor.preact = s.governor.preact ∧
    (ownClearStop s).1.governor.presenceLive = s.governor.presenceLive ∧
    (ownClearStop s).1.governor.beltPermit = s.governor.beltPermit ∧
    (ownClearStop s).1.governor.deckHold = s.governor.deckHold ∧
    (ownClearStop s).1.governor.requested = s.governor.requested ∧ (ownClearStop s).1.accounts.lots = s.accounts.lots ∧
    (ownClearStop s).1.accounts.unassigned = s.accounts.unassigned ∧
    (ownClearStop s).1.accounts.credited = s.accounts.credited ∧ (ownClearStop s).1.accounts.bills = s.accounts.bills ∧
    (ownClearStop s).1.accounts.billCounter = s.accounts.billCounter := by
  unfold ownClearStop
  (repeat' split) <;> simp

@[simp] theorem ownGoToHold_fields (hold : Nat) (s : State) :
    (ownGoToHold hold s).1.travel.pages = s.travel.pages ∧ (ownGoToHold hold s).1.travel.diverter = s.travel.diverter ∧
    (ownGoToHold hold s).1.accounts.lots = s.accounts.lots ∧
    (ownGoToHold hold s).1.accounts.unassigned = s.accounts.unassigned ∧
    (ownGoToHold hold s).1.accounts.credited = s.accounts.credited ∧
    (ownGoToHold hold s).1.accounts.bills = s.accounts.bills ∧
    (ownGoToHold hold s).1.accounts.billCounter = s.accounts.billCounter := by
  unfold ownGoToHold
  (repeat' split) <;> simp

@[simp] theorem ownGoToPosition_fields (x : Nat) (s : State) :
    (ownGoToPosition x s).1.travel.pages = s.travel.pages ∧
    (ownGoToPosition x s).1.travel.diverter = s.travel.diverter ∧
    (ownGoToPosition x s).1.accounts.lots = s.accounts.lots ∧
    (ownGoToPosition x s).1.accounts.unassigned = s.accounts.unassigned ∧
    (ownGoToPosition x s).1.accounts.credited = s.accounts.credited ∧
    (ownGoToPosition x s).1.accounts.bills = s.accounts.bills ∧
    (ownGoToPosition x s).1.accounts.billCounter = s.accounts.billCounter := by
  unfold ownGoToPosition
  (repeat' split) <;> simp

@[simp] theorem ownReferenceTravel_fields (s : State) :
    (ownReferenceTravel s).1.travel.pages = s.travel.pages ∧
    (ownReferenceTravel s).1.travel.diverter = s.travel.diverter ∧
    (ownReferenceTravel s).1.accounts.lots = s.accounts.lots ∧
    (ownReferenceTravel s).1.accounts.unassigned = s.accounts.unassigned ∧
    (ownReferenceTravel s).1.accounts.credited = s.accounts.credited ∧
    (ownReferenceTravel s).1.accounts.bills = s.accounts.bills ∧
    (ownReferenceTravel s).1.accounts.billCounter = s.accounts.billCounter := by
  unfold ownReferenceTravel
  (repeat' split) <;> simp

@[simp] theorem ownCancelTravel_fields (s : State) :
    (ownCancelTravel s).1.travel.pages = s.travel.pages ∧ (ownCancelTravel s).1.travel.diverter = s.travel.diverter ∧
    (ownCancelTravel s).1.travel.referenced = s.travel.referenced ∧
    (ownCancelTravel s).1.travel.position = s.travel.position ∧
    (ownCancelTravel s).1.travel.beforePending = s.travel.beforePending ∧
    (ownCancelTravel s).1.accounts.lots = s.accounts.lots ∧
    (ownCancelTravel s).1.accounts.unassigned = s.accounts.unassigned ∧
    (ownCancelTravel s).1.accounts.credited = s.accounts.credited ∧
    (ownCancelTravel s).1.accounts.bills = s.accounts.bills ∧
    (ownCancelTravel s).1.accounts.billCounter = s.accounts.billCounter := by
  unfold ownCancelTravel
  (repeat' split) <;> simp

@[simp] theorem ownClearTravelFault_fields (s : State) :
    (ownClearTravelFault s).1.travel.pages = s.travel.pages ∧
    (ownClearTravelFault s).1.travel.diverter = s.travel.diverter ∧
    (ownClearTravelFault s).1.travel.referenced = s.travel.referenced ∧
    (ownClearTravelFault s).1.travel.position = s.travel.position ∧
    (ownClearTravelFault s).1.travel.travelTimer = s.travel.travelTimer ∧
    (ownClearTravelFault s).1.travel.runOutTimer = s.travel.runOutTimer ∧
    (ownClearTravelFault s).1.travel.beforePending = s.travel.beforePending := by
  unfold ownClearTravelFault
  (repeat' split) <;> simp

@[simp] theorem divert_fields (v : Diverter) (s : State) :
    (divert v s).travel.pages = s.travel.pages ∧ (divert v s).travel.beforePending = s.travel.beforePending ∧
    (divert v s).accounts.lots = s.accounts.lots ∧ (divert v s).accounts.unassigned = s.accounts.unassigned ∧
    (divert v s).accounts.credited = s.accounts.credited ∧ (divert v s).accounts.bills = s.accounts.bills ∧
    (divert v s).accounts.billCounter = s.accounts.billCounter := by
  unfold divert
  dsimp only
  (repeat' split) <;> simp

@[simp] theorem ownSetDiverter_fields (value : Nat) (s : State) :
    (ownSetDiverter value s).1.travel.pages = s.travel.pages ∧
    (ownSetDiverter value s).1.travel.beforePending = s.travel.beforePending ∧
    (ownSetDiverter value s).1.accounts.lots = s.accounts.lots ∧
    (ownSetDiverter value s).1.accounts.unassigned = s.accounts.unassigned ∧
    (ownSetDiverter value s).1.accounts.credited = s.accounts.credited ∧
    (ownSetDiverter value s).1.accounts.bills = s.accounts.bills ∧
    (ownSetDiverter value s).1.accounts.billCounter = s.accounts.billCounter := by
  unfold ownSetDiverter
  (repeat' split) <;> simp

@[simp] theorem ownHoldPour_fields (s : State) :
    (ownHoldPour s).1.governor.preact = s.governor.preact ∧
    (ownHoldPour s).1.governor.presenceLive = s.governor.presenceLive ∧
    (ownHoldPour s).1.governor.estopLatch = s.governor.estopLatch ∧
    (ownHoldPour s).1.governor.beltPermit = s.governor.beltPermit ∧
    (ownHoldPour s).1.governor.requested = s.governor.requested := by
  unfold ownHoldPour
  (repeat' split) <;> simp

@[simp] theorem ownReleasePour_fields (s : State) :
    (ownReleasePour s).1.governor.preact = s.governor.preact ∧
    (ownReleasePour s).1.governor.presenceLive = s.governor.presenceLive ∧
    (ownReleasePour s).1.governor.estopLatch = s.governor.estopLatch ∧
    (ownReleasePour s).1.governor.beltPermit = s.governor.beltPermit ∧
    (ownReleasePour s).1.governor.requested = s.governor.requested := by
  simp [ownReleasePour]

@[simp] theorem ownOpenCall_fields (id : Nat) (band : Option Nat) (s : State) :
    (ownOpenCall id band s).1.plan.stepIdCounter = s.plan.stepIdCounter := by
  unfold ownOpenCall
  dsimp only
  (repeat' split) <;> simp

@[simp] theorem emptyPlan_fields (s : State) :
    (emptyPlan s).plan.trimBand = s.plan.trimBand ∧ (emptyPlan s).plan.stepIdCounter = s.plan.stepIdCounter := by
  simp [emptyPlan]

@[simp] theorem clearHolds_fields (s : State) :
    (clearHolds s).accounts.lots = s.accounts.lots ∧ (clearHolds s).accounts.bills = s.accounts.bills ∧
    (clearHolds s).accounts.billCounter = s.accounts.billCounter := by
  simp [clearHolds]

@[simp] theorem clearPages_fields (s : State) :
    (clearPages s).travel.diverter = s.travel.diverter ∧ (clearPages s).travel.referenced = s.travel.referenced ∧
    (clearPages s).travel.position = s.travel.position ∧ (clearPages s).travel.travelTimer = s.travel.travelTimer ∧
    (clearPages s).travel.runOutTimer = s.travel.runOutTimer ∧
    (clearPages s).travel.beforePending = s.travel.beforePending := by
  simp [clearPages]

@[simp] theorem clearWeighingLot_fields (s : State) :
    (clearWeighingLot s).weigher.line = s.weigher.line ∧ (clearWeighingLot s).weigher.lineTotal = s.weigher.lineTotal ∧
    (clearWeighingLot s).weigher.scale = s.weigher.scale ∧
    (clearWeighingLot s).weigher.segmentSum = s.weigher.segmentSum ∧
    (clearWeighingLot s).weigher.segmentCount = s.weigher.segmentCount ∧
    (clearWeighingLot s).weigher.lastMean = s.weigher.lastMean ∧
    (clearWeighingLot s).weigher.holdLast = s.weigher.holdLast ∧
    (clearWeighingLot s).weigher.pulseCount = s.weigher.pulseCount := by
  simp [clearWeighingLot]

@[simp] theorem ownCloseCall_fields (s : State) :
    (ownCloseCall s).1.travel.diverter = s.travel.diverter ∧
    (ownCloseCall s).1.travel.referenced = s.travel.referenced ∧
    (ownCloseCall s).1.travel.position = s.travel.position ∧
    (ownCloseCall s).1.travel.travelTimer = s.travel.travelTimer ∧
    (ownCloseCall s).1.travel.runOutTimer = s.travel.runOutTimer ∧
    (ownCloseCall s).1.travel.beforePending = s.travel.beforePending ∧
    (ownCloseCall s).1.plan.trimBand = s.plan.trimBand ∧ (ownCloseCall s).1.plan.stepIdCounter = s.plan.stepIdCounter ∧
    (ownCloseCall s).1.accounts.lots = s.accounts.lots ∧ (ownCloseCall s).1.accounts.bills = s.accounts.bills ∧
    (ownCloseCall s).1.accounts.billCounter = s.accounts.billCounter ∧
    (ownCloseCall s).1.weigher.line = s.weigher.line ∧ (ownCloseCall s).1.weigher.lineTotal = s.weigher.lineTotal ∧
    (ownCloseCall s).1.weigher.scale = s.weigher.scale ∧ (ownCloseCall s).1.weigher.segmentSum = s.weigher.segmentSum ∧
    (ownCloseCall s).1.weigher.segmentCount = s.weigher.segmentCount ∧
    (ownCloseCall s).1.weigher.lastMean = s.weigher.lastMean ∧
    (ownCloseCall s).1.weigher.holdLast = s.weigher.holdLast ∧
    (ownCloseCall s).1.weigher.pulseCount = s.weigher.pulseCount := by
  unfold ownCloseCall
  (repeat' split) <;> simp

@[simp] theorem ownSetTrimBand_fields (band : Nat) (s : State) :
    (ownSetTrimBand band s).1.travel.pages = s.travel.pages ∧
    (ownSetTrimBand band s).1.travel.diverter = s.travel.diverter ∧
    (ownSetTrimBand band s).1.travel.referenced = s.travel.referenced ∧
    (ownSetTrimBand band s).1.travel.position = s.travel.position ∧
    (ownSetTrimBand band s).1.travel.travelTimer = s.travel.travelTimer ∧
    (ownSetTrimBand band s).1.travel.runOutTimer = s.travel.runOutTimer ∧
    (ownSetTrimBand band s).1.travel.beforePending = s.travel.beforePending ∧
    (ownSetTrimBand band s).1.plan.callOpen = s.plan.callOpen ∧ (ownSetTrimBand band s).1.plan.callId = s.plan.callId ∧
    (ownSetTrimBand band s).1.plan.stepIdCounter = s.plan.stepIdCounter ∧
    (ownSetTrimBand band s).1.governor.presenceLive = s.governor.presenceLive ∧
    (ownSetTrimBand band s).1.governor.estopLatch = s.governor.estopLatch ∧
    (ownSetTrimBand band s).1.governor.beltPermit = s.governor.beltPermit ∧
    (ownSetTrimBand band s).1.governor.deckHold = s.governor.deckHold ∧
    (ownSetTrimBand band s).1.governor.requested = s.governor.requested ∧
    (ownSetTrimBand band s).1.accounts.lots = s.accounts.lots ∧
    (ownSetTrimBand band s).1.accounts.unassigned = s.accounts.unassigned ∧
    (ownSetTrimBand band s).1.accounts.credited = s.accounts.credited ∧
    (ownSetTrimBand band s).1.accounts.bills = s.accounts.bills ∧
    (ownSetTrimBand band s).1.accounts.billCounter = s.accounts.billCounter := by
  unfold ownSetTrimBand
  dsimp only
  (repeat' split) <;> simp

@[simp] theorem ownInsertStep_fields (position hold slot target maxLevel : Nat) (s : State) :
    (ownInsertStep position hold slot target maxLevel s).1.plan.callOpen = s.plan.callOpen ∧
    (ownInsertStep position hold slot target maxLevel s).1.plan.callId = s.plan.callId ∧
    (ownInsertStep position hold slot target maxLevel s).1.plan.trimBand = s.plan.trimBand := by
  unfold ownInsertStep
  dsimp only
  (repeat' split) <;> simp

@[simp] theorem modifyPlan_fields (st : Step) (target level : Nat) (s : State) :
    (modifyPlan st target level s).travel.pages = s.travel.pages ∧
    (modifyPlan st target level s).travel.diverter = s.travel.diverter ∧
    (modifyPlan st target level s).travel.referenced = s.travel.referenced ∧
    (modifyPlan st target level s).travel.position = s.travel.position ∧
    (modifyPlan st target level s).travel.travelTimer = s.travel.travelTimer ∧
    (modifyPlan st target level s).travel.runOutTimer = s.travel.runOutTimer ∧
    (modifyPlan st target level s).travel.beforePending = s.travel.beforePending ∧
    (modifyPlan st target level s).plan.callOpen = s.plan.callOpen ∧
    (modifyPlan st target level s).plan.callId = s.plan.callId ∧
    (modifyPlan st target level s).plan.trimBand = s.plan.trimBand ∧
    (modifyPlan st target level s).plan.stepIdCounter = s.plan.stepIdCounter ∧
    (modifyPlan st target level s).governor.presenceLive = s.governor.presenceLive ∧
    (modifyPlan st target level s).governor.estopLatch = s.governor.estopLatch ∧
    (modifyPlan st target level s).governor.beltPermit = s.governor.beltPermit ∧
    (modifyPlan st target level s).governor.deckHold = s.governor.deckHold ∧
    (modifyPlan st target level s).governor.requested = s.governor.requested ∧
    (modifyPlan st target level s).accounts.lots = s.accounts.lots ∧
    (modifyPlan st target level s).accounts.unassigned = s.accounts.unassigned ∧
    (modifyPlan st target level s).accounts.credited = s.accounts.credited ∧
    (modifyPlan st target level s).accounts.bills = s.accounts.bills ∧
    (modifyPlan st target level s).accounts.billCounter = s.accounts.billCounter := by
  unfold modifyPlan
  dsimp only
  (repeat' split) <;> simp

@[simp] theorem ownModifyStep_fields (id target level : Nat) (s : State) :
    (ownModifyStep id target level s).1.travel.pages = s.travel.pages ∧
    (ownModifyStep id target level s).1.travel.diverter = s.travel.diverter ∧
    (ownModifyStep id target level s).1.travel.referenced = s.travel.referenced ∧
    (ownModifyStep id target level s).1.travel.position = s.travel.position ∧
    (ownModifyStep id target level s).1.travel.travelTimer = s.travel.travelTimer ∧
    (ownModifyStep id target level s).1.travel.runOutTimer = s.travel.runOutTimer ∧
    (ownModifyStep id target level s).1.travel.beforePending = s.travel.beforePending ∧
    (ownModifyStep id target level s).1.plan.callOpen = s.plan.callOpen ∧
    (ownModifyStep id target level s).1.plan.callId = s.plan.callId ∧
    (ownModifyStep id target level s).1.plan.trimBand = s.plan.trimBand ∧
    (ownModifyStep id target level s).1.plan.stepIdCounter = s.plan.stepIdCounter ∧
    (ownModifyStep id target level s).1.governor.presenceLive = s.governor.presenceLive ∧
    (ownModifyStep id target level s).1.governor.estopLatch = s.governor.estopLatch ∧
    (ownModifyStep id target level s).1.governor.beltPermit = s.governor.beltPermit ∧
    (ownModifyStep id target level s).1.governor.deckHold = s.governor.deckHold ∧
    (ownModifyStep id target level s).1.governor.requested = s.governor.requested ∧
    (ownModifyStep id target level s).1.accounts.lots = s.accounts.lots ∧
    (ownModifyStep id target level s).1.accounts.unassigned = s.accounts.unassigned ∧
    (ownModifyStep id target level s).1.accounts.credited = s.accounts.credited ∧
    (ownModifyStep id target level s).1.accounts.bills = s.accounts.bills ∧
    (ownModifyStep id target level s).1.accounts.billCounter = s.accounts.billCounter := by
  unfold ownModifyStep
  (repeat' split) <;> simp

@[simp] theorem ownDeleteStep_fields (id : Nat) (s : State) :
    (ownDeleteStep id s).1.plan.callOpen = s.plan.callOpen ∧ (ownDeleteStep id s).1.plan.callId = s.plan.callId ∧
    (ownDeleteStep id s).1.plan.trimBand = s.plan.trimBand ∧
    (ownDeleteStep id s).1.plan.stepIdCounter = s.plan.stepIdCounter := by
  unfold ownDeleteStep
  dsimp only
  (repeat' split) <;> simp

@[simp] theorem cancelWaiting_fields (st : Step) (s : State) :
    (cancelWaiting st s).plan.callOpen = s.plan.callOpen ∧ (cancelWaiting st s).plan.callId = s.plan.callId ∧
    (cancelWaiting st s).plan.trimBand = s.plan.trimBand ∧
    (cancelWaiting st s).plan.stepIdCounter = s.plan.stepIdCounter := by
  simp [cancelWaiting]

@[simp] theorem cancelActive_fields (st : Step) (s : State) :
    (cancelActive st s).travel.pages = s.travel.pages ∧ (cancelActive st s).travel.diverter = s.travel.diverter ∧
    (cancelActive st s).travel.referenced = s.travel.referenced ∧
    (cancelActive st s).travel.position = s.travel.position ∧
    (cancelActive st s).travel.travelTimer = s.travel.travelTimer ∧
    (cancelActive st s).travel.runOutTimer = s.travel.runOutTimer ∧
    (cancelActive st s).travel.beforePending = s.travel.beforePending ∧
    (cancelActive st s).plan.callOpen = s.plan.callOpen ∧ (cancelActive st s).plan.callId = s.plan.callId ∧
    (cancelActive st s).plan.trimBand = s.plan.trimBand ∧
    (cancelActive st s).plan.stepIdCounter = s.plan.stepIdCounter ∧
    (cancelActive st s).governor.presenceLive = s.governor.presenceLive ∧
    (cancelActive st s).governor.estopLatch = s.governor.estopLatch ∧
    (cancelActive st s).governor.beltPermit = s.governor.beltPermit ∧
    (cancelActive st s).governor.deckHold = s.governor.deckHold ∧
    (cancelActive st s).governor.requested = s.governor.requested ∧
    (cancelActive st s).accounts.lots = s.accounts.lots ∧
    (cancelActive st s).accounts.unassigned = s.accounts.unassigned ∧
    (cancelActive st s).accounts.credited = s.accounts.credited ∧
    (cancelActive st s).accounts.bills = s.accounts.bills ∧
    (cancelActive st s).accounts.billCounter = s.accounts.billCounter := by
  unfold cancelActive
  (repeat' split) <;> simp

@[simp] theorem ownCancelStep_fields (id : Nat) (s : State) :
    (ownCancelStep id s).1.travel.pages = s.travel.pages ∧ (ownCancelStep id s).1.travel.diverter = s.travel.diverter ∧
    (ownCancelStep id s).1.travel.referenced = s.travel.referenced ∧
    (ownCancelStep id s).1.travel.position = s.travel.position ∧
    (ownCancelStep id s).1.travel.travelTimer = s.travel.travelTimer ∧
    (ownCancelStep id s).1.travel.runOutTimer = s.travel.runOutTimer ∧
    (ownCancelStep id s).1.travel.beforePending = s.travel.beforePending ∧
    (ownCancelStep id s).1.plan.callOpen = s.plan.callOpen ∧ (ownCancelStep id s).1.plan.callId = s.plan.callId ∧
    (ownCancelStep id s).1.plan.trimBand = s.plan.trimBand ∧
    (ownCancelStep id s).1.plan.stepIdCounter = s.plan.stepIdCounter ∧
    (ownCancelStep id s).1.governor.presenceLive = s.governor.presenceLive ∧
    (ownCancelStep id s).1.governor.estopLatch = s.governor.estopLatch ∧
    (ownCancelStep id s).1.governor.beltPermit = s.governor.beltPermit ∧
    (ownCancelStep id s).1.governor.deckHold = s.governor.deckHold ∧
    (ownCancelStep id s).1.governor.requested = s.governor.requested ∧
    (ownCancelStep id s).1.accounts.lots = s.accounts.lots ∧
    (ownCancelStep id s).1.accounts.unassigned = s.accounts.unassigned ∧
    (ownCancelStep id s).1.accounts.credited = s.accounts.credited ∧
    (ownCancelStep id s).1.accounts.bills = s.accounts.bills ∧
    (ownCancelStep id s).1.accounts.billCounter = s.accounts.billCounter := by
  unfold ownCancelStep
  dsimp only
  (repeat' split) <;> simp

@[simp] theorem ownCloseStepShort_fields (id : Nat) (s : State) :
    (ownCloseStepShort id s).1.plan.callOpen = s.plan.callOpen ∧
    (ownCloseStepShort id s).1.plan.callId = s.plan.callId ∧
    (ownCloseStepShort id s).1.plan.trimBand = s.plan.trimBand ∧
    (ownCloseStepShort id s).1.plan.stepIdCounter = s.plan.stepIdCounter := by
  unfold ownCloseStepShort
  dsimp only
  (repeat' split) <;> simp

@[simp] theorem ownReleaseHold_fields (id : Nat) (s : State) :
    (ownReleaseHold id s).1.plan.callOpen = s.plan.callOpen ∧ (ownReleaseHold id s).1.plan.callId = s.plan.callId ∧
    (ownReleaseHold id s).1.plan.trimBand = s.plan.trimBand ∧
    (ownReleaseHold id s).1.plan.stepIdCounter = s.plan.stepIdCounter := by
  unfold ownReleaseHold
  (repeat' split) <;> simp

@[simp] theorem writeEntry_fields (p : Page) (h : Hold) (e : Option Hatch) (s : State) :
    (writeEntry p h e s).travel.diverter = s.travel.diverter ∧
    (writeEntry p h e s).travel.referenced = s.travel.referenced ∧
    (writeEntry p h e s).travel.position = s.travel.position ∧
    (writeEntry p h e s).travel.travelTimer = s.travel.travelTimer ∧
    (writeEntry p h e s).travel.runOutTimer = s.travel.runOutTimer ∧
    (writeEntry p h e s).travel.beforePending = s.travel.beforePending := by
  simp [writeEntry]

@[simp] theorem ownWriteHatchEntry_fields (page hold present fore aft : Nat) (lever : Int) (limit : Nat) (s : State) :
    (ownWriteHatchEntry page hold present fore aft lever limit s).1.travel.diverter = s.travel.diverter ∧
    (ownWriteHatchEntry page hold present fore aft lever limit s).1.travel.referenced = s.travel.referenced ∧
    (ownWriteHatchEntry page hold present fore aft lever limit s).1.travel.position = s.travel.position ∧
    (ownWriteHatchEntry page hold present fore aft lever limit s).1.travel.travelTimer = s.travel.travelTimer ∧
    (ownWriteHatchEntry page hold present fore aft lever limit s).1.travel.runOutTimer = s.travel.runOutTimer ∧
    (ownWriteHatchEntry page hold present fore aft lever limit s).1.travel.beforePending = s.travel.beforePending := by
  unfold ownWriteHatchEntry
  (repeat' split) <;> simp

@[simp] theorem ownRequestSwap_fields (s : State) :
    (ownRequestSwap s).1.travel.pages = s.travel.pages ∧ (ownRequestSwap s).1.travel.diverter = s.travel.diverter ∧
    (ownRequestSwap s).1.travel.referenced = s.travel.referenced ∧
    (ownRequestSwap s).1.travel.position = s.travel.position ∧
    (ownRequestSwap s).1.travel.travelTimer = s.travel.travelTimer ∧
    (ownRequestSwap s).1.travel.runOutTimer = s.travel.runOutTimer ∧
    (ownRequestSwap s).1.travel.beforePending = s.travel.beforePending ∧
    (ownRequestSwap s).1.accounts.lots = s.accounts.lots ∧
    (ownRequestSwap s).1.accounts.unassigned = s.accounts.unassigned ∧
    (ownRequestSwap s).1.accounts.credited = s.accounts.credited ∧
    (ownRequestSwap s).1.accounts.bills = s.accounts.bills ∧
    (ownRequestSwap s).1.accounts.billCounter = s.accounts.billCounter := by
  unfold ownRequestSwap
  dsimp only
  (repeat' split) <;> simp

@[simp] theorem ownCancelSwap_fields (s : State) :
    (ownCancelSwap s).1.travel.pages = s.travel.pages ∧ (ownCancelSwap s).1.travel.diverter = s.travel.diverter ∧
    (ownCancelSwap s).1.travel.referenced = s.travel.referenced ∧
    (ownCancelSwap s).1.travel.position = s.travel.position ∧
    (ownCancelSwap s).1.travel.travelTimer = s.travel.travelTimer ∧
    (ownCancelSwap s).1.travel.runOutTimer = s.travel.runOutTimer ∧
    (ownCancelSwap s).1.travel.beforePending = s.travel.beforePending := by
  unfold ownCancelSwap
  (repeat' split) <;> simp

@[simp] theorem setLot_fields (i : Slot) (l : Lot) (s : State) :
    (setLot i l s).accounts.unassigned = s.accounts.unassigned ∧
    (setLot i l s).accounts.credited = s.accounts.credited ∧ (setLot i l s).accounts.bills = s.accounts.bills ∧
    (setLot i l s).accounts.billCounter = s.accounts.billCounter := by
  simp [setLot]

@[simp] theorem ownOpenLot_fields (number grade length : Nat) (field : List Byte) (declared : Nat) (s : State) :
    (ownOpenLot number grade length field declared s).1.accounts.unassigned = s.accounts.unassigned ∧
    (ownOpenLot number grade length field declared s).1.accounts.credited = s.accounts.credited ∧
    (ownOpenLot number grade length field declared s).1.accounts.bills = s.accounts.bills ∧
    (ownOpenLot number grade length field declared s).1.accounts.billCounter = s.accounts.billCounter := by
  unfold ownOpenLot
  dsimp only
  (repeat' split) <;> simp

@[simp] theorem issueBill_fields (number : Nat) (i : Slot) (b : Bill) (s : State) :
    (issueBill number i b s).accounts.unassigned = s.accounts.unassigned ∧
    (issueBill number i b s).accounts.credited = s.accounts.credited ∧
    (issueBill number i b s).weigher.line = s.weigher.line ∧
    (issueBill number i b s).weigher.lineTotal = s.weigher.lineTotal ∧
    (issueBill number i b s).weigher.scale = s.weigher.scale ∧
    (issueBill number i b s).weigher.segmentSum = s.weigher.segmentSum ∧
    (issueBill number i b s).weigher.segmentCount = s.weigher.segmentCount ∧
    (issueBill number i b s).weigher.lastMean = s.weigher.lastMean ∧
    (issueBill number i b s).weigher.holdLast = s.weigher.holdLast ∧
    (issueBill number i b s).weigher.pulseCount = s.weigher.pulseCount := by
  unfold issueBill
  dsimp only
  (repeat' split) <;> simp

@[simp] theorem ownCloseLot_fields (number : Nat) (s : State) :
    (ownCloseLot number s).1.accounts.unassigned = s.accounts.unassigned ∧
    (ownCloseLot number s).1.accounts.credited = s.accounts.credited ∧
    (ownCloseLot number s).1.weigher.line = s.weigher.line ∧
    (ownCloseLot number s).1.weigher.lineTotal = s.weigher.lineTotal ∧
    (ownCloseLot number s).1.weigher.scale = s.weigher.scale ∧
    (ownCloseLot number s).1.weigher.segmentSum = s.weigher.segmentSum ∧
    (ownCloseLot number s).1.weigher.segmentCount = s.weigher.segmentCount ∧
    (ownCloseLot number s).1.weigher.lastMean = s.weigher.lastMean ∧
    (ownCloseLot number s).1.weigher.holdLast = s.weigher.holdLast ∧
    (ownCloseLot number s).1.weigher.pulseCount = s.weigher.pulseCount := by
  unfold ownCloseLot
  dsimp only
  (repeat' split) <;> simp

@[simp] theorem ownReleaseBill_fields (n : Nat) (s : State) :
    (ownReleaseBill n s).1.accounts.lots = s.accounts.lots ∧
    (ownReleaseBill n s).1.accounts.unassigned = s.accounts.unassigned ∧
    (ownReleaseBill n s).1.accounts.credited = s.accounts.credited ∧
    (ownReleaseBill n s).1.accounts.billCounter = s.accounts.billCounter := by
  unfold ownReleaseBill
  dsimp only
  (repeat' split) <;> simp

@[simp] theorem ownSetTime_fields (seconds : Nat) (s : State) :
    (ownSetTime seconds s).1.accounts.lots = s.accounts.lots ∧
    (ownSetTime seconds s).1.accounts.unassigned = s.accounts.unassigned ∧
    (ownSetTime seconds s).1.accounts.credited = s.accounts.credited ∧
    (ownSetTime seconds s).1.accounts.bills = s.accounts.bills ∧
    (ownSetTime seconds s).1.accounts.billCounter = s.accounts.billCounter := by
  simp [ownSetTime]

@[simp] theorem completeFrame_fields (st : Station) (frame : List Byte) (s : State) :
    (completeFrame st frame s).governor.preact = s.governor.preact ∧
    (completeFrame st frame s).governor.estopLatch = s.governor.estopLatch ∧
    (completeFrame st frame s).governor.beltPermit = s.governor.beltPermit ∧
    (completeFrame st frame s).governor.deckHold = s.governor.deckHold ∧
    (completeFrame st frame s).governor.requested = s.governor.requested := by
  unfold completeFrame
  dsimp only
  (repeat' split) <;> simp

@[simp] theorem judgeHeader_fields (st : Station) (frame : List Byte) (s : State) :
    (judgeHeader st frame s).governor.preact = s.governor.preact ∧
    (judgeHeader st frame s).governor.estopLatch = s.governor.estopLatch ∧
    (judgeHeader st frame s).governor.beltPermit = s.governor.beltPermit ∧
    (judgeHeader st frame s).governor.deckHold = s.governor.deckHold ∧
    (judgeHeader st frame s).governor.requested = s.governor.requested := by
  unfold judgeHeader
  dsimp only
  (repeat' split) <;> simp

@[simp] theorem takeCharacter_fields (st : Station) (s : State) (b : Byte) :
    (takeCharacter st s b).governor.preact = s.governor.preact ∧
    (takeCharacter st s b).governor.estopLatch = s.governor.estopLatch ∧
    (takeCharacter st s b).governor.beltPermit = s.governor.beltPermit ∧
    (takeCharacter st s b).governor.deckHold = s.governor.deckHold ∧
    (takeCharacter st s b).governor.requested = s.governor.requested := by
  unfold takeCharacter
  dsimp only
  (repeat' split) <;> simp

@[simp] theorem coldStart_fields (s : State) :
    (coldStart s).travel.pages = s.travel.pages ∧ (coldStart s).governor.preact = s.governor.preact ∧
    (coldStart s).accounts.lots = s.accounts.lots ∧ (coldStart s).accounts.unassigned = s.accounts.unassigned ∧
    (coldStart s).accounts.credited = s.accounts.credited ∧ (coldStart s).accounts.bills = s.accounts.bills ∧
    (coldStart s).accounts.billCounter = s.accounts.billCounter ∧
    (coldStart s).weigher.weighingLot = s.weigher.weighingLot := by
  simp [coldStart]

@[simp] theorem defaultSettings_fields (s : State) :
    (defaultSettings s).weigher.weighingLot = s.weigher.weighingLot ∧
    (defaultSettings s).weigher.scale = s.weigher.scale ∧
    (defaultSettings s).weigher.segmentSum = s.weigher.segmentSum ∧
    (defaultSettings s).weigher.segmentCount = s.weigher.segmentCount ∧
    (defaultSettings s).weigher.lastMean = s.weigher.lastMean ∧
    (defaultSettings s).weigher.holdLast = s.weigher.holdLast ∧
    (defaultSettings s).weigher.pulseCount = s.weigher.pulseCount := by
  simp [defaultSettings]

@[simp] theorem checkSettings_fields (s : State) :
    (checkSettings s).weigher.weighingLot = s.weigher.weighingLot ∧ (checkSettings s).weigher.scale = s.weigher.scale ∧
    (checkSettings s).weigher.segmentSum = s.weigher.segmentSum ∧
    (checkSettings s).weigher.segmentCount = s.weigher.segmentCount ∧
    (checkSettings s).weigher.lastMean = s.weigher.lastMean ∧ (checkSettings s).weigher.holdLast = s.weigher.holdLast ∧
    (checkSettings s).weigher.pulseCount = s.weigher.pulseCount := by
  unfold checkSettings
  dsimp only
  (repeat' split) <;> simp

@[simp] theorem bookFirst_fields (n : Nat) (s : State) :
    (bookFirst n s).accounts.credited = s.accounts.credited ∧ (bookFirst n s).accounts.bills = s.accounts.bills ∧
    (bookFirst n s).accounts.billCounter = s.accounts.billCounter := by
  simp [bookFirst]

@[simp] theorem bookLoss_fields (s : State) :
    (bookLoss s).accounts.credited = s.accounts.credited ∧ (bookLoss s).accounts.bills = s.accounts.bills ∧
    (bookLoss s).accounts.billCounter = s.accounts.billCounter := by
  simp [bookLoss]

@[simp] theorem holdForPower_fields (s : State) :
    (holdForPower s).travel.pages = s.travel.pages ∧ (holdForPower s).travel.diverter = s.travel.diverter ∧
    (holdForPower s).travel.referenced = s.travel.referenced ∧ (holdForPower s).travel.position = s.travel.position ∧
    (holdForPower s).travel.travelTimer = s.travel.travelTimer ∧
    (holdForPower s).travel.runOutTimer = s.travel.runOutTimer ∧
    (holdForPower s).travel.beforePending = s.travel.beforePending ∧ (holdForPower s).plan.callOpen = s.plan.callOpen ∧
    (holdForPower s).plan.callId = s.plan.callId ∧ (holdForPower s).plan.trimBand = s.plan.trimBand ∧
    (holdForPower s).plan.stepIdCounter = s.plan.stepIdCounter ∧ (holdForPower s).accounts.lots = s.accounts.lots ∧
    (holdForPower s).accounts.unassigned = s.accounts.unassigned ∧
    (holdForPower s).accounts.credited = s.accounts.credited ∧ (holdForPower s).accounts.bills = s.accounts.bills ∧
    (holdForPower s).accounts.billCounter = s.accounts.billCounter := by
  unfold holdForPower
  (repeat' split) <;> simp

@[simp] theorem startConverter_fields (s : State) :
    (startConverter s).weigher.line = s.weigher.line ∧ (startConverter s).weigher.lineTotal = s.weigher.lineTotal ∧
    (startConverter s).weigher.weighingLot = s.weigher.weighingLot ∧
    (startConverter s).weigher.scale = s.weigher.scale ∧ (startConverter s).weigher.segmentSum = s.weigher.segmentSum ∧
    (startConverter s).weigher.segmentCount = s.weigher.segmentCount ∧
    (startConverter s).weigher.lastMean = s.weigher.lastMean ∧
    (startConverter s).weigher.holdLast = s.weigher.holdLast ∧
    (startConverter s).weigher.pulseCount = s.weigher.pulseCount := by
  unfold startConverter
  (repeat' split) <;> simp

@[simp] theorem readEstop_fields (s : State) :
    (readEstop s).travel.pages = s.travel.pages ∧ (readEstop s).travel.diverter = s.travel.diverter ∧
    (readEstop s).travel.referenced = s.travel.referenced ∧ (readEstop s).travel.position = s.travel.position ∧
    (readEstop s).travel.travelTimer = s.travel.travelTimer ∧ (readEstop s).travel.runOutTimer = s.travel.runOutTimer ∧
    (readEstop s).travel.beforePending = s.travel.beforePending ∧ (readEstop s).governor.preact = s.governor.preact ∧
    (readEstop s).governor.presenceLive = s.governor.presenceLive ∧
    (readEstop s).governor.beltPermit = s.governor.beltPermit ∧ (readEstop s).governor.deckHold = s.governor.deckHold ∧
    (readEstop s).governor.requested = s.governor.requested := by
  unfold readEstop
  (repeat' split) <;> simp

@[simp] theorem startClocks_fields (s : State) :
    (startClocks s).governor.preact = s.governor.preact ∧
    (startClocks s).governor.presenceLive = s.governor.presenceLive ∧
    (startClocks s).governor.estopLatch = s.governor.estopLatch ∧
    (startClocks s).governor.beltPermit = s.governor.beltPermit ∧
    (startClocks s).governor.deckHold = s.governor.deckHold ∧
    (startClocks s).governor.requested = s.governor.requested ∧ (startClocks s).accounts.lots = s.accounts.lots ∧
    (startClocks s).accounts.unassigned = s.accounts.unassigned ∧
    (startClocks s).accounts.credited = s.accounts.credited ∧ (startClocks s).accounts.bills = s.accounts.bills ∧
    (startClocks s).accounts.billCounter = s.accounts.billCounter := by
  simp [startClocks]

@[simp] theorem completeRecovery_fields (s : State) :
    (completeRecovery s).travel.pages = s.travel.pages ∧ (completeRecovery s).travel.diverter = s.travel.diverter ∧
    (completeRecovery s).travel.referenced = s.travel.referenced ∧
    (completeRecovery s).travel.position = s.travel.position ∧
    (completeRecovery s).travel.travelTimer = s.travel.travelTimer ∧
    (completeRecovery s).travel.runOutTimer = s.travel.runOutTimer ∧
    (completeRecovery s).travel.beforePending = s.travel.beforePending ∧
    (completeRecovery s).governor.preact = s.governor.preact ∧
    (completeRecovery s).governor.presenceLive = s.governor.presenceLive ∧
    (completeRecovery s).governor.deckHold = s.governor.deckHold ∧
    (completeRecovery s).governor.requested = s.governor.requested ∧
    (completeRecovery s).accounts.lots = s.accounts.lots ∧
    (completeRecovery s).accounts.unassigned = s.accounts.unassigned ∧
    (completeRecovery s).accounts.credited = s.accounts.credited ∧
    (completeRecovery s).accounts.bills = s.accounts.bills ∧
    (completeRecovery s).accounts.billCounter = s.accounts.billCounter ∧
    (completeRecovery s).weigher.line = s.weigher.line ∧ (completeRecovery s).weigher.lineTotal = s.weigher.lineTotal ∧
    (completeRecovery s).weigher.weighingLot = s.weigher.weighingLot ∧
    (completeRecovery s).weigher.scale = s.weigher.scale ∧
    (completeRecovery s).weigher.segmentSum = s.weigher.segmentSum ∧
    (completeRecovery s).weigher.segmentCount = s.weigher.segmentCount ∧
    (completeRecovery s).weigher.lastMean = s.weigher.lastMean ∧
    (completeRecovery s).weigher.holdLast = s.weigher.holdLast ∧
    (completeRecovery s).weigher.pulseCount = s.weigher.pulseCount := by
  simp [completeRecovery]

@[simp] theorem recoveredTo_fields (p : RecoveryPoint) (s : State) :
    (recoveredTo p s).travel.pages = s.travel.pages ∧ (recoveredTo p s).travel.diverter = s.travel.diverter ∧
    (recoveredTo p s).travel.referenced = s.travel.referenced ∧ (recoveredTo p s).travel.position = s.travel.position ∧
    (recoveredTo p s).travel.travelTimer = s.travel.travelTimer ∧
    (recoveredTo p s).travel.runOutTimer = s.travel.runOutTimer ∧
    (recoveredTo p s).travel.beforePending = s.travel.beforePending ∧
    (recoveredTo p s).plan.callOpen = s.plan.callOpen ∧ (recoveredTo p s).plan.callId = s.plan.callId ∧
    (recoveredTo p s).plan.trimBand = s.plan.trimBand ∧ (recoveredTo p s).plan.stepIdCounter = s.plan.stepIdCounter ∧
    (recoveredTo p s).governor.presenceLive = s.governor.presenceLive ∧
    (recoveredTo p s).governor.estopLatch = s.governor.estopLatch ∧
    (recoveredTo p s).governor.beltPermit = s.governor.beltPermit ∧
    (recoveredTo p s).governor.deckHold = s.governor.deckHold ∧
    (recoveredTo p s).governor.requested = s.governor.requested ∧
    (recoveredTo p s).accounts.credited = s.accounts.credited ∧ (recoveredTo p s).accounts.bills = s.accounts.bills ∧
    (recoveredTo p s).accounts.billCounter = s.accounts.billCounter ∧
    (recoveredTo p s).weigher.weighingLot = s.weigher.weighingLot ∧ (recoveredTo p s).weigher.scale = s.weigher.scale ∧
    (recoveredTo p s).weigher.segmentSum = s.weigher.segmentSum ∧
    (recoveredTo p s).weigher.segmentCount = s.weigher.segmentCount ∧
    (recoveredTo p s).weigher.lastMean = s.weigher.lastMean ∧ (recoveredTo p s).weigher.holdLast = s.weigher.holdLast ∧
    (recoveredTo p s).weigher.pulseCount = s.weigher.pulseCount := by
  cases p <;> simp [recoveredTo]

@[simp] theorem resetAsserts_fields (s : State) :
    (resetAsserts s).travel.pages = s.travel.pages ∧ (resetAsserts s).governor.preact = s.governor.preact ∧
    (resetAsserts s).accounts.lots = s.accounts.lots ∧ (resetAsserts s).accounts.unassigned = s.accounts.unassigned ∧
    (resetAsserts s).accounts.credited = s.accounts.credited ∧ (resetAsserts s).accounts.bills = s.accounts.bills ∧
    (resetAsserts s).accounts.billCounter = s.accounts.billCounter ∧
    (resetAsserts s).weigher.weighingLot = s.weigher.weighingLot := by
  simp [resetAsserts, coldStart]

@[simp] theorem abandonRecovery_fields (p : RecoveryPoint) (s : State) :
    (abandonRecovery p s).travel.pages = s.travel.pages ∧
    (abandonRecovery p s).accounts.credited = s.accounts.credited ∧
    (abandonRecovery p s).accounts.bills = s.accounts.bills ∧
    (abandonRecovery p s).accounts.billCounter = s.accounts.billCounter ∧
    (abandonRecovery p s).weigher.weighingLot = s.weigher.weighingLot := by
  simp [abandonRecovery]

@[simp] theorem recover_fields (s : State) :
    (recover s).travel.pages = s.travel.pages ∧ (recover s).travel.diverter = s.travel.diverter ∧
    (recover s).travel.referenced = s.travel.referenced ∧ (recover s).travel.position = s.travel.position ∧
    (recover s).travel.travelTimer = s.travel.travelTimer ∧ (recover s).travel.runOutTimer = s.travel.runOutTimer ∧
    (recover s).travel.beforePending = s.travel.beforePending ∧ (recover s).plan.callOpen = s.plan.callOpen ∧
    (recover s).plan.callId = s.plan.callId ∧ (recover s).plan.trimBand = s.plan.trimBand ∧
    (recover s).plan.stepIdCounter = s.plan.stepIdCounter ∧
    (recover s).governor.presenceLive = s.governor.presenceLive ∧ (recover s).governor.deckHold = s.governor.deckHold ∧
    (recover s).governor.requested = s.governor.requested ∧ (recover s).accounts.credited = s.accounts.credited ∧
    (recover s).accounts.bills = s.accounts.bills ∧ (recover s).accounts.billCounter = s.accounts.billCounter ∧
    (recover s).weigher.weighingLot = s.weigher.weighingLot ∧ (recover s).weigher.scale = s.weigher.scale ∧
    (recover s).weigher.segmentSum = s.weigher.segmentSum ∧ (recover s).weigher.segmentCount = s.weigher.segmentCount ∧
    (recover s).weigher.lastMean = s.weigher.lastMean ∧ (recover s).weigher.holdLast = s.weigher.holdLast ∧
    (recover s).weigher.pulseCount = s.weigher.pulseCount := by
  simp [recover]

@[simp] theorem calibrationRequest_fields (z sp b : Nat) (calUnlock : Bool) (s : State) :
    (calibrationRequest z sp b calUnlock s).1.weigher.line = s.weigher.line ∧
    (calibrationRequest z sp b calUnlock s).1.weigher.lineTotal = s.weigher.lineTotal ∧
    (calibrationRequest z sp b calUnlock s).1.weigher.weighingLot = s.weigher.weighingLot ∧
    (calibrationRequest z sp b calUnlock s).1.weigher.scale = s.weigher.scale ∧
    (calibrationRequest z sp b calUnlock s).1.weigher.holdLast = s.weigher.holdLast ∧
    (calibrationRequest z sp b calUnlock s).1.weigher.pulseCount = s.weigher.pulseCount ∧
    (calibrationRequest z sp b calUnlock s).1.store.defaulted = s.store.defaulted := by
  unfold calibrationRequest
  (repeat' split) <;> simp

@[simp] theorem takeWGroup_fields (s : State) :
    (takeWGroup s).accounts.credited = s.accounts.credited ∧ (takeWGroup s).accounts.bills = s.accounts.bills ∧
    (takeWGroup s).accounts.billCounter = s.accounts.billCounter ∧ (takeWGroup s).weigher.line = s.weigher.line ∧
    (takeWGroup s).weigher.lineTotal = s.weigher.lineTotal ∧
    (takeWGroup s).weigher.weighingLot = s.weigher.weighingLot ∧ (takeWGroup s).weigher.scale = s.weigher.scale ∧
    (takeWGroup s).weigher.lastMean = s.weigher.lastMean ∧ (takeWGroup s).weigher.holdLast = s.weigher.holdLast ∧
    (takeWGroup s).weigher.pulseCount = s.weigher.pulseCount := by
  unfold takeWGroup
  (repeat' split) <;> simp

@[simp] theorem takeDGroup_fields (s : State) :
    (takeDGroup s).governor.preact = s.governor.preact ∧
    (takeDGroup s).governor.presenceLive = s.governor.presenceLive ∧
    (takeDGroup s).governor.estopLatch = s.governor.estopLatch ∧
    (takeDGroup s).governor.deckHold = s.governor.deckHold ∧
    (takeDGroup s).governor.requested = s.governor.requested := by
  unfold takeDGroup
  (repeat' split) <;> simp

@[simp] theorem weigherLosesReference_fields (s : State) :
    (weigherLosesReference s).weigher.line = s.weigher.line ∧
    (weigherLosesReference s).weigher.lineTotal = s.weigher.lineTotal ∧
    (weigherLosesReference s).weigher.weighingLot = s.weigher.weighingLot ∧
    (weigherLosesReference s).weigher.scale = s.weigher.scale ∧
    (weigherLosesReference s).weigher.segmentSum = s.weigher.segmentSum ∧
    (weigherLosesReference s).weigher.segmentCount = s.weigher.segmentCount ∧
    (weigherLosesReference s).weigher.lastMean = s.weigher.lastMean ∧
    (weigherLosesReference s).weigher.holdLast = s.weigher.holdLast ∧
    (weigherLosesReference s).weigher.pulseCount = s.weigher.pulseCount := by
  simp [weigherLosesReference]

@[simp] theorem takeFaultNotice_fields (c : Consumer) (s : State) :
    (takeFaultNotice c s).weigher.line = s.weigher.line ∧
    (takeFaultNotice c s).weigher.lineTotal = s.weigher.lineTotal ∧
    (takeFaultNotice c s).weigher.weighingLot = s.weigher.weighingLot ∧
    (takeFaultNotice c s).weigher.scale = s.weigher.scale ∧
    (takeFaultNotice c s).weigher.segmentSum = s.weigher.segmentSum ∧
    (takeFaultNotice c s).weigher.segmentCount = s.weigher.segmentCount ∧
    (takeFaultNotice c s).weigher.lastMean = s.weigher.lastMean ∧
    (takeFaultNotice c s).weigher.holdLast = s.weigher.holdLast ∧
    (takeFaultNotice c s).weigher.pulseCount = s.weigher.pulseCount := by
  unfold takeFaultNotice
  (repeat' split) <;> simp

@[simp] theorem countEncoder_fields (d : Direction) (s : State) :
    (countEncoder d s).travel.pages = s.travel.pages ∧ (countEncoder d s).travel.diverter = s.travel.diverter ∧
    (countEncoder d s).travel.referenced = s.travel.referenced ∧
    (countEncoder d s).travel.travelTimer = s.travel.travelTimer ∧
    (countEncoder d s).travel.runOutTimer = s.travel.runOutTimer ∧
    (countEncoder d s).travel.beforePending = s.travel.beforePending ∧
    (countEncoder d s).plan.callOpen = s.plan.callOpen ∧ (countEncoder d s).plan.callId = s.plan.callId ∧
    (countEncoder d s).plan.trimBand = s.plan.trimBand ∧ (countEncoder d s).plan.stepIdCounter = s.plan.stepIdCounter ∧
    (countEncoder d s).governor.presenceLive = s.governor.presenceLive ∧
    (countEncoder d s).governor.estopLatch = s.governor.estopLatch ∧
    (countEncoder d s).governor.beltPermit = s.governor.beltPermit ∧
    (countEncoder d s).governor.deckHold = s.governor.deckHold ∧
    (countEncoder d s).governor.requested = s.governor.requested ∧ (countEncoder d s).accounts.lots = s.accounts.lots ∧
    (countEncoder d s).accounts.unassigned = s.accounts.unassigned ∧
    (countEncoder d s).accounts.credited = s.accounts.credited ∧ (countEncoder d s).accounts.bills = s.accounts.bills ∧
    (countEncoder d s).accounts.billCounter = s.accounts.billCounter := by
  unfold countEncoder
  dsimp only
  (repeat' split) <;> simp

@[simp] theorem speedPeriodEnds_fields (s : State) :
    (speedPeriodEnds s).travel.pages = s.travel.pages ∧ (speedPeriodEnds s).travel.diverter = s.travel.diverter ∧
    (speedPeriodEnds s).travel.referenced = s.travel.referenced ∧
    (speedPeriodEnds s).travel.position = s.travel.position ∧
    (speedPeriodEnds s).travel.runOutTimer = s.travel.runOutTimer ∧
    (speedPeriodEnds s).travel.beforePending = s.travel.beforePending ∧
    (speedPeriodEnds s).accounts.lots = s.accounts.lots ∧
    (speedPeriodEnds s).accounts.unassigned = s.accounts.unassigned ∧
    (speedPeriodEnds s).accounts.credited = s.accounts.credited ∧
    (speedPeriodEnds s).accounts.bills = s.accounts.bills ∧
    (speedPeriodEnds s).accounts.billCounter = s.accounts.billCounter := by
  unfold speedPeriodEnds
  dsimp only
  (repeat' split) <;> simp

@[simp] theorem homeCloses_fields (closed : Bool) (s : State) :
    (homeCloses closed s).travel.pages = s.travel.pages ∧ (homeCloses closed s).travel.diverter = s.travel.diverter ∧
    (homeCloses closed s).travel.runOutTimer = s.travel.runOutTimer ∧
    (homeCloses closed s).travel.beforePending = s.travel.beforePending ∧
    (homeCloses closed s).accounts.lots = s.accounts.lots ∧
    (homeCloses closed s).accounts.unassigned = s.accounts.unassigned ∧
    (homeCloses closed s).accounts.credited = s.accounts.credited ∧
    (homeCloses closed s).accounts.bills = s.accounts.bills ∧
    (homeCloses closed s).accounts.billCounter = s.accounts.billCounter := by
  unfold homeCloses
  (repeat' split) <;> simp

@[simp] theorem limitAsserts_fields (d : Direction) (level : Bool) (s : State) :
    (limitAsserts d level s).travel.pages = s.travel.pages ∧
    (limitAsserts d level s).travel.diverter = s.travel.diverter ∧
    (limitAsserts d level s).travel.referenced = s.travel.referenced ∧
    (limitAsserts d level s).travel.position = s.travel.position ∧
    (limitAsserts d level s).travel.runOutTimer = s.travel.runOutTimer ∧
    (limitAsserts d level s).travel.beforePending = s.travel.beforePending ∧
    (limitAsserts d level s).accounts.lots = s.accounts.lots ∧
    (limitAsserts d level s).accounts.unassigned = s.accounts.unassigned ∧
    (limitAsserts d level s).accounts.credited = s.accounts.credited ∧
    (limitAsserts d level s).accounts.bills = s.accounts.bills ∧
    (limitAsserts d level s).accounts.billCounter = s.accounts.billCounter := by
  unfold limitAsserts
  (repeat' split) <;> simp

@[simp] theorem estopAsserts_fields (s : State) :
    (estopAsserts s).travel.pages = s.travel.pages ∧ (estopAsserts s).travel.diverter = s.travel.diverter ∧
    (estopAsserts s).travel.referenced = s.travel.referenced ∧ (estopAsserts s).travel.position = s.travel.position ∧
    (estopAsserts s).travel.beforePending = s.travel.beforePending ∧
    (estopAsserts s).governor.preact = s.governor.preact ∧
    (estopAsserts s).governor.presenceLive = s.governor.presenceLive ∧
    (estopAsserts s).governor.deckHold = s.governor.deckHold ∧
    (estopAsserts s).governor.requested = s.governor.requested ∧ (estopAsserts s).accounts.lots = s.accounts.lots ∧
    (estopAsserts s).accounts.unassigned = s.accounts.unassigned ∧
    (estopAsserts s).accounts.credited = s.accounts.credited ∧ (estopAsserts s).accounts.bills = s.accounts.bills ∧
    (estopAsserts s).accounts.billCounter = s.accounts.billCounter := by
  simp [estopAsserts]

@[simp] theorem estopReleases_fields (s : State) :
    (estopReleases s).governor.preact = s.governor.preact ∧
    (estopReleases s).governor.presenceLive = s.governor.presenceLive ∧
    (estopReleases s).governor.estopLatch = s.governor.estopLatch ∧
    (estopReleases s).governor.deckHold = s.governor.deckHold ∧
    (estopReleases s).governor.requested = s.governor.requested := by
  simp [estopReleases]

@[simp] theorem rampLevel_fields (s : State) :
    (rampLevel s).governor.preact = s.governor.preact ∧ (rampLevel s).governor.presenceLive = s.governor.presenceLive ∧
    (rampLevel s).governor.estopLatch = s.governor.estopLatch ∧
    (rampLevel s).governor.beltPermit = s.governor.beltPermit ∧ (rampLevel s).governor.deckHold = s.governor.deckHold ∧
    (rampLevel s).governor.requested = s.governor.requested := by
  unfold rampLevel
  dsimp only
  (repeat' split) <;> simp

@[simp] theorem restartPeriod_fields (s : State) :
    (restartPeriod s).governor.preact = s.governor.preact ∧
    (restartPeriod s).governor.presenceLive = s.governor.presenceLive ∧
    (restartPeriod s).governor.estopLatch = s.governor.estopLatch ∧
    (restartPeriod s).governor.beltPermit = s.governor.beltPermit ∧
    (restartPeriod s).governor.deckHold = s.governor.deckHold ∧
    (restartPeriod s).governor.requested = s.governor.requested := by
  simp [restartPeriod]

@[simp] theorem feedPeriodEnds_fields (s : State) :
    (feedPeriodEnds s).governor.preact = s.governor.preact ∧
    (feedPeriodEnds s).governor.presenceLive = s.governor.presenceLive ∧
    (feedPeriodEnds s).governor.estopLatch = s.governor.estopLatch ∧
    (feedPeriodEnds s).governor.beltPermit = s.governor.beltPermit ∧
    (feedPeriodEnds s).governor.deckHold = s.governor.deckHold ∧
    (feedPeriodEnds s).governor.requested = s.governor.requested := by
  simp [feedPeriodEnds]

@[simp] theorem tick_fields (s : State) :
    (tick s).travel.pages = s.travel.pages ∧ (tick s).travel.diverter = s.travel.diverter ∧
    (tick s).travel.referenced = s.travel.referenced ∧ (tick s).travel.position = s.travel.position ∧
    (tick s).travel.beforePending = s.travel.beforePending ∧ (tick s).governor.preact = s.governor.preact ∧
    (tick s).governor.presenceLive = s.governor.presenceLive ∧ (tick s).governor.estopLatch = s.governor.estopLatch ∧
    (tick s).governor.beltPermit = s.governor.beltPermit ∧ (tick s).governor.deckHold = s.governor.deckHold ∧
    (tick s).governor.requested = s.governor.requested ∧ (tick s).accounts.lots = s.accounts.lots ∧
    (tick s).accounts.unassigned = s.accounts.unassigned ∧ (tick s).accounts.credited = s.accounts.credited ∧
    (tick s).accounts.bills = s.accounts.bills ∧ (tick s).accounts.billCounter = s.accounts.billCounter := by
  unfold tick
  (repeat' split) <;> simp

end Sys2Proof.Machine

end

section
/-! The attention law and the port law (R160, R162, R169, R171): every step keeps them. -/

namespace Sys2Proof.Machine

open Sys2Proof

theorem attentionLaw_owner {s : State} {f : State → State × Answer} (hf : Owner f) (h : AttentionLaw s) :
    AttentionLaw (f s).1 := by
  cases hf <;> simp_all [AttentionLaw]

theorem attentionLaw_kept : Kept AttentionLaw AttentionLaw where
  base _ h := h
  queue _ _ h := h
  answer _ _ h := h
  tick _ h := by simpa [AttentionLaw] using h
  owner _ _ hf _ h := attentionLaw_owner hf h
  pins s _ _ _ hc h := by cases hc <;> simpa [AttentionLaw] using h
  arrival s _ _ _ hc hr h := by
    cases hc with
    | frameComplete st chars => exact takeCharacters_keeps (law := AttentionLaw) (fun s b h => by simpa [AttentionLaw] using h) chars h
    | _ => simp_all [AttentionLaw]
  cold s _ := coldStart_attn s
  reset s _ := resetAsserts_attn s
  recover s _ h := recover_attn s h
  abandon s p _ _ := resetAsserts_attn _

/-- Settles O50. -/
theorem attentionLawIsKept : Obligations.AttentionLawIsKept := attentionLaw_kept.keeps

/-- The owner blocks leave the ports alone. -/
theorem owner_ports {s : State} {f : State → State × Answer} (hf : Owner f) : (f s).1.ports = s.ports := by
  cases hf <;> simp

theorem portLaw_of_ports_eq {s t : State} (h : PortLaw s) (ht : t.ports = s.ports) : PortLaw t := by
  unfold PortLaw
  rwa [ht]

theorem portLaw_kept : Kept PortLaw PortLaw where
  base _ h := h
  queue _ _ h := h
  answer _ _ h := h
  tick s h := portLaw_of_ports_eq h (by simp)
  owner s _ hf _ h := portLaw_of_ports_eq h (owner_ports hf)
  pins s _ _ _ hc h := portLaw_of_ports_eq h (by cases hc <;> simp)
  arrival s _ _ _ hc _ h := by
    have own (st : Station) : (s.ports.get st).Lawful := Ports.lawful_get st h
    cases hc with
    | frameComplete st chars => exact takeCharacters_lawful h
    | characterReceived st b => exact takeCharacter_lawful h
    | stopBitMissing st => exact setPort_lawful h (Port.dropFrame_lawful (own st))
    | idleGap st => exact setPort_lawful h (Port.gap_lawful (own st))
    | lineBreak st => exact setPort_lawful h Port.cold_lawful
    | takeRequest st u => exact takeHead_ports_lawful h
    | replySent st => exact setPort_lawful h (Port.replyDone_lawful (own st))
    | _ => exact portLaw_of_ports_eq h (by simp)
  cold s _ := coldStart_ports_lawful s
  reset s _ := coldStart_ports_lawful s
  recover s _ h := portLaw_of_ports_eq h (by simp)
  abandon s p _ _ := coldStart_ports_lawful (recoveredTo p s)

/-- Settles O51: a command of the ports keeps the port that it works on lawful, and no other command touches a port. -/
theorem portLawIsKept : Obligations.PortLawIsKept := portLaw_kept.keeps

end Sys2Proof.Machine

end

section
/-! The machine as a whole: a step, a millisecond, and the part from manufacture (R174). -/

namespace Sys2Proof.Machine

open Sys2Proof

/-- Settles O1. -/
theorem stepRunsTheFrontCommand : Obligations.StepRunsTheFrontCommand := by
  intro c rest s h
  rw [step, h]

/-! ### A millisecond -/

theorem step_of_pending_nil {s : State} (h : s.pending = []) : step s = .next (tick s) := by
  rw [step, h]

theorem tick_of_cold {s : State} (h : s.phase = .cold) : tick s = s := by
  simp [tick, State.isRunning, h]

/-- A running timer moves by a millisecond up to its limit; a stopped one stays stopped. -/
theorem advance_eq_map (limit : Nat) (t : Option Nat) :
    advance limit t = t.map (fun x => if x < limit then x + 1 else x) := by
  cases t <;> rfl

/-- Settles O2. -/
theorem idleStepPassesAMillisecond : Obligations.IdleStepPassesAMillisecond := by
  refine ⟨fun s hn hc => ?_, fun s hn hr => ?_⟩
  · rw [step_of_pending_nil hn, tick_of_cold hc]
  · rw [step_of_pending_nil hn, tick, if_pos (isRunning_of_running hr)]
    simp only [advance_eq_map]

/-! ### The part from manufacture -/

/-- Settles O4: every value is read off the definition. -/
theorem resetIsAsManufactured : Obligations.ResetIsAsManufactured := by
  unfold Obligations.ResetIsAsManufactured
  and_intros <;> rfl

/-- The accounts and pages of a part from manufacture are empty. -/
theorem reset_ledger (acc : Account) : State.reset.accounts.ledger acc = Ledger.empty := by
  cases acc <;> simp [State.reset, Accounts.ledger, Lot.free]

theorem reset_page (p : Page) (h : Hold) : (State.reset.travel.pages.get p).get h = none := by
  simp [State.reset, Travel.cold, HatchPage.empty]

theorem reset_credited (h : Hold) : State.reset.accounts.credited.get h = 0 := by
  simp [State.reset]

/-- A line of empty entries has no mass. -/
theorem lineMass_replicate (n : Nat) : lineMass (List.replicate n Entry.empty) = 0 := by
  simp [lineMass, Entry.empty]

theorem Weigher.cold_lawful (n : Nat) (lot : Option Slot) : (Weigher.cold n lot).Lawful n := by
  refine ⟨?_, ?_, ?_, ?_, ?_, ?_, ?_, ?_⟩ <;> simp [Weigher.cold, lineMass_replicate]
  exact fun _ => ⟨Nat.zero_le _, by simp [Entry.empty]⟩

theorem reset_settingsLaw : SettingsLaw State.reset := default_settings_lawful

theorem reset_weigherLaw : WeigherLaw State.reset := Weigher.cold_lawful _ _

/-- With every channel NORMAL and the latch clear the monitor is lawful under any mask. -/
theorem Dust.cold_lawful (mask : BitVec 8) : Dust.cold.Lawful mask := by
  refine ⟨?_, ?_, ?_, ?_, ?_, ?_, ?_, ?_⟩ <;>
    simp [Dust.cold, Channel.cold, Suppression.off]

theorem reset_planLaw : PlanLaw State.reset := by
  refine ⟨?_, ?_, ?_, ?_, ?_, ?_, ?_, ?_⟩ <;> simp [State.reset]

theorem reset_loaderLaw : LoaderLaw State.reset := by
  refine ⟨⟨?_, ?_⟩, ?_, ?_, fun _ => ⟨rfl, rfl, rfl, rfl, rfl, rfl, rfl, rfl⟩⟩ <;>
    simp [State.reset, Governor.cold, GovernorState.feeding, Travel.cold, TravelState.inMotion]

theorem reset_billLaw : BillLaw State.reset := by
  refine ⟨?_, ?_, ?_, ?_⟩ <;> simp [State.reset]

theorem reset_balanceLaw : BalanceLaw State.reset := by
  refine ⟨?_, ?_, fun i _ => ?_, ?_, fun _ => ⟨rfl, fun acc => ?_⟩⟩
  · simp [State.reset]
  · simp [State.reset, Weigher.cold]
  · rw [reset_ledger]
    exact ⟨rfl, rfl⟩
  · simp [State.reset]
  · rw [reset_ledger]
    exact Nat.le_refl 0

theorem reset_splitLaw : SplitLaw State.reset := by
  refine ⟨fun acc => ?_, ?_⟩
  · rw [reset_ledger]
    exact List.Pairwise.nil
  · simp [State.reset]

theorem momentOn_of_credited_zero {page : HatchPage} {credited : Vector Nat 8} (h : ∀ k, credited.get k = 0) :
    momentOn page credited = 0 := by
  simp [momentOn, h]

/-- Settles O5: the settings are the defaults, and everything else is empty or at rest. -/
theorem resetMeetsTheLaws : Obligations.ResetMeetsTheLaws := by
  refine ⟨coldStart_attn State.reset, coldStart_ports_lawful State.reset, reset_settingsLaw, ?_, reset_weigherLaw,
    ⟨Dust.cold_lawful _, fun _ => rfl⟩, reset_planLaw, reset_loaderLaw, ?_, ?_, reset_billLaw, reset_balanceLaw,
    reset_splitLaw, ⟨?_, fun _ => ⟨rfl, rfl, reset_credited, reset_page⟩⟩, ?_, ?_⟩
  · exact Nat.le_of_ble_eq_true rfl
  · refine ⟨?_, ?_, ?_, ?_⟩ <;> simp [State.reset, Governor.cold, GovernorState.feeding]
  · exact ⟨fun h => absurd h (by simp [State.reset, Travel.cold]), fun _ => rfl⟩
  · exact (momentOn_of_credited_zero reset_credited).symm
  · intro p h e he
    rw [reset_page] at he
    cases he
  · intro p h k _ e he
    rw [reset_page] at he
    cases he

end Sys2Proof.Machine

end

section
/-! What every command and every request does: it completes (00_scope.md, Conventions), a refused request changes nothing,
and cold start keeps what is stored (R174). -/

namespace Sys2Proof.Machine

open Sys2Proof

/-! ### Every command completes -/

theorem owner_pending {s : State} {f : State → State × Answer} (hf : Owner f) : (f s).1.pending = s.pending := by
  cases hf <;> simp

theorem arrival_pending {s : State} {c : Instr} {p f : State → State} (hc : IsArrival c p f) :
    (p s).pending = s.pending ∧ (f (p s)).pending = s.pending := by
  cases hc with
  | frameComplete st chars =>
    exact ⟨rfl, takeCharacters_keeps (law := fun t => t.pending = s.pending) (fun t b h => by simpa using h) chars rfl⟩
  | _ => simp

theorem exec_completes (c : Instr) (s : State) : ∃ t, exec c s = .next t ∧ t.pending = s.pending := by
  obtain ⟨st, f, hc⟩ | ⟨p, f, hc⟩ | rfl | rfl | ⟨a, rfl⟩ := command_kinds c
  · refine ⟨_, exec_of_request hc s, ?_⟩
    split
    · exact owner_pending (owner_of_request hc)
    · rfl
  · refine ⟨_, exec_of_arrival hc s, ?_⟩
    split
    · exact (arrival_pending hc).2
    · exact (arrival_pending hc).1
  · exact ⟨_, rfl, rfl⟩
  · exact ⟨_, rfl, rfl⟩
  · refine ⟨_, rfl, ?_⟩
    split
    · rfl
    · split <;> simp

/-- Before recovery completes an arrival does nothing but set an input level (R25, R39, R86, R136, R176). -/
theorem pins_only {c : Instr} {p f : State → State} (hc : IsArrival c p f) (s : State) :
    ∃ x : Pins, p s = { s with pins := x } := by
  cases hc with
  | limitSwitchAsserted d => cases d <;> exact ⟨_, rfl⟩
  | _ => exact ⟨_, rfl⟩

theorem exec_of_cold {c : Instr} {s : State} (hs : s.phase = .cold) (h1 : c ≠ .powerOn) (h2 : c ≠ .resetNAsserted)
    (h3 : ∀ a, c ≠ .coldStartRecovery a) : ∃ x : Pins, exec c s = .next { s with pins := x } := by
  have notRunning {t : State} (h : t.phase = .cold) : ¬ t.isRunning = true := by simp [State.isRunning, h]
  obtain ⟨st, f, hc⟩ | ⟨p, f, hc⟩ | rfl | rfl | ⟨a, rfl⟩ := command_kinds c
  · exact ⟨s.pins, (exec_of_request hc s).trans (congrArg _ (if_neg (notRunning hs)))⟩
  · obtain ⟨x, hx⟩ := pins_only hc s
    refine ⟨x, ?_⟩
    rw [exec_of_arrival hc, arrival, if_neg (notRunning ((phase_of_pins hc s).trans hs)), hx]
  · exact absurd rfl h1
  · exact absurd rfl h2
  · exact absurd rfl (h3 a)

/-- Settles O3. -/
theorem everyCommandCompletes : Obligations.EveryCommandCompletes :=
  ⟨exec_completes, fun _ _ => exec_of_cold⟩

/-! ### Cold start -/

/-- Settles O6: the cold-start tables, read off the definition of cold start. -/
theorem coldStartKeepsTheStore : Obligations.ColdStartKeepsTheStore := by
  rintro c s (rfl | rfl)
  all_goals
    refine ⟨_, rfl, rfl, rfl, rfl, rfl, rfl, rfl, ⟨rfl, rfl, rfl, rfl, rfl, rfl, rfl, rfl, rfl, rfl⟩,
      ⟨rfl, rfl, rfl, rfl, rfl, rfl, fun n => ?_⟩, rfl, rfl, rfl, fun st => ?_⟩
    · exact get_replicate Channel.cold n
    · cases st <;> exact ⟨rfl, rfl⟩

/-! ### A refused request -/

theorem ownWriteCalibration_refuses (z sp b : Nat) (s : State) :
    (ownWriteCalibration z sp b s).1 = s ∨ (ownWriteCalibration z sp b s).2.result = .ok := by
  unfold ownWriteCalibration
  (repeat' split) <;> simp [answerOk]

/-- An owner that refuses a request leaves everything but, for Write Calibration, the level that CAL_UNLOCK is read at. -/
theorem owner_refuses {s : State} {f : State → State × Answer} (hf : Owner f) :
    ((f s).1 = s ∨ ∃ k, (f s).1 = setCalUnlock k s) ∨ (f s).2.result = .ok := by
  cases hf with
  | writeCalibration z sp b => exact (ownWriteCalibration_refuses z sp b s).imp_left .inl
  | calibrationRequest z sp b k =>
    cases k with
    | false => exact .inl (.inr ⟨false, rfl⟩)
    | true => exact (ownWriteCalibration_refuses z sp b (setCalUnlock true s)).imp_left (fun h => .inr ⟨true, h⟩)
  | readStatus | readPlan | readStep | readLot | readHolds | readHatchMap | readBill | readTransit | readSettings =>
    exact .inl (.inl rfl)
  | presence | presenceFrame | releasePour | setTime | acceptSettings => exact .inr rfl
  | startStep =>
    unfold ownStartStep judgedStart
    (repeat' split) <;> simp [startReply, answerOk]
  | goToHold | goToPosition | referenceTravel =>
    simp only [ownGoToHold, ownGoToPosition, ownReferenceTravel, acceptTravel]
    (repeat' split) <;> simp [answerOk]
  | modifyStep =>
    unfold ownModifyStep
    (repeat' split) <;> simp [modifyReply, answerOk]
  | _ =>
    simp only [ownFetchEvent, ownResume, ownStopStep, ownSetFeedLevel, ownAcknowledgeTrip, ownClearStop,
      ownCancelTravel, ownClearTravelFault, ownSetDiverter, ownHoldPour, ownOpenCall, ownCloseCall, ownInsertStep,
      ownDeleteStep, ownCancelStep, ownCloseStepShort, ownReleaseHold, ownSetTrimBand, ownWriteHatchEntry,
      ownRequestSwap, ownCancelSwap, ownOpenLot, ownCloseLot, ownReleaseBill, ownWriteSetting]
    (repeat' split) <;> simp [answerOk]

theorem request_pins {c : Instr} {st : Station} {f : State → State × Answer} (hf : IsRequest c st f)
    (h : ∀ z sp b k, c ≠ .writeCalibration z sp b k) (s : State) : (f s).1.pins = s.pins := by
  cases hf with
  | writeCalibration z sp b k => exact absurd rfl (h z sp b k)
  | _ => simp

/-- A command that a station sends is one of its requests. -/
theorem request_of_sender {c : Instr} {st : Station} (h : requestSender c = some st) : ∃ f, IsRequest c st f := by
  obtain ⟨st', f, hc⟩ | ⟨p, f, hc⟩ | rfl | rfl | ⟨a, rfl⟩ := command_kinds c
  · obtain rfl : st' = st := Option.some.inj ((show some st' = requestSender c by cases hc <;> rfl).trans h)
    exact ⟨f, hc⟩
  · exact absurd ((show none = requestSender c by cases hc <;> rfl).trans h) nofun
  all_goals exact absurd h nofun

/-- Settles O11. -/
theorem refusedRequestsChangeNothing : Obligations.RefusedRequestsChangeNothing := by
  intro c st s hc hr
  obtain ⟨f, hf⟩ := request_of_sender hc
  refine ⟨_, (f s).2, (exec_of_request hf s).trans (request_of_running hr st f), rfl, fun h => ?_, fun hcal => ?_⟩
  · obtain same | ⟨k, same⟩ := (owner_refuses (owner_of_request hf)).resolve_right h
    · rw [same]
    · rw [same]
      rfl
  · exact request_pins hf hcal s

/-! ### Fetch Event -/

/-- The event record is kind, count and twelve bytes of detail (section 8.8). -/
theorem eventRecord_some (p : PendingEvent) : eventRecord (some p) =
    BitVec.ofNat 8 p.event.kind :: BitVec.ofNat 8 p.count :: (p.event.detail ++ List.replicate 12 0).take 12 := rfl

theorem field_byte (b : Byte) (l : List Byte) : field (b :: l) 0 1 = b.toNat := by
  simp [field, fromLE]

theorem field_cons (b : Byte) (l : List Byte) (k n : Nat) : field (b :: l) (k + 1) n = field l k n := rfl

theorem Event.kind_lt (e : Event) : e.kind < 256 := by
  cases e <;> simp [Event.kind]

/-- Settles O10. -/
theorem fetchEventTakesTheHighestPriority : Obligations.FetchEventTakesTheHighestPriority := by
  intro st s hr
  have taken : exec (.fetchEvent st) s = _ := request_of_running hr st (ownFetchEvent st)
  refine ⟨fun h => ?_, fun p rest h => ⟨fun lawful q hq => ?_, ?_⟩⟩
  · rw [taken, ownFetchEvent, h]
    rfl
  · obtain ⟨-, sorted, -⟩ := lawful
    rw [h] at sorted
    exact List.rel_of_pairwise_cons sorted hq
  · rw [ownFetchEvent, h] at taken
    refine ⟨eventRecord (some p), ?_, ?_, ?_, rfl, _, taken, rfl, ?_, fun other hne => ?_⟩
    · simp [eventRecord]
    · rw [eventRecord_some, field_byte, BitVec.toNat_ofNat, Nat.mod_eq_of_lt p.event.kind_lt]
    · rw [eventRecord_some, field_cons, field_byte, BitVec.toNat_ofNat]
    · simp [EventSet.fetch, h]
    · exact Events.get_set_ne _ _ _ _ hne

end Sys2Proof.Machine

end

section
/-! The settings, the preact and the hatch map (R42, R61, R66, R67, R121, R173): every step keeps their laws. -/

namespace Sys2Proof.Machine

open Sys2Proof

/-! ### The check of the settings record -/

/-- A record that matches its check word is left alone (R175). -/
theorem checkSettings_of_good {s : State} (h : s.store.checkWord = checkWord s.store.settings) :
    checkSettings s = if s.store.defaulted then raise .settingsDefaulted s else s := by
  rw [checkSettings, if_pos h]

/-- A record that does not match is defaulted, and DEFAULTED raises its event (R175). -/
theorem checkSettings_of_bad {s : State} (h : s.store.checkWord ≠ checkWord s.store.settings) :
    checkSettings s = raise .settingsDefaulted (defaultSettings s) := by
  rw [checkSettings, if_neg h]
  rfl

theorem checkSettings_store_of_good {s : State} (h : s.store.checkWord = checkWord s.store.settings) :
    (checkSettings s).store = s.store := by
  rw [checkSettings_of_good h]
  split <;> rfl

/-- Past the check, recovery leaves the settings store as the check has left it. -/
theorem recoveredTo_store {p : RecoveryPoint} (s : State) (h : p ≠ .begun) :
    (recoveredTo p s).store = (checkSettings s).store := by
  cases p with
  | begun => exact absurd rfl h
  | _ => simp [recoveredTo]

theorem recoveredTo_store_of_good {s : State} (p : RecoveryPoint) (h : s.store.checkWord = checkWord s.store.settings) :
    (recoveredTo p s).store = s.store := by
  by_cases hp : p = .begun
  · rw [hp]
    rfl
  · rw [recoveredTo_store s hp, checkSettings_store_of_good h]

theorem recover_store_of_good {s : State} (h : s.store.checkWord = checkWord s.store.settings) :
    (recover s).store = s.store := by
  simpa [recover] using recoveredTo_store_of_good (s := { s with pins := { s.pins with resetN := false } }) .raised h

theorem abandonRecovery_store (p : RecoveryPoint) (s : State) :
    (abandonRecovery p s).store = (recoveredTo p s).store := by
  simp [abandonRecovery]

/-! ### The settings law -/

theorem settingsLaw_of_settings_eq {s t : State} (h : SettingsLaw s) (ht : t.store.settings = s.store.settings) :
    SettingsLaw t := by
  unfold SettingsLaw
  rwa [ht]

theorem checkSettings_settings_lawful {s : State} (h : SettingsLaw s) : SettingsLaw (checkSettings s) := by
  by_cases hg : s.store.checkWord = checkWord s.store.settings
  · exact settingsLaw_of_settings_eq h (by rw [checkSettings_store_of_good hg])
  · rw [checkSettings_of_bad hg]
    exact default_settings_lawful

theorem recoveredTo_settings_lawful (p : RecoveryPoint) {s : State} (h : SettingsLaw s) :
    SettingsLaw (recoveredTo p s) := by
  by_cases hp : p = .begun
  · rw [hp]
    exact h
  · exact settingsLaw_of_settings_eq (checkSettings_settings_lawful h) (by rw [recoveredTo_store s hp])

theorem calibrationRequest_settings_lawful (z sp b : Nat) (u : Bool) {s : State} (h : SettingsLaw s) :
    SettingsLaw (calibrationRequest z sp b u s).1 := by
  cases u with
  | true => exact ownWriteCalibration_settings_lawful z sp b (setCalUnlock true s) h
  | false => exact h

theorem settingsLaw_owner {s : State} {f : State → State × Answer} (hf : Owner f) (h : SettingsLaw s) :
    SettingsLaw (f s).1 := by
  cases hf with
  | writeSetting i v => exact ownWriteSetting_settings_lawful i v s h
  | writeCalibration z sp b => exact ownWriteCalibration_settings_lawful z sp b s h
  | calibrationRequest z sp b u => exact calibrationRequest_settings_lawful z sp b u h
  | _ => exact settingsLaw_of_settings_eq h (by simp)

theorem takeCharacters_store (st : Station) (chars : List Byte) (s : State) :
    (chars.foldl (takeCharacter st) s).store = s.store :=
  takeCharacters_keeps (law := fun t => t.store = s.store) (fun t b ht => by simpa using ht) chars rfl

theorem settingsLaw_kept : Kept SettingsLaw SettingsLaw where
  base _ h := h
  queue _ _ h := h
  answer _ _ h := h
  tick s h := settingsLaw_of_settings_eq h (by simp)
  owner _ _ hf _ h := settingsLaw_owner hf h
  pins s _ _ _ hc h := settingsLaw_of_settings_eq h (by cases hc <;> simp)
  arrival s _ _ _ hc hr h := by
    cases hc with
    | takeRequest st u =>
      exact takeHead_keeps (fun _ h => h) (fun _ _ h => h) (fun _ _ _ h => h) (fun _ _ _ h => h)
        (fun _ _ hf _ h => settingsLaw_owner hf h) hr h
    | frameComplete st chars => exact settingsLaw_of_settings_eq h (by rw [takeCharacters_store]; rfl)
    | _ => exact settingsLaw_of_settings_eq h (by simp)
  cold s h := h
  reset s h := h
  recover s _ h := settingsLaw_of_settings_eq
    (recoveredTo_settings_lawful .raised (s := { s with pins := { s.pins with resetN := false } }) h) (by simp [recover])
  abandon s p _ h := settingsLaw_of_settings_eq (recoveredTo_settings_lawful p h) (by rw [abandonRecovery_store])

/-! ### The check word and the preact -/

/-- A record that matches its check word, as every store leaves it (R173). -/
abbrev CheckGood (s : State) : Prop := s.store.checkWord = checkWord s.store.settings

section
variable {s : State} {m : Nat} (hm : s.store.settings.preactMax * gramsPerTenth = m) (h : s.governor.preact ≤ m)
include hm h

/-- The adaptation clamps the preact to Pmax (R121). -/
@[simp] theorem adaptPreact_preact_le : (adaptPreact s).governor.preact ≤ m := by
  unfold adaptPreact
  (repeat' split)
  · exact hm ▸ Nat.min_le_right _ _
  · exact h
  · exact h

@[simp] theorem complete_preact_le : (complete s).governor.preact ≤ m := by
  simp [complete, hm, h]

@[simp] theorem cutoff_preact_le (r : CutoffReason) : (cutoff r s).governor.preact ≤ m := by
  unfold cutoff
  dsimp only
  (repeat' split) <;> simp [hm, h]

@[simp] theorem feedTests_preact_le : (feedTests s).governor.preact ≤ m := by
  unfold feedTests
  (repeat' split) <;> simp [hm, h]

@[simp] theorem segmentClosedNotice_preact_le (entering : Nat) (w : Weighing) (leaving : Nat) (dest : Destination) :
    (segmentClosedNotice entering w leaving dest s).governor.preact ≤ m := by
  unfold segmentClosedNotice
  dsimp only
  (repeat' split) <;> simp [hm, h]

@[simp] theorem reEvaluate_preact_le : (reEvaluate s).governor.preact ≤ m := by
  unfold reEvaluate
  dsimp only
  (repeat' split) <;> simp [hm, h]

@[simp] theorem scaleFaultNotice_preact_le : (scaleFaultNotice s).governor.preact ≤ m := by
  unfold scaleFaultNotice
  dsimp only
  (repeat' split) <;> simp [hm, h]

@[simp] theorem positionLost_preact_le : (positionLost s).governor.preact ≤ m := by
  unfold positionLost
  (repeat' split) <;> simp [hm, h]

@[simp] theorem cancelNotice_preact_le : (cancelNotice s).governor.preact ≤ m := by
  unfold cancelNotice
  (repeat' split) <;> simp [hm, h]

@[simp] theorem enterScaleFault_preact_le : (enterScaleFault s).governor.preact ≤ m := by
  simp [enterScaleFault, hm, h]

@[simp] theorem weighSegment_preact_le : (weighSegment s).state.governor.preact ≤ m := by
  unfold weighSegment
  dsimp only
  (repeat' split) <;> simp [hm, h]

@[simp] theorem closeSegment_preact_le : (closeSegment s).governor.preact ≤ m := by
  simp [closeSegment, hm, h]

@[simp] theorem countPulse_preact_le : (countPulse s).governor.preact ≤ m := by
  unfold countPulse
  dsimp only
  (repeat' split) <;> simp [hm, h]

@[simp] theorem resumeFeed_preact_le : (resumeFeed s).governor.preact ≤ m := by
  unfold resumeFeed
  dsimp only
  (repeat' split) <;> simp [hm, h]

@[simp] theorem ownResume_preact_le : (ownResume s).1.governor.preact ≤ m := by
  unfold ownResume
  (repeat' split) <;> simp [hm, h]

@[simp] theorem ownStopStep_preact_le : (ownStopStep s).1.governor.preact ≤ m := by
  unfold ownStopStep
  (repeat' split) <;> simp [hm, h]

@[simp] theorem ownSetTrimBand_preact_le (band : Nat) : (ownSetTrimBand band s).1.governor.preact ≤ m := by
  unfold ownSetTrimBand
  dsimp only
  (repeat' split) <;> simp [hm, h]

@[simp] theorem modifyPlan_preact_le (st : Step) (target level : Nat) :
    (modifyPlan st target level s).governor.preact ≤ m := by
  unfold modifyPlan
  dsimp only
  (repeat' split) <;> simp [hm, h]

@[simp] theorem ownModifyStep_preact_le (id target level : Nat) :
    (ownModifyStep id target level s).1.governor.preact ≤ m := by
  unfold ownModifyStep
  (repeat' split) <;> simp [hm, h]

@[simp] theorem cancelActive_preact_le (st : Step) : (cancelActive st s).governor.preact ≤ m := by
  unfold cancelActive
  (repeat' split) <;> simp [hm, h]

@[simp] theorem ownCancelStep_preact_le (id : Nat) : (ownCancelStep id s).1.governor.preact ≤ m := by
  unfold ownCancelStep
  dsimp only
  (repeat' split) <;> simp [hm, h]

@[simp] theorem countEncoder_preact_le (d : Direction) : (countEncoder d s).governor.preact ≤ m := by
  unfold countEncoder
  extract_lets _ counted noticed
  have hn : noticed.governor.preact ≤ m := by
    unfold noticed
    split
    · exact positionLost_preact_le hm h
    · exact h
  split
  · simpa using hn
  · exact hn

end

/-! ### Write Setting -/

/-- Write Setting leaves the state, or stores an accepted value and gives it its effect (R178). -/
theorem ownWriteSetting_cases (i v : Nat) (s : State) :
    (ownWriteSetting i v s).1 = s ∨ ∃ k, k.readOnly = false ∧ k.inRange v = true ∧ ownerRefusal v s k = none ∧
      (ownWriteSetting i v s).1 = applySetting s.store.settings.mask v (storeSetting k v s) k := by
  unfold ownWriteSetting
  split
  · exact .inl rfl
  next k _ =>
    split
    · exact .inl rfl
    next range =>
      split
      · exact .inl rfl
      next accepted => exact .inr ⟨k, by simp_all, by simp_all, accepted, rfl⟩

/-- The effect of a setting on the stored preact is Pmax's clamp alone (R134). -/
theorem applySetting_preact {k : SettingKey} (hk : k ≠ .preactMax) (was : BitVec 8) (v : Nat) (s : State) :
    (applySetting was v s k).governor.preact = s.governor.preact := by
  cases k with
  | preactMax => exact absurd rfl hk
  | _ =>
    unfold applySetting
    (repeat' split) <;> simp_all

theorem writeRecord_preactMax {k : SettingKey} (hk : k ≠ .preactMax) (x : Settings) (v : Nat) :
    (writeRecord x v k).preactMax = x.preactMax := by
  cases k with
  | preactMax => exact absurd rfl hk
  | _ => rfl

theorem storeSetting_preact (v : Nat) (s : State) :
    storeSetting .preact v s = { s with governor := { s.governor with preact := v * 1000 } } := rfl

theorem storeSetting_record {k : SettingKey} (hk : k ≠ .preact) (v : Nat) (s : State) :
    storeSetting k v s = storeSettings (writeRecord s.store.settings v k) s := if_neg hk

/-- A stored setting leaves the check word matching the record (R173). -/
theorem storeSetting_checkGood (k : SettingKey) (v : Nat) {s : State} (h : CheckGood s) :
    CheckGood (storeSetting k v s) := by
  by_cases hk : k = .preact
  · rw [hk]
    exact h
  · rw [storeSetting_record hk]
    rfl

theorem clampPreact_preactLaw (s : State) : PreactLaw (clampPreact s) := Nat.min_le_right _ _

theorem preactLaw_of_eq {s t : State} (h : PreactLaw s) (hs : t.store.settings.preactMax = s.store.settings.preactMax)
    (hp : t.governor.preact = s.governor.preact) : PreactLaw t := by
  unfold PreactLaw preactMaxGrams
  rw [hs, hp]
  exact h

/-- An accepted setting keeps the preact within Pmax: a written preact is tested against it, a written Pmax clamps the
preact, and no other setting touches either (R134). -/
theorem applied_preactLaw {k : SettingKey} {v : Nat} {s : State} (h : PreactLaw s) (hr : ownerRefusal v s k = none) :
    PreactLaw (applySetting s.store.settings.mask v (storeSetting k v s) k) := by
  by_cases hm : k = .preactMax
  · rw [hm]
    exact clampPreact_preactLaw _
  by_cases hp : k = .preact
  · subst hp
    have within : v * 1000 ≤ preactMaxGrams s := by simpa [ownerRefusal, firstOf] using hr
    exact within
  · refine preactLaw_of_eq h ?_ ?_
    · rw [(applySetting_frame _ _ _ _).2.2.1, storeSetting_record hp]
      exact writeRecord_preactMax hm _ _
    · rw [applySetting_preact hm, storeSetting_record hp]
      rfl

theorem ownWriteCalibration_cases (z sp b : Nat) (s : State) :
    (ownWriteCalibration z sp b s).1 = s ∨ (ownWriteCalibration z sp b s).1 = calibrate z sp b s := by
  unfold ownWriteCalibration
  (repeat' split) <;> simp

theorem ownWriteCalibration_checkGood (z sp b : Nat) {s : State} (h : CheckGood s) :
    CheckGood (ownWriteCalibration z sp b s).1 := by
  obtain e | e := ownWriteCalibration_cases z sp b s <;> rw [e]
  · exact h
  · rfl

theorem checkGood_owner {s : State} {f : State → State × Answer} (hf : Owner f) (h : CheckGood s) :
    CheckGood (f s).1 := by
  cases hf with
  | writeSetting i v =>
    obtain e | ⟨k, -, -, -, e⟩ := ownWriteSetting_cases i v s <;> rw [e]
    · exact h
    · simpa [CheckGood] using storeSetting_checkGood k v h
  | writeCalibration z sp b => exact ownWriteCalibration_checkGood z sp b h
  | calibrationRequest z sp b u =>
    cases u with
    | true => exact ownWriteCalibration_checkGood z sp b (s := setCalUnlock true s) h
    | false => exact h
  | _ => simpa [CheckGood] using h

theorem ownWriteCalibration_preactLaw (z sp b : Nat) {s : State} (h : PreactLaw s) :
    PreactLaw (ownWriteCalibration z sp b s).1 := by
  obtain e | e := ownWriteCalibration_cases z sp b s <;> rw [e] <;> exact h

theorem preactLaw_owner {s : State} {f : State → State × Answer} (hf : Owner f) (h : PreactLaw s) :
    PreactLaw (f s).1 := by
  cases hf with
  | writeSetting i v =>
    obtain e | ⟨k, -, -, hr, e⟩ := ownWriteSetting_cases i v s <;> rw [e]
    · exact h
    · exact applied_preactLaw h hr
  | writeCalibration z sp b => exact ownWriteCalibration_preactLaw z sp b h
  | calibrationRequest z sp b u =>
    cases u with
    | true => exact ownWriteCalibration_preactLaw z sp b (s := setCalUnlock true s) h
    | false => exact h
  | _ =>
    have within : s.governor.preact ≤ s.store.settings.preactMax * gramsPerTenth := h
    simp [PreactLaw, preactMaxGrams, within]

theorem recoveredTo_raised_preactLaw (s : State) : PreactLaw (recoveredTo .raised s) := clampPreact_preactLaw _

/-- Up to the clamp, recovery leaves the stored preact; from the clamp on it is within Pmax (R176). -/
theorem recoveredTo_preactLaw (p : RecoveryPoint) {s : State} (hg : CheckGood s) (h : PreactLaw s) :
    PreactLaw (recoveredTo p s) := by
  cases p with
  | clamped => exact clampPreact_preactLaw _
  | raised => exact clampPreact_preactLaw _
  | _ => exact preactLaw_of_eq h (by rw [recoveredTo_store_of_good _ hg]) (by simp [recoveredTo])

theorem preactLaw_kept : Kept (fun s => CheckGood s ∧ PreactLaw s) (fun s => CheckGood s ∧ PreactLaw s) where
  base _ h := h
  queue _ _ h := h
  answer _ _ h := h
  tick s := fun ⟨hg, h⟩ => ⟨by simpa [CheckGood] using hg, preactLaw_of_eq h (by simp) (by simp)⟩
  owner _ _ hf _ := fun ⟨hg, h⟩ => ⟨checkGood_owner hf hg, preactLaw_owner hf h⟩
  pins s _ _ _ hc := fun ⟨hg, h⟩ => by
    cases hc <;> exact ⟨by simpa [CheckGood] using hg, preactLaw_of_eq h (by simp) (by simp)⟩
  arrival s _ _ _ hc hr := fun ⟨hg, h⟩ => by
    cases hc with
    | takeRequest st u =>
      exact takeHead_keeps (pre := fun s => CheckGood s ∧ PreactLaw s) (fun _ h => h) (fun _ _ h => h)
        (fun _ _ _ h => h) (fun _ _ _ h => h)
        (fun _ _ hf _ h => ⟨checkGood_owner hf h.1, preactLaw_owner hf h.2⟩) hr ⟨hg, h⟩
    | frameComplete st chars =>
      exact takeCharacters_keeps (law := fun s => CheckGood s ∧ PreactLaw s)
        (fun t b ht => ⟨by simpa [CheckGood] using ht.1, preactLaw_of_eq ht.2 (by simp) (by simp)⟩) chars ⟨hg, h⟩
    | _ =>
      have within : s.governor.preact ≤ s.store.settings.preactMax * gramsPerTenth := h
      exact ⟨by simpa [CheckGood] using hg, by simp [PreactLaw, preactMaxGrams, within]⟩
  cold _ h := h
  reset _ h := h
  recover s _ := fun ⟨hg, _⟩ => ⟨by unfold CheckGood; rwa [recover_store_of_good hg],
    preactLaw_of_eq (recoveredTo_raised_preactLaw { s with pins := { s.pins with resetN := false } })
      (by simp [recover]) (by simp [recover])⟩
  abandon s p _ := fun ⟨hg, h⟩ => ⟨by unfold CheckGood; rwa [abandonRecovery_store, recoveredTo_store_of_good p hg],
    recoveredTo_preactLaw p hg h⟩

/-! ### The hatch map -/

theorem mem_allHolds (h : Hold) : h ∈ allHolds := by
  fin_cases h <;> decide

/-- What the hatch law says of one entry, on a rail of length `rail` under margin `m`. -/
def Hatch.Placed (e : Hatch) (rail m : Nat) : Prop :=
  e.fore < e.aft ∧ e.aft ≤ rail ∧ e.fore ≤ 250000 ∧ e.aft ≤ 250000 ∧ -999 ≤ e.lever ∧ e.lever ≤ 999 ∧
    e.limit ≤ 20000 ∧ e.fore + m + m ≤ e.aft

theorem hatchLaw_iff (s : State) : HatchLaw s ↔
    (∀ p h, ∀ e ∈ (s.travel.pages.get p).get h, e.Placed s.store.settings.railLength s.store.settings.pourMargin) ∧
    ∀ p h k, h ≠ k → ∀ e ∈ (s.travel.pages.get p).get h, ∀ f ∈ (s.travel.pages.get p).get k,
      ¬ e.shares f s.store.settings.pourMargin := Iff.rfl

theorem hatchLaw_of_eq {s t : State} (h : HatchLaw s) (hp : t.travel.pages = s.travel.pages)
    (hr : t.store.settings.railLength = s.store.settings.railLength)
    (hm : t.store.settings.pourMargin = s.store.settings.pourMargin) : HatchLaw t := by
  rw [hatchLaw_iff] at h ⊢
  rwa [hp, hr, hm]

theorem hatchLaw_of_no_entry {s : State} (h : ∀ p k, (s.travel.pages.get p).get k = none) : HatchLaw s := by
  refine ⟨fun p k e he => ?_, fun p k _ _ e he => ?_⟩ <;>
  · rw [h] at he
    cases he

theorem windowOk_iff (e : Hatch) (m : Nat) : e.windowOk m = true ↔ e.fore + m + m ≤ e.aft := by
  have h : e.windowOk m = true ↔ (e.fore : Int) + m ≤ (e.aft : Int) - m := decide_eq_true_iff
  rw [h]
  omega

/-- Windows that share a position overlap (R66). -/
theorem overlaps_of_shares {e f : Hatch} {m : Nat} (h : e.shares f m) : e.overlaps f m = true := by
  obtain ⟨he, hf, hef, hfe⟩ := h
  exact decide_eq_true (max_le (le_min he hef) (le_min hfe hf))

theorem shares_comm {e f : Hatch} {m : Nat} (h : e.shares f m) : f.shares e m := by
  obtain ⟨he, hf, hef, hfe⟩ := h
  exact ⟨hf, he, hfe, hef⟩

/-- An entry that does not clash shares no position with another hold's entry of the page (R61). -/
theorem not_shares_of_clashes {page : HatchPage} {m : Nat} {h k : Hold} {e f : Hatch} (hc : page.clashes m h e = false)
    (hne : k ≠ h) (hf : page.get k = some f) : ¬ e.shares f m := by
  intro hs
  have := List.any_eq_false.1 hc k (mem_allHolds k)
  simp [hne, hf, overlaps_of_shares hs] at this

/-- Every window of a page stands and is its own when the page is good under the margin (R67). -/
theorem windowsOk_entry {page : HatchPage} {m : Nat} (hw : page.windowsOk m = true) {h : Hold} {e : Hatch}
    (he : page.get h = some e) : e.windowOk m = true ∧ page.clashes m h e = false := by
  have := List.all_eq_true.1 hw h (mem_allHolds h)
  simpa [he] using this

/-- What Write Hatch Entry writes: an entry of the inactive page, present only in its ranges and in its place (R61). -/
theorem ownWriteHatchEntry_cases (page hold present fore aft : Nat) (lever : Int) (limit : Nat) (s : State) :
    (ownWriteHatchEntry page hold present fore aft lever limit s).1 = s ∨
    ∃ p h e, (ownWriteHatchEntry page hold present fore aft lever limit s).1 = writeEntry p h e s ∧
      s.plan.callOpen = true ∧ p ≠ s.travel.activePage ∧
      ∀ x, e = some x → hatchInRange x = true ∧ hatchMisplaced p h x s = false := by
  unfold ownWriteHatchEntry
  split
  · exact .inl rfl
  next callOpen =>
    split
    next p h e _ _ _ =>
      split
      · exact .inl rfl
      next passed =>
        have passed := forall_of_firstOf_none passed
        simp only [List.forall_mem_cons] at passed
        obtain ⟨range, active, -, place, -⟩ := passed
        refine .inr ⟨p, h, e, rfl, by simpa using callOpen, by simpa using active, ?_⟩
        rintro x rfl
        exact ⟨by simpa using range, place⟩
    · exact .inl rfl

theorem hatchPlaced_of_accepted {p : Page} {h : Hold} {e : Hatch} {s : State} (hr : hatchInRange e = true)
    (hm : hatchMisplaced p h e s = false) : e.Placed s.store.settings.railLength s.store.settings.pourMargin ∧
      (s.travel.pages.get p).clashes s.store.settings.pourMargin h e = false := by
  simp only [hatchInRange, Bool.and_eq_true, decide_eq_true_eq] at hr
  simp only [hatchMisplaced, Bool.or_eq_false_iff, decide_eq_false_iff_not, Bool.not_eq_false'] at hm
  obtain ⟨⟨⟨⟨f, a⟩, l⟩, l'⟩, limit⟩ := hr
  obtain ⟨⟨⟨order, rail⟩, window⟩, alone⟩ := hm
  exact ⟨⟨by omega, by omega, f, a, l, l', limit, (windowOk_iff e _).1 window⟩, alone⟩

/-- The entry that a hold has after a write, where it is present: the one written, or one that stood before. -/
theorem mem_writeEntry {p q : Page} {h k : Hold} {e : Option Hatch} {s : State} {x : Hatch}
    (hx : x ∈ ((writeEntry p h e s).travel.pages.get q).get k) :
    (q = p ∧ k = h ∧ e = some x) ∨ (¬ (q = p ∧ k = h) ∧ x ∈ (s.travel.pages.get q).get k) := by
  simp only [writeEntry, get_set] at hx
  by_cases hq : q = p
  · subst hq
    rw [if_pos rfl, get_set] at hx
    by_cases hk : k = h
    · rw [if_pos hk] at hx
      exact .inl ⟨rfl, hk, hx⟩
    · rw [if_neg hk] at hx
      exact .inr ⟨fun hh => hk hh.2, hx⟩
  · rw [if_neg hq] at hx
    exact .inr ⟨fun hh => hq hh.1, hx⟩

theorem writeEntry_hatchLaw {p : Page} {h : Hold} {e : Option Hatch} {s : State} (hs : HatchLaw s)
    (ha : ∀ x, e = some x → hatchInRange x = true ∧ hatchMisplaced p h x s = false) :
    HatchLaw (writeEntry p h e s) := by
  rw [hatchLaw_iff] at hs ⊢
  obtain ⟨placed, apart⟩ := hs
  have accepted (x : Hatch) (hx : e = some x) := hatchPlaced_of_accepted (ha x hx).1 (ha x hx).2
  refine ⟨fun q k x hx => ?_, fun q j k hne x hx y hy => ?_⟩
  · obtain ⟨-, -, he⟩ | ⟨-, hx⟩ := mem_writeEntry hx
    · exact (accepted x he).1
    · exact placed q k x hx
  · obtain ⟨rfl, rfl, he⟩ | ⟨hj, hx⟩ := mem_writeEntry hx <;> obtain ⟨hq, hk, hf⟩ | ⟨hk, hy⟩ := mem_writeEntry hy
    · exact absurd hk.symm hne
    · exact not_shares_of_clashes (accepted x he).2 hne.symm hy
    · subst hq hk
      have old : x ∈ (s.travel.pages.get q).get j := by
        obtain ⟨-, hj, -⟩ | ⟨-, hx⟩ := mem_writeEntry hx
        · exact absurd hj hne
        · exact hx
      exact fun hs => not_shares_of_clashes (accepted y hf).2 hne old (shares_comm hs)
    · exact apart q j k hne x hx y hy

/-- A shortened rail still holds every entry (R67). -/
theorem edgeBeyond_eq_false {t : Travel} {x : Nat} (h : t.edgeBeyond x = false) (p : Page) (k : Hold) (e : Hatch)
    (he : e ∈ (t.pages.get p).get k) : e.aft ≤ x := by
  have page : (t.pages.get p) ∈ [t.pages.get 0, t.pages.get 1] := by
    fin_cases p <;> simp
  have := List.any_eq_false.1 h _ page
  simp only [Bool.not_eq_true] at this
  have := List.any_eq_false.1 this k (mem_allHolds k)
  rw [he] at this
  simpa using this

theorem pageGood_of_both {t : Travel} {m : Nat}
    (h : ((t.pages.get 0).windowsOk m && (t.pages.get 1).windowsOk m) = true) (p : Page) :
    (t.pages.get p).windowsOk m = true := by
  rw [Bool.and_eq_true] at h
  fin_cases p
  · exact h.1
  · exact h.2

theorem writeRecord_rail_margin {k : SettingKey} (hr : k ≠ .railLength) (hm : k ≠ .pourMargin) (x : Settings) (v : Nat) :
    (writeRecord x v k).railLength = x.railLength ∧ (writeRecord x v k).pourMargin = x.pourMargin := by
  cases k with
  | railLength => exact absurd rfl hr
  | pourMargin => exact absurd rfl hm
  | _ => exact ⟨rfl, rfl⟩

/-- A rail or a margin that the stored entries do not fit is refused (R67). -/
theorem storeSetting_hatchLaw {k : SettingKey} {v : Nat} {s : State} (h : HatchLaw s) (ha : ownerRefusal v s k = none) :
    HatchLaw (storeSetting k v s) := by
  by_cases hp : k = .preact
  · subst hp
    exact h
  rw [storeSetting_record hp]
  rw [hatchLaw_iff] at h ⊢
  obtain ⟨placed, apart⟩ := h
  by_cases hr : k = .railLength
  · subst hr
    have fits : s.travel.edgeBeyond v = false := by
      simp only [ownerRefusal, firstOf] at ha
      (repeat' split at ha) <;> simp_all
    refine ⟨fun p k e he => ?_, apart⟩
    obtain ⟨order, -, rest⟩ := placed p k e he
    exact ⟨order, edgeBeyond_eq_false fits p k e he, rest⟩
  by_cases hm : k = .pourMargin
  · subst hm
    have good : ((s.travel.pages.get 0).windowsOk v && (s.travel.pages.get 1).windowsOk v) = true := by
      simp only [ownerRefusal, firstOf] at ha
      (repeat' split at ha) <;> simp_all
    refine ⟨fun p k e he => ?_, fun p j k hne e he f hf => ?_⟩
    · obtain ⟨order, rail, f, a, l, l', limit, -⟩ := placed p k e he
      exact ⟨order, rail, f, a, l, l', limit, (windowOk_iff e v).1 (windowsOk_entry (pageGood_of_both good p) he).1⟩
    · exact not_shares_of_clashes (windowsOk_entry (pageGood_of_both good p) he).2 hne.symm hf
  · obtain ⟨rail, margin⟩ := writeRecord_rail_margin hr hm s.store.settings v
    simp only [storeSettings, rail, margin]
    exact ⟨placed, apart⟩

theorem ownWriteCalibration_hatchLaw (z sp b : Nat) {s : State} (h : HatchLaw s) :
    HatchLaw (ownWriteCalibration z sp b s).1 := by
  obtain e | e := ownWriteCalibration_cases z sp b s <;> rw [e] <;> exact h

theorem hatchLaw_owner {s : State} {f : State → State × Answer} (hf : Owner f) (h : HatchLaw s) : HatchLaw (f s).1 := by
  cases hf with
  | writeSetting i v =>
    obtain e | ⟨k, -, -, ha, e⟩ := ownWriteSetting_cases i v s <;> rw [e]
    · exact h
    · exact hatchLaw_of_eq (storeSetting_hatchLaw h ha) (by simp) (by simp) (by simp)
  | writeHatchEntry page hold present fore aft lever limit =>
    obtain e | ⟨p, k, x, e, -, -, ha⟩ := ownWriteHatchEntry_cases page hold present fore aft lever limit s <;> rw [e]
    · exact h
    · exact writeEntry_hatchLaw h ha
  | closeCall =>
    unfold ownCloseCall
    split
    · exact h
    · exact hatchLaw_of_no_entry (fun p k => by simp [clearPages, clearWeighingLot, HatchPage.empty])
  | writeCalibration z sp b => exact ownWriteCalibration_hatchLaw z sp b h
  | calibrationRequest z sp b u =>
    cases u with
    | true => exact ownWriteCalibration_hatchLaw z sp b (s := setCalUnlock true s) h
    | false => exact h
  | _ => exact hatchLaw_of_eq h (by simp) (by simp) (by simp)

theorem recoveredTo_pages (p : RecoveryPoint) (s : State) : (recoveredTo p s).travel.pages = s.travel.pages := by
  simp

theorem hatchLaw_kept : Kept (fun s => CheckGood s ∧ HatchLaw s) (fun s => CheckGood s ∧ HatchLaw s) where
  base _ h := h
  queue _ _ h := h
  answer _ _ h := h
  tick s := fun ⟨hg, h⟩ => ⟨by simpa [CheckGood] using hg, hatchLaw_of_eq h (by simp) (by simp) (by simp)⟩
  owner _ _ hf _ := fun ⟨hg, h⟩ => ⟨checkGood_owner hf hg, hatchLaw_owner hf h⟩
  pins s _ _ _ hc := fun ⟨hg, h⟩ => by
    cases hc <;> exact ⟨by simpa [CheckGood] using hg, hatchLaw_of_eq h (by simp) (by simp) (by simp)⟩
  arrival s _ _ _ hc hr := fun ⟨hg, h⟩ => by
    cases hc with
    | takeRequest st u =>
      exact takeHead_keeps (pre := fun s => CheckGood s ∧ HatchLaw s) (fun _ h => h) (fun _ _ h => h)
        (fun _ _ _ h => h) (fun _ _ _ h => h)
        (fun _ _ hf _ h => ⟨checkGood_owner hf h.1, hatchLaw_owner hf h.2⟩) hr ⟨hg, h⟩
    | frameComplete st chars =>
      exact takeCharacters_keeps (law := fun s => CheckGood s ∧ HatchLaw s)
        (fun t b ht => ⟨by simpa [CheckGood] using ht.1, hatchLaw_of_eq ht.2 (by simp) (by simp) (by simp)⟩) chars
        ⟨hg, h⟩
    | _ => exact ⟨by simpa [CheckGood] using hg, hatchLaw_of_eq h (by simp) (by simp) (by simp)⟩
  cold _ h := h
  reset _ h := h
  recover s _ := fun ⟨hg, h⟩ => ⟨by unfold CheckGood; rwa [recover_store_of_good hg],
    hatchLaw_of_eq h (by simp) (by rw [recover_store_of_good hg]) (by rw [recover_store_of_good hg])⟩
  abandon s p _ := fun ⟨hg, h⟩ => by
    have store : (abandonRecovery p s).store = s.store := by
      rw [abandonRecovery_store, recoveredTo_store_of_good p hg]
    exact ⟨by unfold CheckGood; rwa [store],
      hatchLaw_of_eq h (recoveredTo_pages p s) (by rw [store]) (by rw [store])⟩

/-- Settles O52: only Write Setting, Write Calibration, the check of recovery, the adaptation of the preact, Write Hatch Entry
and Close Call write what the three laws speak of, and each is tested, clamped or defaulted. -/
theorem settingsAndPreactLawsAreKept : Obligations.SettingsAndPreactLawsAreKept :=
  ⟨settingsLaw_kept.keeps, preactLaw_kept.keeps, hatchLaw_kept.keeps⟩

end Sys2Proof.Machine

end

section
/-! The line law (R9 to R14, section 1.1): every step keeps the line at N entries with its total, and the weigher's counts in
their ranges. -/

namespace Sys2Proof.Machine

open Sys2Proof

/-! ### The settings that the weigher reads -/

/-- A setting of a lawful record is in its range. -/
theorem settingsLaw_range {s : State} (h : SettingsLaw s) (k : SettingKey) (hk : k ∈ recordKeys := by decide) :
    k.inRange (settingValue s.store.settings 0 k) = true := h.1 k hk

theorem lineLength_range {s : State} (h : SettingsLaw s) : 8 ≤ s.store.settings.lineLength := by
  have range := settingsLaw_range h .lineLength
  simp only [SettingKey.inRange, settingValue, Bool.and_eq_true] at range
  exact of_decide_eq_true range.1

theorem segmentLength_range {s : State} (h : SettingsLaw s) : s.store.settings.segmentLength ≤ 2000 := by
  have range := settingsLaw_range h .segmentLength
  simp only [SettingKey.inRange, settingValue, Bool.and_eq_true] at range
  exact of_decide_eq_true range.2

theorem pulsesPerSegment_range {s : State} (h : SettingsLaw s) : s.store.settings.pulsesPerSegment ≤ 255 := by
  have range := settingsLaw_range h .pulsesPerSegment
  simp only [SettingKey.inRange, settingValue, Bool.and_eq_true] at range
  exact of_decide_eq_true range.2

/-! ### The parts of the weigher's state that its law reads -/

/-- The law of the weigher but for the pulse count, which passes its range inside a close (R8). -/
def Weigher.LineLawful (w : Weigher) (n : Nat) : Prop :=
  w.line.length = n ∧ w.lineTotal = lineMass w.line ∧ (∀ e ∈ w.line, e.Lawful) ∧
  w.segmentSum ≤ 999999 * w.segmentCount ∧ w.segmentCount ≤ 4294967295 ∧ w.lastMean ≤ 999999 ∧ w.holdLast ≤ 4

theorem Weigher.lawful_iff (w : Weigher) (n : Nat) : w.Lawful n ↔ w.LineLawful n ∧ w.pulseCount ≤ 255 := by
  simp only [Weigher.Lawful, Weigher.LineLawful, and_assoc]

/-- The line, its total and the counts of the segment, which are all that `LineLawful` reads. -/
def Weigher.lineParts (w : Weigher) : List Entry × Nat × Nat × Nat × Nat × Nat :=
  (w.line, w.lineTotal, w.segmentSum, w.segmentCount, w.lastMean, w.holdLast)

theorem lineLawful_of_parts_eq {v w : Weigher} {n : Nat} (h : w.LineLawful n) (hv : v.lineParts = w.lineParts) :
    v.LineLawful n := by
  simp only [Weigher.lineParts, Prod.mk.injEq] at hv
  obtain ⟨h1, h2, h3, h4, h5, h6⟩ := hv
  unfold Weigher.LineLawful
  rwa [h1, h2, h3, h4, h5, h6]

/-- The state's line is lawful for N as stored. -/
def LineOk (s : State) : Prop := s.weigher.LineLawful s.store.settings.lineLength

theorem weigherLaw_iff (s : State) : WeigherLaw s ↔ LineOk s ∧ s.weigher.pulseCount ≤ 255 := Weigher.lawful_iff _ _

theorem lineOk_of_parts_eq {s t : State} (h : LineOk s) (ht : t.weigher.lineParts = s.weigher.lineParts)
    (hn : t.store.settings.lineLength = s.store.settings.lineLength) : LineOk t := by
  unfold LineOk
  rw [hn]
  exact lineLawful_of_parts_eq h ht

theorem weigherLaw_of_parts_eq {s t : State} (h : WeigherLaw s) (ht : t.weigher.lineParts = s.weigher.lineParts)
    (hp : t.weigher.pulseCount = s.weigher.pulseCount)
    (hn : t.store.settings.lineLength = s.store.settings.lineLength) : WeigherLaw t := by
  rw [weigherLaw_iff] at h ⊢
  exact ⟨lineOk_of_parts_eq h.1 ht hn, by rw [hp]; exact h.2⟩

theorem rebuildLine_lawful (n : Nat) {s : State} {m : Nat} (h : s.weigher.Lawful m) :
    (rebuildLine n s).weigher.Lawful n := by
  obtain ⟨-, -, -, sum, count, mean, hold, pulse⟩ := h
  obtain ⟨length, total, entries, -⟩ := Weigher.cold_lawful n none
  exact ⟨length, total, entries, sum, count, mean, hold, pulse⟩

/-! ### Load groups -/

/-- A load of at most 999,999 g/m keeps the sum within the count's share (R5, R6). -/
theorem addLoad_lineLawful {w : Weigher} {n load : Nat} (h : w.LineLawful n) (hl : load ≤ 999999) :
    (w.addLoad load).LineLawful n := by
  unfold Weigher.addLoad
  split
  next room =>
    obtain ⟨length, total, entries, sum, count, rest⟩ := h
    refine ⟨length, total, entries, ?_, ?_, rest⟩
    · simp only [Nat.mul_add]
      omega
    · simpa [max32] using room
  · exact h

theorem weighGroup_lineOk (q : Quad) {s : State} (h : LineOk s) : LineOk (weighGroup q s) := by
  unfold weighGroup
  split
  · exact h
  · have loaded (t : State) (ht : LineOk t) : LineOk { t with
        weigher := ({ t.weigher with input := .live }).addLoad (min (rawLoad s.store.settings q) maxLoad) } :=
      addLoad_lineLawful (lineLawful_of_parts_eq ht rfl) (Nat.min_le_right _ _)
    dsimp only
    split
    · exact loaded _ (lineOk_of_parts_eq h (by simp) (by simp))
    · exact loaded s h

theorem weighGroup_pulseCount (q : Quad) (s : State) : (weighGroup q s).weigher.pulseCount = s.weigher.pulseCount := by
  unfold weighGroup
  dsimp only
  (repeat' split) <;> simp

theorem takeWGroup_weigherLaw {s : State} (h : WeigherLaw s) : WeigherLaw (takeWGroup s) := by
  unfold takeWGroup
  split
  next q rest _ =>
    rw [weigherLaw_iff] at h ⊢
    exact ⟨weighGroup_lineOk q (s := { s with converter := _ }) h.1, (weighGroup_pulseCount q _).trans_le h.2⟩
  · exact h

/-! ### The segment close -/

/-- The mean of loads of at most 999,999 g/m is at most that (R9). -/
theorem segmentMean_le {sum count : Nat} (hc : 0 < count) (h : sum ≤ 999999 * count) :
    segmentMean sum count ≤ 999999 := by
  unfold segmentMean
  have : sum + count / 2 < 1000000 * count := by omega
  exact Nat.le_of_lt_succ (Nat.div_lt_of_lt_mul (by rwa [Nat.mul_comm]))

/-- A segment of at most 2 m weighs at most 1,999,998 g (R12). -/
theorem segmentMass_le {mean length : Nat} (hm : mean ≤ 999999) (hl : length ≤ 2000) :
    segmentMass mean length ≤ 1999998 := by
  unfold segmentMass
  have : mean * length ≤ 999999 * 2000 := Nat.mul_le_mul hm hl
  omega

/-- Weighing a segment keeps the line lawful and finds a mass that an entry may have (R9 to R12). -/
theorem weighSegment_lineOk {s : State} (hs : SettingsLaw s) (h : LineOk s) :
    LineOk (weighSegment s).state ∧ (weighSegment s).mass ≤ 1999998 := by
  obtain ⟨length, total, entries, sum, count, mean, hold⟩ := id h
  have short := segmentLength_range hs
  unfold weighSegment
  dsimp only
  split
  next loads =>
    have fresh := segmentMean_le loads sum
    exact ⟨⟨length, total, entries, sum, count, fresh, Nat.zero_le _⟩, segmentMass_le fresh short⟩
  · split
    · split
      next few => exact ⟨⟨length, total, entries, sum, count, mean, few⟩, segmentMass_le mean short⟩
      · exact ⟨lineOk_of_parts_eq h (by simp [Weigher.lineParts]) (by simp), Nat.zero_le _⟩
    · exact ⟨lineOk_of_parts_eq h (by simp) (by simp), Nat.zero_le _⟩

theorem segmentEntry_lawful {mass : Nat} (s : State) (h : mass ≤ 1999998) : (segmentEntry mass s).Lawful := by
  unfold segmentEntry
  split
  · exact ⟨Nat.zero_le _, iff_of_true rfl rfl⟩
  next notZero => exact ⟨h, iff_of_false nofun notZero⟩

/-- A shift drops the oldest entry, takes in the new one and keeps the total (R14). -/
theorem shiftLine_lineLawful {e : Entry} {s : State} {n : Nat} (hn : 0 < n) (he : e.Lawful)
    (h : s.weigher.LineLawful n) : (shiftLine e s).weigher.LineLawful n := by
  obtain ⟨length, total, entries, rest⟩ := h
  refine ⟨?_, ?_, ?_, rest⟩
  · simp only [shiftLine, List.length_append, List.length_tail, List.length_singleton]
    omega
  · have shift := lineMass_shift s.weigher.line e
    simp only [shiftLine, leavingEntry, total]
    omega
  · intro x hx
    simp only [shiftLine, List.mem_append, List.mem_singleton] at hx
    obtain hx | rfl := hx
    · exact entries x (List.mem_of_mem_tail hx)
    · exact he

theorem moveLine_lineOk {mass : Nat} {how : Weighing} {s : State} (hn : 0 < s.store.settings.lineLength)
    (hm : mass ≤ 1999998) (h : LineOk s) : LineOk (moveLine mass how s) := by
  have billed : LineOk (billSegment mass how s) := lineOk_of_parts_eq h (by simp) (by simp)
  have shifted : LineOk (shiftLine (segmentEntry mass s) (billSegment mass how s)) :=
    shiftLine_lineLawful (by simpa using hn) (segmentEntry_lawful s hm) billed
  exact lineOk_of_parts_eq shifted (by simp [moveLine, Weigher.lineParts]) (by simp [moveLine])

/-- The end of a close starts the pulse count and the segment again (R8). -/
theorem restartSegment_weigherLaw {s : State} (h : LineOk s) : WeigherLaw (restartSegment s) := by
  obtain ⟨length, total, entries, -, -, mean, hold⟩ := h
  exact ⟨length, total, entries, Nat.zero_le _, Nat.zero_le _, mean, hold, Nat.zero_le _⟩

theorem closeSegment_weigherLaw {s : State} (hs : SettingsLaw s) (h : LineOk s) : WeigherLaw (closeSegment s) := by
  obtain ⟨weighed, mass⟩ := weighSegment_lineOk hs h
  have long : 0 < (weighSegment s).state.store.settings.lineLength := by
    rw [(weighSegment_frame s).2.2.1]
    exact Nat.lt_of_lt_of_le (by decide) (lineLength_range hs)
  have moved := restartSegment_weigherLaw (moveLine_lineOk (how := (weighSegment s).how) long mass weighed)
  exact weigherLaw_of_parts_eq moved (by simp [closeSegment]) (by simp [closeSegment]) (by simp [closeSegment])

theorem countPulse_weigherLaw {s : State} (hs : SettingsLaw s) (h : WeigherLaw s) : WeigherLaw (countPulse s) := by
  rw [weigherLaw_iff] at h
  unfold countPulse
  dsimp only
  split
  · exact closeSegment_weigherLaw hs (lineOk_of_parts_eq h.1 rfl rfl)
  next below =>
    have all := pulsesPerSegment_range hs
    exact (weigherLaw_iff _).2 ⟨h.1, show s.weigher.pulseCount + 1 ≤ 255 by omega⟩

/-! ### Settings and calibration -/

theorem calibrate_weigherLaw (z sp b : Nat) {s : State} (h : WeigherLaw s) : WeigherLaw (calibrate z sp b s) := by
  obtain ⟨length, total, entries, -, -, -, hold, pulse⟩ := h
  exact ⟨length, total, entries, Nat.zero_le _, Nat.zero_le _, Nat.zero_le _, hold, pulse⟩

theorem ownWriteCalibration_weigherLaw (z sp b : Nat) {s : State} (h : WeigherLaw s) :
    WeigherLaw (ownWriteCalibration z sp b s).1 := by
  obtain e | e := ownWriteCalibration_cases z sp b s <;> rw [e]
  · exact h
  · exact calibrate_weigherLaw z sp b h

theorem writeRecord_lineLength {k : SettingKey} (hk : k ≠ .lineLength) (x : Settings) (v : Nat) :
    (writeRecord x v k).lineLength = x.lineLength := by
  cases k with
  | lineLength => exact absurd rfl hk
  | _ => rfl

theorem storeSetting_lineLength {k : SettingKey} (hk : k ≠ .lineLength) (v : Nat) (s : State) :
    (storeSetting k v s).store.settings.lineLength = s.store.settings.lineLength := by
  by_cases hp : k = .preact
  · rw [hp]
    rfl
  · rw [storeSetting_record hp]
    exact writeRecord_lineLength hk _ _

/-- The effect of a setting other than N leaves the weigher (R21). -/
theorem applySetting_weigher {k : SettingKey} (hk : k ≠ .lineLength) (was : BitVec 8) (v : Nat) (s : State) :
    (applySetting was v s k).weigher = s.weigher := by
  cases k with
  | lineLength => exact absurd rfl hk
  | _ =>
    unfold applySetting
    (repeat' split) <;> simp_all

/-- A written N comes with a line of N empty entries, and no other setting touches either (R21). -/
theorem applied_weigherLaw {k : SettingKey} {v : Nat} {s : State} (h : WeigherLaw s) :
    WeigherLaw (applySetting s.store.settings.mask v (storeSetting k v s) k) := by
  by_cases hk : k = .lineLength
  · subst hk
    exact rebuildLine_lawful v h
  · unfold WeigherLaw
    rw [applySetting_weigher hk, (applySetting_frame _ _ _ _).2.2.1, storeSetting_lineLength hk,
      (storeSetting_frame _ _ _).2.2.2.1]
    exact h

theorem weigherLaw_owner {s : State} {f : State → State × Answer} (hf : Owner f) (h : WeigherLaw s) :
    WeigherLaw (f s).1 := by
  cases hf with
  | writeSetting i v =>
    obtain e | ⟨k, -, -, -, e⟩ := ownWriteSetting_cases i v s <;> rw [e]
    · exact h
    · exact applied_weigherLaw h
  | writeCalibration z sp b => exact ownWriteCalibration_weigherLaw z sp b h
  | calibrationRequest z sp b u =>
    cases u with
    | true => exact ownWriteCalibration_weigherLaw z sp b (s := setCalUnlock true s) h
    | false => exact h
  | _ => exact weigherLaw_of_parts_eq h (by simp [Weigher.lineParts]) (by simp) (by simp)

/-! ### Cold start and recovery -/

theorem checkSettings_weigherLaw {s : State} (h : WeigherLaw s) : WeigherLaw (checkSettings s) := by
  by_cases hg : s.store.checkWord = checkWord s.store.settings
  · rw [checkSettings_of_good hg]
    split <;> exact h
  · rw [checkSettings_of_bad hg]
    exact rebuildLine_lawful Settings.default.lineLength h

theorem recoveredTo_weigherLaw (p : RecoveryPoint) {s : State} (h : WeigherLaw s) : WeigherLaw (recoveredTo p s) := by
  have checked := checkSettings_weigherLaw h
  cases p with
  | begun => exact h
  | _ => exact weigherLaw_of_parts_eq checked (by simp [recoveredTo]) (by simp [recoveredTo]) (by simp [recoveredTo])

theorem coldStart_weigherLaw (s : State) : WeigherLaw (coldStart s) := Weigher.cold_lawful _ _

theorem weigherLaw_kept :
    Kept (fun s => SettingsLaw s ∧ WeigherLaw s) (fun s => SettingsLaw s ∧ WeigherLaw s) where
  base _ h := h
  queue _ _ h := h
  answer _ _ h := h
  tick s := fun ⟨hs, h⟩ => ⟨settingsLaw_kept.tick s hs, weigherLaw_of_parts_eq h (by simp) (by simp) (by simp)⟩
  owner s f hf hr := fun ⟨hs, h⟩ => ⟨settingsLaw_kept.owner s f hf hr hs, weigherLaw_owner hf h⟩
  pins s c p f hc := fun ⟨hs, h⟩ => ⟨settingsLaw_kept.pins s c p f hc hs, by
    cases hc <;> exact weigherLaw_of_parts_eq h (by simp) (by simp) (by simp)⟩
  arrival s c p f hc hr := fun ⟨hs, h⟩ => ⟨settingsLaw_kept.arrival s c p f hc hr hs, by
    cases hc with
    | takeRequest st u =>
      exact takeHead_keeps (fun _ h => h) (fun _ _ h => h) (fun _ _ _ h => h) (fun _ _ _ h => h)
        (fun _ _ hf _ h => weigherLaw_owner hf h) hr h
    | frameComplete st chars =>
      exact takeCharacters_keeps (law := WeigherLaw)
        (fun t b ht => weigherLaw_of_parts_eq ht (by simp) (by simp) (by simp)) chars h
    | wGroupArrival => exact takeWGroup_weigherLaw h
    | tachPulse => exact countPulse_weigherLaw hs h
    | _ => exact weigherLaw_of_parts_eq h (by simp [Weigher.lineParts]) (by simp) (by simp)⟩
  cold s := fun ⟨hs, _⟩ => ⟨hs, coldStart_weigherLaw s⟩
  reset s := fun ⟨hs, _⟩ => ⟨hs, coldStart_weigherLaw s⟩
  recover s hc := fun ⟨hs, h⟩ => ⟨settingsLaw_kept.recover s hc hs,
    weigherLaw_of_parts_eq
      (recoveredTo_weigherLaw .raised (s := { s with pins := { s.pins with resetN := false } }) h)
      (by simp [recover, Weigher.lineParts]) (by simp [recover]) (by simp [recover])⟩
  abandon s p hc := fun ⟨hs, _⟩ => ⟨settingsLaw_kept.abandon s p hc hs, coldStart_weigherLaw _⟩

/-- Settles O53. -/
theorem weigherLawIsKept : Obligations.WeigherLawIsKept := weigherLaw_kept.keeps

end Sys2Proof.Machine

end

section
/-! The dust stage (R48 to R56): what the recomputation of the loader stage gives, and that every step keeps the stage, the
latch, the timer and the suppression outputs together. -/

namespace Sys2Proof.Machine

open Sys2Proof

/-! ### The highest of the channels' stages -/

theorem LoaderStage.rank_higher (a b : LoaderStage) : (a.higher b).rank = max a.rank b.rank := by
  unfold LoaderStage.higher
  split <;> omega

/-- A fold by `higher` is at least as high as its start and each of its terms, and is one of them. -/
theorem foldl_higher {α : Type} (g : α → LoaderStage) (l : List α) (init : LoaderStage) :
    init.rank ≤ (l.foldl (fun a c => a.higher (g c)) init).rank ∧
    (∀ c ∈ l, (g c).rank ≤ (l.foldl (fun a c => a.higher (g c)) init).rank) ∧
    (l.foldl (fun a c => a.higher (g c)) init = init ∨ ∃ c ∈ l, l.foldl (fun a c => a.higher (g c)) init = g c) := by
  induction l generalizing init with
  | nil => exact ⟨Nat.le_refl _, nofun, .inl rfl⟩
  | cons x l ih =>
    obtain ⟨start, terms, one⟩ := ih (init.higher (g x))
    rw [LoaderStage.rank_higher] at start
    simp only [List.foldl_cons]
    refine ⟨by omega, List.forall_mem_cons.2 ⟨by omega, terms⟩, ?_⟩
    obtain e | ⟨c, hc, e⟩ := one
    · rw [e]
      unfold LoaderStage.higher
      split
      · exact .inr ⟨x, by simp, rfl⟩
      · exact .inl rfl
    · exact .inr ⟨c, List.mem_cons_of_mem _ hc, e⟩

theorem mem_allChannels (c : ChannelNo) : c ∈ allChannels := by
  fin_cases c <;> decide

theorem mem_enabledChannels {mask : BitVec 8} {c : ChannelNo} : c ∈ enabledChannels mask ↔ enabled mask c = true := by
  simp [enabledChannels, mem_allChannels]

theorem someIn_iff {d : Dust} {mask : BitVec 8} {g : ChannelStage} :
    d.someIn mask g ↔ ∃ c, enabled mask c = true ∧ (d.channels.get c).stage = g :=
  ⟨fun ⟨c, _, h⟩ => ⟨c, h⟩, fun ⟨c, h⟩ => ⟨c, mem_allChannels c, h⟩⟩

/-- With no enabled channel in FAULT the channels give HIGH, WARN or CLEAR, the highest that one of them is in (R51). -/
theorem channelsStage_of_no_fault {d : Dust} {mask : BitVec 8} (h : ¬ d.someIn mask .fault) :
    d.channelsStage mask = if d.someIn mask .high then .high else if d.someIn mask .warn then .warn else .clear := by
  obtain ⟨-, terms, one⟩ := foldl_higher (fun c => (d.channels.get c).stage.asLoader) (enabledChannels mask) .clear
  change (∀ c ∈ _, _ ≤ (d.channelsStage mask).rank) at terms
  change d.channelsStage mask = _ ∨ ∃ c ∈ _, d.channelsStage mask = _ at one
  have atLeast {g : ChannelStage} (hg : d.someIn mask g) : g.asLoader.rank ≤ (d.channelsStage mask).rank := by
    obtain ⟨c, he, rfl⟩ := someIn_iff.1 hg
    exact terms c (mem_enabledChannels.2 he)
  have source : d.channelsStage mask = .clear ∨ ∃ g, d.someIn mask g ∧ d.channelsStage mask = g.asLoader :=
    one.imp_right fun ⟨c, hc, e⟩ => ⟨_, someIn_iff.2 ⟨c, mem_enabledChannels.1 hc, rfl⟩, e⟩
  have noTrip : d.channelsStage mask ≠ .trip := by
    obtain e | ⟨g, hg, e⟩ := source <;> rw [e]
    · decide
    · cases g with
      | fault => exact absurd hg h
      | _ => decide
  by_cases high : d.someIn mask .high
  · rw [if_pos high]
    have := atLeast high
    generalize d.channelsStage mask = r at *
    cases r <;> first | rfl | exact absurd rfl noTrip | exact absurd this (by decide)
  · rw [if_neg high]
    have noHigh : d.channelsStage mask ≠ .high := by
      obtain e | ⟨g, hg, e⟩ := source <;> rw [e]
      · decide
      · cases g with
        | high => exact absurd hg high
        | _ => decide
    by_cases warn : d.someIn mask .warn
    · rw [if_pos warn]
      have := atLeast warn
      generalize d.channelsStage mask = r at *
      cases r <;> first | rfl | exact absurd rfl noTrip | exact absurd rfl noHigh | exact absurd this (by decide)
    · rw [if_neg warn]
      obtain e | ⟨g, hg, e⟩ := source
      · exact e
      · cases g with
        | normal => exact e
        | warn => exact absurd hg warn
        | high => exact absurd hg high
        | fault => exact absurd hg h

/-! ### The latch -/

theorem firstIn_isSome {d : Dust} {mask : BitVec 8} {g : ChannelStage} :
    (d.firstIn mask g).isSome = true ↔ d.someIn mask g := by
  simp only [Dust.firstIn, List.find?_isSome, mem_enabledChannels, beq_iff_eq]
  exact someIn_iff.symm

theorem firstIn_eq_none {d : Dust} {mask : BitVec 8} {g : ChannelStage} : d.firstIn mask g = none ↔ ¬ d.someIn mask g := by
  rw [← firstIn_isSome, Option.not_isSome_iff_eq_none]

/-- A latch that is set stands (R54). -/
theorem latchOnTrip_of_latched {d : Dust} {mask : BitVec 8} (h : d.tripLatch.isSome = true) : d.latchOnTrip mask = d := by
  unfold Dust.latchOnTrip
  rw [if_neg (by simp [Option.ne_none_iff_isSome.2 h])]

/-- A clear latch takes the first enabled channel in FAULT, if there is one (R51, R54). -/
theorem latchOnTrip_of_clear {d : Dust} {mask : BitVec 8} (h : d.tripLatch = none) :
    d.latchOnTrip mask = { d with tripLatch := (d.firstIn mask .fault).map .channel } := by
  unfold Dust.latchOnTrip
  rw [if_pos (by simp [h])]
  cases d.firstIn mask .fault with
  | some c => rfl
  | none =>
    obtain ⟨_, _, _, _, _, _, _⟩ := d
    cases h
    rfl

/-- The latch holds nothing but the trip latch. -/
theorem latchOnTrip_eq (d : Dust) (mask : BitVec 8) :
    d.latchOnTrip mask = { d with tripLatch := (d.latchOnTrip mask).tripLatch } := by
  cases h : d.tripLatch with
  | none => rw [latchOnTrip_of_clear h]
  | some c => rw [latchOnTrip_of_latched (by simp [h])]

theorem someIn_latchOnTrip {d : Dust} {mask : BitVec 8} {g : ChannelStage} :
    (d.latchOnTrip mask).someIn mask g ↔ d.someIn mask g := by
  rw [latchOnTrip_eq]

/-- After the latch has been looked to, a clear latch means that no enabled channel is in FAULT. -/
theorem not_fault_of_latchOnTrip {d : Dust} {mask : BitVec 8} (h : (d.latchOnTrip mask).tripLatch = none) :
    d.tripLatch = none ∧ ¬ d.someIn mask .fault := by
  cases hd : d.tripLatch with
  | none =>
    rw [latchOnTrip_of_clear hd] at h
    exact ⟨rfl, firstIn_eq_none.1 (by simpa using h)⟩
  | some c => rw [latchOnTrip_of_latched (by simp [hd]), hd] at h; cases h

/-! ### The recomputation -/

section
variable (d : Dust) (mask : BitVec 8)

theorem recompute_channels : (d.recompute mask).channels = d.channels := by
  unfold Dust.recompute
  rw [latchOnTrip_eq]

theorem recompute_tripLatch : (d.recompute mask).tripLatch = (d.latchOnTrip mask).tripLatch := rfl

theorem recompute_reference : (d.recompute mask).reference = d.reference ∧
    (d.recompute mask).referenceTimer = d.referenceTimer := by
  unfold Dust.recompute
  rw [latchOnTrip_eq]
  exact ⟨rfl, rfl⟩

theorem recompute_highHold : (d.recompute mask).highHold = nextHighHold d.stage (d.recompute mask).stage d.highHold := by
  have same : (d.latchOnTrip mask).highHold = d.highHold := by rw [latchOnTrip_eq]
  exact congrArg (nextHighHold d.stage _) same

theorem someIn_recompute {g : ChannelStage} : (d.recompute mask).someIn mask g ↔ d.someIn mask g := by
  rw [someIn_iff, someIn_iff, recompute_channels]

variable {d mask}

theorem recompute_stage_of_latched (h : (d.recompute mask).tripLatch.isSome = true) : (d.recompute mask).stage = .trip :=
  if_pos h

theorem recompute_stage_of_clear (h : (d.recompute mask).tripLatch = none) : (d.recompute mask).stage =
    if d.someIn mask .high then .high else if d.someIn mask .warn then .warn else .clear := by
  have latch : (d.latchOnTrip mask).tripLatch = none := h
  have stage : (d.recompute mask).stage = (d.latchOnTrip mask).channelsStage mask :=
    if_neg (by rw [latch]; decide)
  rw [stage, channelsStage_of_no_fault (by rw [someIn_latchOnTrip]; exact (not_fault_of_latchOnTrip latch).2)]
  simp only [someIn_latchOnTrip]

end

theorem zoneOn_iff {d : Dust} {mask : BitVec 8} {zone : List ChannelNo} :
    d.zoneOn mask zone = true ↔ d.raised mask zone := by
  simp [Dust.zoneOn]

/-- Each suppression output is on exactly while the latch is set or a channel of its zone is not NORMAL (R56). -/
theorem recompute_suppress (d : Dust) (mask : BitVec 8) :
    let t := d.recompute mask
    (t.suppress.spout = true ↔ t.tripLatch.isSome = true ∨ t.raised mask [0, 1, 2, 3]) ∧
    (t.suppress.boom = true ↔ t.tripLatch.isSome = true ∨ t.raised mask [4]) ∧
    (t.suppress.tower = true ↔ t.tripLatch.isSome = true ∨ t.raised mask [5, 6]) ∧
    (t.suppress.gallery = true ↔ t.tripLatch.isSome = true ∨ t.raised mask [7]) := by
  have output (zone : List ChannelNo) : ((d.latchOnTrip mask).tripLatch.isSome || (d.latchOnTrip mask).zoneOn mask zone) = true ↔
      (d.recompute mask).tripLatch.isSome = true ∨ (d.recompute mask).raised mask zone := by
    rw [Bool.or_eq_true, zoneOn_iff]
    rfl
  exact ⟨output _, output _, output _, output _⟩

/-- The high-hold timer runs in HIGH, where it has run in HIGH and stood still elsewhere, unless the stage comes to HIGH
from TRIP (R52). -/
theorem nextHighHold_isSome {was now : LoaderStage} {timer : Option Nat} (still : was ≠ .high → timer = none)
    (runs : was = .high → now = .high → timer.isSome = true) (trip : was = .trip → now ≠ .high) :
    (nextHighHold was now timer).isSome = true ↔ now = .high := by
  unfold nextHighHold
  by_cases hnow : now = .high
  · cases was with
    | trip => exact absurd hnow (trip rfl)
    | high => simp [hnow, runs rfl hnow]
    | _ => simp [hnow]
  · by_cases hwas : was = .high
    · simp [hnow, hwas]
    · simp [hnow, hwas, still hwas]

/-- What a monitor must meet for the recomputation to make it lawful: the high-hold timer runs in HIGH only, and in it unless
the latch has been set since; and TRIP is left for no HIGH. -/
structure Dust.StageReady (d : Dust) (mask : BitVec 8) : Prop where
  still : d.stage ≠ .high → d.highHold = none
  runs : d.stage = .high → d.highHold.isSome = true ∨ d.tripLatch.isSome = true
  trip : d.stage = .trip → d.tripLatch.isSome = true ∨ ¬ d.someIn mask .high

theorem recompute_lawful {d : Dust} {mask : BitVec 8} (h : d.StageReady mask) : (d.recompute mask).Lawful mask := by
  have stands (hl : d.tripLatch.isSome = true) : (d.recompute mask).tripLatch.isSome = true := by
    rw [recompute_tripLatch, latchOnTrip_of_latched hl]
    exact hl
  have clear (hl : (d.recompute mask).tripLatch = none) := recompute_stage_of_clear hl
  have notTrip (hl : (d.recompute mask).tripLatch = none) : (d.recompute mask).stage ≠ .trip := by
    rw [clear hl]
    split_ifs <;> decide
  have latch : (d.recompute mask).tripLatch.isSome = true ↔ (d.recompute mask).stage = .trip := by
    refine ⟨recompute_stage_of_latched, fun hs => ?_⟩
    by_contra hn
    exact notTrip (by simpa using hn) hs
  have free (hs : (d.recompute mask).stage = .high) : (d.recompute mask).tripLatch = none := by
    by_contra hn
    rw [latch.1 (Option.isSome_iff_ne_none.2 hn)] at hs
    cases hs
  refine ⟨latch, fun hf => ?_, fun hl => ?_, ?_, recompute_suppress d mask⟩
  · by_contra hn
    exact (not_fault_of_latchOnTrip (by simpa [recompute_tripLatch] using hn)).2 (someIn_recompute _ _ |>.1 hf)
  · rw [clear hl, someIn_recompute, someIn_recompute]
    split_ifs <;> simp_all
  · rw [recompute_highHold]
    refine nextHighHold_isSome h.still (fun hw hs => ?_) fun hw hs => ?_
    · exact (h.runs hw).resolve_right fun hl => by simp [free hs] at stands; simp [stands] at hl
    · have no := (h.trip hw).resolve_left fun hl => by simp [free hs] at stands; simp [stands] at hl
      rw [clear (free hs), if_neg no] at hs
      split_ifs at hs

/-! ### The state's part -/

@[simp] theorem recomputeStage_dust (s : State) : (recomputeStage s).dust = s.dust.recompute s.store.settings.mask := by
  unfold recomputeStage
  dsimp only
  split <;> simp

@[simp] theorem setTrip_dust (cause : TripCause) (s : State) : (setTrip cause s).dust =
    { s.dust with tripLatch := if s.dust.tripLatch.isSome then s.dust.tripLatch else some cause } := rfl

/-- The monitor's law in a running part. -/
theorem recomputeStage_lawful {s : State} (h : s.dust.StageReady s.store.settings.mask) :
    (recomputeStage s).dust.Lawful (recomputeStage s).store.settings.mask := by
  simpa using recompute_lawful h

/-- A lawful monitor is ready for the recomputation after a change of its channels that leaves a set latch set. -/
theorem Dust.Lawful.stageReady {d e : Dust} {mask now : BitVec 8} (h : d.Lawful mask) (stage : e.stage = d.stage)
    (timer : e.highHold = d.highHold) (latch : d.tripLatch.isSome = true → e.tripLatch.isSome = true) : e.StageReady now := by
  obtain ⟨trip, -, -, high, -⟩ := h
  refine ⟨fun hs => ?_, fun hs => .inl ?_, fun hs => .inl (latch (trip.2 (stage ▸ hs)))⟩
  · rw [timer]
    rw [stage] at hs
    simpa using mt high.1 hs
  · rw [timer]
    exact high.2 (stage ▸ hs)

/-- A trip cause makes any monitor whose timer runs in HIGH only ready for the recomputation. -/
theorem setTrip_stageReady (cause : TripCause) {s : State} (h : s.dust.stage ≠ .high → s.dust.highHold = none) :
    (setTrip cause s).dust.StageReady s.store.settings.mask := by
  have set : (setTrip cause s).dust.tripLatch.isSome = true := by
    rw [setTrip_dust]
    dsimp only
    split <;> simp_all
  exact ⟨h, fun _ => .inr set, fun _ => .inl set⟩

theorem highHoldExpires_dustLawful {s : State} (h : s.dust.Lawful s.store.settings.mask) :
    (highHoldExpires s).dust.Lawful s.store.settings.mask := by
  unfold highHoldExpires
  split
  · simpa using recompute_lawful (setTrip_stageReady .holdTime (s := { s with dust := { s.dust with highHold := none } })
      fun _ => rfl)
  · exact h

theorem referenceTimerExpires_dustLawful {s : State} (h : s.dust.Lawful s.store.settings.mask) :
    (referenceTimerExpires s).dust.Lawful s.store.settings.mask := by
  unfold referenceTimerExpires
  split
  · simpa using recompute_lawful (setTrip_stageReady .reference
      (s := { s with dust := { s.dust with referenceTimer := none } }) (h.stageReady (now := 0) rfl rfl id).still)
  · exact h

/-! ### A group, a channel's settings and the mask -/

/-- The parts of the monitor that the channels' samples leave: the stage and the high-hold timer; and a set latch stays set. -/
def Dust.SameStage (d e : Dust) : Prop :=
  e.stage = d.stage ∧ e.highHold = d.highHold ∧ (d.tripLatch.isSome = true → e.tripLatch.isSome = true)

theorem takeCode_sameStage (c : ChannelNo) (code : Code) (s : State) : s.dust.SameStage (takeCode c code s).dust := by
  unfold takeCode
  dsimp only
  split
  · split
    · refine ⟨rfl, rfl, fun h => ?_⟩
      rw [setTrip_dust]
      dsimp only
      split <;> simp_all
    · exact ⟨rfl, rfl, id⟩
  · exact ⟨rfl, rfl, id⟩

theorem Dust.SameStage.trans {d e f : Dust} (h : d.SameStage e) (h' : e.SameStage f) : d.SameStage f :=
  ⟨h'.1.trans h.1, h'.2.1.trans h.2.1, h'.2.2 ∘ h.2.2⟩

theorem takeGroup_sameStage (c0 c1 c2 c3 : ChannelNo) (q : Quad) (s : State) :
    s.dust.SameStage (takeGroup c0 c1 c2 c3 q s).dust :=
  (((takeCode_sameStage _ _ _).trans (takeCode_sameStage _ _ _)).trans (takeCode_sameStage _ _ _)).trans
    (takeCode_sameStage _ _ _)

theorem Dust.Lawful.recompute_of_sameStage {d e : Dust} {mask now : BitVec 8} (h : d.Lawful mask) (same : d.SameStage e) :
    (e.recompute now).Lawful now :=
  recompute_lawful (h.stageReady same.1 same.2.1 same.2.2)

theorem takeDGroup_dustLawful {s : State} (h : s.dust.Lawful s.store.settings.mask) :
    (takeDGroup s).dust.Lawful s.store.settings.mask := by
  unfold takeDGroup
  split
  next k q rest _ =>
    cases k with
    | w => exact h
    | d1 =>
      simp only [dustGroup, recomputeStage_dust]
      simpa using h.recompute_of_sameStage
        (takeGroup_sameStage _ _ _ _ q { s with converter := { s.converter with toMonitor := rest } })
    | d2 =>
      simp only [dustGroup, recomputeStage_dust]
      simpa using h.recompute_of_sameStage
        (takeGroup_sameStage _ _ _ _ q { s with converter := { s.converter with toMonitor := rest } })
  · exact h

/-- A channel's settings restart its level counts and leave its stage (R43). -/
theorem setChannel_dustLawful {s : State} {mask : BitVec 8} {c : ChannelNo} {ch : Channel} (h : s.dust.Lawful mask)
    (stage : ch.stage = (s.dust.channels.get c).stage) : (setChannel c ch s).dust.Lawful mask := by
  have same (k : ChannelNo) : ((setChannel c ch s).dust.channels.get k).stage = (s.dust.channels.get k).stage := by
    by_cases hk : k = c
    · subst hk
      rw [setChannel_get_self, stage]
    · rw [setChannel_get_ne _ _ _ _ hk]
  unfold Dust.Lawful Dust.someIn Dust.raised at *
  simp only [same]
  exact h

/-- The channels restarted by a changed mask: nothing but the channels changes. -/
theorem foldl_applyMaskTo_dust (was now : BitVec 8) (l : List ChannelNo) (s : State) :
    ∃ channels, (l.foldl (fun s c => applyMaskTo was now c s) s).dust = { s.dust with channels := channels } := by
  induction l generalizing s with
  | nil => exact ⟨_, rfl⟩
  | cons c l ih =>
    obtain ⟨channels, h⟩ := ih (applyMaskTo was now c s)
    refine ⟨channels, ?_⟩
    rw [List.foldl_cons, h]
    unfold applyMaskTo
    split <;> rfl

theorem applyMask_dustLawful {s : State} {mask : BitVec 8} (was now : BitVec 8) (h : s.dust.Lawful mask) :
    (applyMask was now s).dust.Lawful s.store.settings.mask := by
  obtain ⟨channels, e⟩ := foldl_applyMaskTo_dust was now allChannels s
  have store : (allChannels.foldl (fun s c => applyMaskTo was now c s) s).store = s.store := by
    rw [← (recomputeStage_frame _).2.2.1]
    exact (applyMask_frame was now s).2.2.1
  unfold applyMask
  rw [recomputeStage_dust, store]
  exact h.recompute_of_sameStage ⟨by rw [e], by rw [e], by rw [e]; exact id⟩

/-! ### Every step -/

/-- The monitor's law looks at the dust block and the mask. -/
abbrev DustLawful (s : State) : Prop := s.dust.Lawful s.store.settings.mask

theorem dustLawful_of_eq {s t : State} (h : DustLawful s) (dust : t.dust = s.dust)
    (mask : t.store.settings.mask = s.store.settings.mask) : DustLawful t := by
  unfold DustLawful
  rw [dust, mask]
  exact h

theorem writeRecord_mask {k : SettingKey} (hk : k ≠ .mask) (x : Settings) (v : Nat) :
    (writeRecord x v k).mask = x.mask := by
  cases k with
  | mask => exact absurd rfl hk
  | _ => rfl

theorem storeSetting_mask {k : SettingKey} (hk : k ≠ .mask) (v : Nat) (s : State) :
    (storeSetting k v s).store.settings.mask = s.store.settings.mask := by
  by_cases hp : k = .preact
  · subst hp
    rfl
  · rw [storeSetting_record hp]
    exact writeRecord_mask hk _ v

/-- The effect of a stored setting keeps the monitor lawful; that of the mask begins from the mask before (R43, R50). -/
theorem applySetting_dustLawful {k : SettingKey} {was : BitVec 8} {v : Nat} {s : State} (h : s.dust.Lawful was)
    (hm : k ≠ .mask → s.store.settings.mask = was) : DustLawful (applySetting was v s k) := by
  have here (hk : k ≠ .mask) : DustLawful s := by
    unfold DustLawful
    rw [hm hk]
    exact h
  cases k with
  | mask =>
    simp only [applySetting, maskChanged]
    split
    next e =>
      unfold DustLawful
      rw [← e]
      exact h
    next =>
      simpa [DustLawful] using applyMask_dustLawful was s.store.settings.mask
        (s := { s with converter := s.converter.maskRestart }) h
  | channel c k' => cases k' <;> exact setChannel_dustLawful (here nofun) rfl
  | highHoldTime =>
    simp only [applySetting]
    split
    · simpa [DustLawful] using highHoldExpires_dustLawful (here nofun)
    · exact here nofun
  | _ => exact dustLawful_of_eq (here nofun) (by simp [applySetting]; try split <;> simp) (by simp)

theorem dustLawful_owner {s : State} {f : State → State × Answer} (hf : Owner f) (h : DustLawful s) :
    DustLawful (f s).1 := by
  cases hf with
  | writeSetting i v =>
    obtain e | ⟨k, -, -, -, e⟩ := ownWriteSetting_cases i v s <;> rw [e]
    · exact h
    · refine applySetting_dustLawful ?_ fun hk => storeSetting_mask hk v s
      have : (storeSetting k v s).dust = s.dust := by simp
      rw [this]
      exact h
  | acknowledgeTrip =>
    unfold ownAcknowledgeTrip
    split
    · exact h
    next free =>
      split
      next latched =>
        have free := forall_of_firstOf_none free
        simp only [List.forall_mem_cons, Option.isSome_eq_false_iff, Option.isNone_iff_eq_none, firstIn_eq_none] at free
        have trip := h.1.1 latched
        exact recomputeStage_lawful (s := { s with dust := { s.dust with tripLatch := none } })
          ⟨(h.stageReady (now := 0) rfl rfl id).still, fun hs => by simp [trip] at hs, fun _ => .inr free.2.2.1⟩
      · exact h
  | writeCalibration z sp b =>
    obtain e | e := ownWriteCalibration_cases z sp b s <;> rw [e] <;> exact h
  | calibrationRequest z sp b u =>
    cases u with
    | false => exact h
    | true =>
      obtain e | e := ownWriteCalibration_cases z sp b (setCalUnlock true s) <;>
        simp only [calibrationRequest, if_true, e] <;> exact h
  | _ => exact dustLawful_of_eq h (by simp) (by simp)

/-- A millisecond keeps running timers running. -/
theorem tick_dustLawful {s : State} (h : DustLawful s) : DustLawful (tick s) := by
  unfold tick
  split
  · obtain ⟨trip, fault, stage, high, out⟩ := h
    exact ⟨trip, fault, stage, by simpa [advance_eq_map] using high, out⟩
  · exact h

theorem dustLaw_of_running {s : State} (h : DustLawful s) (hr : s.phase = .running) : DustLaw s :=
  ⟨h, fun hc => by rw [hr] at hc; cases hc⟩

theorem dustLaw_of_eq {s t : State} (h : DustLaw s) (dust : t.dust = s.dust) (phase : t.phase = s.phase)
    (mask : t.store.settings.mask = s.store.settings.mask) : DustLaw t :=
  ⟨dustLawful_of_eq h.1 dust mask, fun hc => dust ▸ h.2 (phase ▸ hc)⟩

theorem coldStart_dustLaw (s : State) : DustLaw (coldStart s) := ⟨Dust.cold_lawful _, fun _ => rfl⟩

theorem monitorNotice_dustLawful (c : Consumer) {s : State} (h : DustLawful s) :
    DustLawful (takeFaultNotice c s) ∧ DustLawful (takeGoodNotice c s) := by
  cases c with
  | weigher => exact ⟨dustLawful_of_eq h (by simp [takeFaultNotice, weigherLosesReference]; split <;> rfl) (by simp),
      dustLawful_of_eq h (by simp [takeGoodNotice]; split <;> rfl) (by simp)⟩
  | monitor =>
    constructor
    · unfold takeFaultNotice
      dsimp only
      split <;> exact h
    · unfold takeGoodNotice
      dsimp only
      split <;> exact h

theorem dustLaw_kept : Kept DustLaw DustLaw where
  base _ h := h
  queue _ _ h := h
  answer _ _ h := h
  tick s h := ⟨tick_dustLawful h.1, fun hc => by
    have cold : s.phase = .cold := by simpa using hc
    rw [tick_of_cold cold]
    exact h.2 cold⟩
  owner s f hf hr h := dustLaw_of_running (dustLawful_owner hf h.1) (by cases hf <;> simpa using hr)
  pins s c p f hc h := by
    cases hc <;> exact dustLaw_of_eq h (by simp) (by simp) (by simp)
  arrival s c p f hc hr h := by
    cases hc with
    | takeRequest st u =>
      exact takeHead_keeps (pre := fun s => s.phase = .running ∧ DustLaw s) (fun _ h => h.2) (fun _ _ h => h)
        (fun _ _ _ h => h) (fun _ _ _ h => dustLaw_of_eq h (by simp) (by simp) (by simp))
        (fun s f hf hr h => dustLaw_of_running (dustLawful_owner hf h.2.1) (by cases hf <;> simpa using hr)) hr ⟨hr, h⟩
    | frameComplete st chars =>
      exact takeCharacters_keeps (law := DustLaw)
        (fun t b ht => dustLaw_of_eq ht (by simp) (by simp) (by simp)) chars h
    | dGroupArrival =>
      exact dustLaw_of_running (by simpa [DustLawful] using takeDGroup_dustLawful h.1) (by simpa using hr)
    | highHoldExpiry =>
      exact dustLaw_of_running (by simpa [DustLawful] using highHoldExpires_dustLawful h.1) (by simpa using hr)
    | referenceTimerExpiry =>
      exact dustLaw_of_running (by simpa [DustLawful] using referenceTimerExpires_dustLawful h.1) (by simpa using hr)
    | referenceFaultNotice c => exact dustLaw_of_running (monitorNotice_dustLawful c h.1).1 (by simpa using hr)
    | referenceGoodNotice c => exact dustLaw_of_running (monitorNotice_dustLawful c h.1).2 (by simpa using hr)
    | _ => exact dustLaw_of_eq h (by simp) (by simp) (by simp)
  cold s _ := coldStart_dustLaw s
  reset s _ := coldStart_dustLaw s
  recover s hc h := dustLaw_of_running (by
    have : (recover s).dust = Dust.cold := by simp [recover, completeRecovery, recoveredTo, h.2 hc]
    unfold DustLawful
    rw [this]
    exact Dust.cold_lawful _) (by simp [recover, completeRecovery, startClocks])
  abandon s p _ _ := coldStart_dustLaw _

/-- Settles O54. -/
theorem dustLawIsKept : Obligations.DustLawIsKept := dustLaw_kept.keeps

end Sys2Proof.Machine

end

section
/-! The notice of a changed loader stage (R51, R115, R122, R123, R132): what the recomputation of the stage makes of the
monitor, the governor and the events. -/

namespace Sys2Proof.Machine

open Sys2Proof

/-! ### The ceiling -/

/-- The ceiling recomputed, said of the governor. -/
theorem recomputeCeiling_under (s : State) :
    recomputeCeiling s = { s with governor := s.governor.under (ceilingNow s) } := by
  rw [recomputeCeiling_eq]
  simp only [duty, and_comm]

/-- The terms of the ceiling (R115). -/
theorem ceilingNow_congr {s t : State} (maximum : activeMaximum t = activeMaximum s)
    (requested : t.governor.requested = s.governor.requested) (stage : t.dust.stage = s.dust.stage)
    (settings : t.store.settings = s.store.settings)
    (dribble : t.governor.state = .dribble ↔ s.governor.state = .dribble) : ceilingNow t = ceilingNow s := by
  unfold ceilingNow
  simp only [maximum, requested, stage, settings, dribble]

theorem activeMaximum_congr {s t : State} (h : t.plan = s.plan) : activeMaximum t = activeMaximum s := by
  unfold activeMaximum
  rw [h]

/-- The governor under a ceiling dribbles exactly when it did. -/
theorem under_dribble (g : Governor) (c : Nat) : (g.under c).state = .dribble ↔ g.state = .dribble := by
  dsimp only
  split <;> simp_all

/-! ### The stage notice -/

/-- A stage that stops feed, taken while feeding, pauses the governor for DUST (R122, R123). -/
theorem stageNotice_of_feeding {s : State} (stops : s.dust.stage = .high ∨ s.dust.stage = .trip)
    (feeding : s.governor.state.feeding = true) : stageNotice s = { s with
      governor := { s.governor.pausedFor .dust (feedCeiling s (activeMaximum s)) with
        beltPermit := s.dust.stage != .trip && !s.pins.estop }
      events := s.events.raise (.feedPaused .dust) } := by
  unfold stageNotice
  rw [if_pos stops, pauseCause_feeding _ _ feeding, recomputeCeiling_of_level_zero _ rfl (by simp),
    ceilingNow_of_not_dribble _ (by simp)]
  rfl

/-- The governor with a DUST cause taken outside the feeding states, or none taken (R123). -/
def Governor.notedDust (g : Governor) (stops : Prop) [Decidable stops] : Governor :=
  { g with
    pauseSet := if stops ∧ g.state = .paused then g.pauseSet.add .dust else g.pauseSet
    clean := if stops ∧ g.state = .cutoff then false else g.clean }

/-- The pause that a stage notice outside the feeding states makes: a reason that was not in the set is raised (R122, R123). -/
theorem dustPause_of_not_feeding {s : State}
    (h : ¬ ((s.dust.stage = .high ∨ s.dust.stage = .trip) ∧ s.governor.state.feeding = true)) :
    (if s.dust.stage = .high ∨ s.dust.stage = .trip then pauseCause .dust s else s) = { s with
      governor := s.governor.notedDust (s.dust.stage = .high ∨ s.dust.stage = .trip)
      events := if (s.dust.stage = .high ∨ s.dust.stage = .trip) ∧ s.governor.state = .paused ∧
        s.governor.pauseSet.dust = false then s.events.raise (.feedPaused .dust) else s.events } := by
  by_cases stops : s.dust.stage = .high ∨ s.dust.stage = .trip
  · rw [if_pos stops]
    cases hs : s.governor.state with
    | idle => rw [pauseCause_idle _ _ hs]; simp [Governor.notedDust, hs]; rw [← hs]
    | cutoff => rw [pauseCause_cutoff _ _ hs]; simp [Governor.notedDust, hs, stops]
    | paused =>
      rw [pauseCause_paused _ _ hs]
      cases hd : s.governor.pauseSet.dust with
      | true =>
        have same : s.governor.pauseSet.add .dust = s.governor.pauseSet := by
          simp [PauseSet.add, ← hd]
        simp [Governor.notedDust, hs, PauseSet.has, hd, same]
        rw [← hs]
      | false => simp [Governor.notedDust, hs, PauseSet.has, hd, stops]
    | _ => exact absurd ⟨stops, by rw [hs]; rfl⟩ h
  · simp [Governor.notedDust, stops]

theorem stageNotice_of_not_feeding {s : State}
    (h : ¬ ((s.dust.stage = .high ∨ s.dust.stage = .trip) ∧ s.governor.state.feeding = true)) :
    stageNotice s = { s with
      governor := { (s.governor.notedDust (s.dust.stage = .high ∨ s.dust.stage = .trip)).under (ceilingNow s) with
        beltPermit := s.dust.stage != .trip && !s.pins.estop }
      events := if (s.dust.stage = .high ∨ s.dust.stage = .trip) ∧ s.governor.state = .paused ∧
        s.governor.pauseSet.dust = false then s.events.raise (.feedPaused .dust) else s.events } := by
  unfold stageNotice
  rw [dustPause_of_not_feeding h, recomputeCeiling_under]
  rfl

/-- What a stage notice raises. -/
theorem stageNotice_events (s : State) : (stageNotice s).events =
    if (s.dust.stage = .high ∨ s.dust.stage = .trip) ∧ (s.governor.state.feeding = true ∨
      (s.governor.state = .paused ∧ s.governor.pauseSet.dust = false)) then s.events.raise (.feedPaused .dust)
    else s.events := by
  by_cases hf : (s.dust.stage = .high ∨ s.dust.stage = .trip) ∧ s.governor.state.feeding = true
  · rw [stageNotice_of_feeding hf.1 hf.2]
    exact (if_pos ⟨hf.1, .inl hf.2⟩).symm
  · rw [stageNotice_of_not_feeding hf]
    refine if_congr (and_congr_right fun stops => ?_) rfl rfl
    have still : s.governor.state.feeding ≠ true := fun h => hf ⟨stops, h⟩
    simp [still]

/-! ### The recomputation of the stage -/

/-- A stage that does not change gives no notice (R51). -/
theorem recomputeStage_of_same {s : State} (h : (s.dust.recompute s.store.settings.mask).stage = s.dust.stage) :
    recomputeStage s = { s with dust := s.dust.recompute s.store.settings.mask } :=
  if_pos h

/-- A change gives the notice and raises DUST_STAGE (R51). -/
theorem recomputeStage_of_changed {s : State} (h : (s.dust.recompute s.store.settings.mask).stage ≠ s.dust.stage) :
    recomputeStage s = raise (.dustStage (s.dust.recompute s.store.settings.mask).stage)
      (stageNotice { s with dust := s.dust.recompute s.store.settings.mask }) :=
  if_neg h

/-- The recomputation leaves all but the monitor, the governor and the events. -/
theorem recomputeStage_eq (s : State) : recomputeStage s = { s with
    dust := (recomputeStage s).dust, governor := (recomputeStage s).governor, events := (recomputeStage s).events } := by
  have h := recomputeStage_frame s
  generalize recomputeStage s = t at h
  obtain ⟨_, _, _, _, _, _, _, _, _, _, _, _, _, _⟩ := t
  simp_all

/-- What the recomputation makes of the loader stage, the timer, the outputs, the governor and the events. -/
theorem stageFollows_recomputeStage (s : State) : StageFollows s (recomputeStage s) := by
  have mask : (recomputeStage s).store.settings.mask = s.store.settings.mask := by simp
  have feed (m : Option Nat) :
      feedCeiling (recomputeStage s) m = feedCeiling { s with dust := (recomputeStage s).dust } m := by
    simp [feedCeiling]
  obtain ⟨spout, boom, tower, gallery⟩ := recompute_suppress s.dust s.store.settings.mask
  unfold StageFollows
  rw [mask]
  refine ⟨?_, fun h => ?_, ?_, ?_, ?_, ?_, ?_, fun h => ?_, fun hc hs hf => ?_, fun hc hn => ?_, ?_⟩
  · exact recomputeStage_dust s ▸ recompute_stage_of_latched
  · simp only [recomputeStage_dust, someIn_recompute] at h ⊢
    exact recompute_stage_of_clear h
  · rw [recomputeStage_dust, recompute_highHold]
    rfl
  · rwa [recomputeStage_dust]
  · rwa [recomputeStage_dust]
  · rwa [recomputeStage_dust]
  · rwa [recomputeStage_dust]
  · rw [recomputeStage_dust] at h
    rw [recomputeStage_of_same (not_not.1 h)]
  · rw [feed]
    rw [recomputeStage_dust] at hc hs ⊢
    rw [recomputeStage_of_changed hc]
    exact congrArg State.governor
      (stageNotice_of_feeding (s := { s with dust := s.dust.recompute s.store.settings.mask }) hs hf)
  · rw [recomputeStage_dust] at hc hn ⊢
    have e := congrArg State.governor
      (stageNotice_of_not_feeding (s := { s with dust := s.dust.recompute s.store.settings.mask }) hn)
    have ceiling : ceilingNow (recomputeStage s) = ceilingNow { s with dust := s.dust.recompute s.store.settings.mask } :=
      ceilingNow_congr (activeMaximum_congr (by simp)) (by simp) (by simp) (by simp) (by
        rw [recomputeStage_of_changed hc]
        change (stageNotice _).governor.state = _ ↔ _
        rw [e]
        exact under_dribble _ _)
    rw [ceiling, recomputeStage_of_changed hc]
    exact e
  · rw [recomputeStage_dust]
    by_cases hc : (s.dust.recompute s.store.settings.mask).stage = s.dust.stage
    · simp [recomputeStage_of_same hc, hc]
    · rw [recomputeStage_of_changed hc]
      change (stageNotice _).events.raise _ = _
      rw [stageNotice_events]
      split
      next stops => simp only [ne_eq, hc, not_false_eq_true, true_and, if_pos stops]; rfl
      next stops => simp only [ne_eq, hc, not_false_eq_true, true_and, if_neg stops]; rfl

/-- Of the state before, what follows a recomputation looks at the loader stage, the high-hold timer, the governor, the plan,
ESTOP and the events. -/
theorem StageFollows.congr {s s' t : State} (h : StageFollows s' t) (stage : s.dust.stage = s'.dust.stage)
    (timer : s.dust.highHold = s'.dust.highHold) (governor : s.governor = s'.governor) (plan : s.plan = s'.plan)
    (pins : s.pins = s'.pins) (events : s.events = s'.events) : StageFollows s t := by
  unfold StageFollows at *
  rw [stage, timer, governor, pins, events, activeMaximum_congr plan]
  exact h

/-! ### Trips -/

/-- With the latch set, the monitor's recomputation gives TRIP, stops the timer out of HIGH and puts every output on (R51, R54,
R56). -/
theorem recompute_of_latched {d : Dust} (mask : BitVec 8) (h : d.tripLatch.isSome = true)
    (still : d.stage ≠ .high → d.highHold = none) : d.recompute mask = { d with
      highHold := none, stage := .trip, suppress := { spout := true, boom := true, tower := true, gallery := true } } := by
  have timer : nextHighHold d.stage .trip d.highHold = none := by
    unfold nextHighHold
    by_cases hs : d.stage = .high
    · simp [hs]
    · simp [hs, still hs]
  unfold Dust.recompute
  simp only [latchOnTrip_of_latched h, Dust.computedStage, Dust.outputs, h, if_true, Bool.true_or, timer]

/-- The governor's part of what a stage that stops feed leads to, at a change of the stage (R122, R123, R132). -/
theorem StageFollows.governor_of_trip {s t : State} (h : StageFollows s t) (trip : t.dust.stage = .trip) :
    t.governor.state = (if s.governor.state.feeding = true ∧ s.dust.stage ≠ .trip then .paused else s.governor.state) ∧
    (s.governor.state.feeding = true → s.dust.stage ≠ .trip →
      t.governor.feedPermit = false ∧ t.governor.level = 0 ∧ t.governor.dutyStaged = 0 ∧ t.governor.tail = 0 ∧
      t.governor.pauseSet = s.governor.pauseSet.add .dust) ∧
    t.governor.beltPermit = (if s.dust.stage = .trip then s.governor.beltPermit else false) := by
  obtain ⟨-, -, -, -, -, -, -, same, paused, noted, -⟩ := h
  by_cases hc : s.dust.stage = .trip
  · rw [same (by simp [trip, hc])]
    simp [hc]
  · have changed : t.dust.stage ≠ s.dust.stage := trip ▸ Ne.symm hc
    by_cases hf : s.governor.state.feeding = true
    · rw [paused changed (.inr trip) hf]
      simp [hf, hc, trip]
    · rw [noted changed (fun h => hf h.2)]
      have notRunning : s.governor.state ≠ .running := fun h => hf (by rw [h]; rfl)
      simp [hf, hc, trip, notRunning]

/-- A trip cause taken, and the recomputation that follows it. -/
theorem recomputeStage_setTrip_dust (cause : TripCause) {s : State} (h : s.dust.stage ≠ .high → s.dust.highHold = none) :
    (recomputeStage (setTrip cause s)).dust = { s.dust with
      highHold := none
      tripLatch := if s.dust.tripLatch.isSome then s.dust.tripLatch else some cause
      stage := .trip, suppress := { spout := true, boom := true, tower := true, gallery := true } } := by
  rw [recomputeStage_dust, setTrip_dust, recompute_of_latched]
  · dsimp only
    split <;> simp_all
  · exact h

/-- What Acknowledge Trip tests (R55). -/
theorem ownAcknowledgeTrip_eq (s : State) : ownAcknowledgeTrip s =
    if s.dust.reference = .fault then (s, answerNotReady .referenceFault)
    else if s.dust.someIn s.store.settings.mask .fault then (s, answerNotReady .channelFault)
    else if s.dust.someIn s.store.settings.mask .high then (s, answerNotReady .channelHigh)
    else if s.dust.tripLatch.isSome then
      (recomputeStage { s with dust := { s.dust with tripLatch := none } }, answerOk [])
    else (s, answerOk []) := by
  unfold ownAcknowledgeTrip
  simp only [firstOf, firstIn_isSome, beq_iff_eq]
  by_cases hr : s.dust.reference = .fault
  · simp only [hr, if_true]
  by_cases hf : s.dust.someIn s.store.settings.mask .fault
  · simp only [hr, hf, if_false, if_true]
  by_cases hh : s.dust.someIn s.store.settings.mask .high
  · simp only [hr, hf, hh, if_false, if_true]
  · simp only [hr, hf, hh, if_false]

/-- The outcome of a timer of the monitor, whose expiry puts a trip cause to a monitor `u` that differs from that of `s` in
its timers. -/
theorem trip_outcome (cause : TripCause) {s u : State} (high : Option Nat) (timer : Option Nat)
    (hu : u = { s with dust := { s.dust with highHold := high, referenceTimer := timer } })
    (still : s.dust.stage ≠ .high → high = none) :
    let t := recomputeStage (setTrip cause u)
    t.dust = { s.dust with
      highHold := none, referenceTimer := timer
      tripLatch := if s.dust.tripLatch.isSome then s.dust.tripLatch else some cause
      stage := .trip, suppress := { spout := true, boom := true, tower := true, gallery := true } } ∧
    t.governor.state = (if s.governor.state.feeding = true ∧ s.dust.stage ≠ .trip then .paused
      else s.governor.state) ∧
    (s.governor.state.feeding = true → s.dust.stage ≠ .trip →
      t.governor.feedPermit = false ∧ t.governor.level = 0 ∧ t.governor.dutyStaged = 0 ∧ t.governor.tail = 0 ∧
      t.governor.pauseSet = s.governor.pauseSet.add .dust) ∧
    t.governor.beltPermit = (if s.dust.stage = .trip then s.governor.beltPermit else false) ∧
    t.events = ([Event.dustTrip cause] ++
      (if s.dust.stage ≠ .trip ∧ (s.governor.state.feeding = true ∨
        (s.governor.state = .paused ∧ s.governor.pauseSet.dust = false)) then [Event.feedPaused .dust] else []) ++
      (if s.dust.stage ≠ .trip then [Event.dustStage .trip] else [])).foldl (fun x e => x.raise e) s.events ∧
    t = { s with dust := t.dust, governor := t.governor, events := t.events } := by
  subst hu
  intro t
  have dust := recomputeStage_setTrip_dust cause
    (s := { s with dust := { s.dust with highHold := high, referenceTimer := timer } }) still
  have trip : t.dust.stage = .trip := by rw [dust]
  have follows : StageFollows _ t := stageFollows_recomputeStage _
  obtain ⟨state, gate, permit⟩ := follows.governor_of_trip trip
  obtain ⟨-, -, -, -, -, -, -, -, -, -, events⟩ := follows
  refine ⟨dust, state, gate, permit, ?_, recomputeStage_eq _⟩
  rw [events, trip]
  have raised : (setTrip cause { s with dust := { s.dust with highHold := high, referenceTimer := timer } }).events =
    s.events.raise (.dustTrip cause) := rfl
  have stage : (setTrip cause { s with dust := { s.dust with highHold := high, referenceTimer := timer } }).dust.stage =
    s.dust.stage := rfl
  have governor : (setTrip cause { s with dust := { s.dust with highHold := high, referenceTimer := timer } }).governor =
    s.governor := rfl
  rw [raised, stage, governor]
  by_cases hs : s.dust.stage = .trip
  · simp [hs]
  · simp [hs, Ne.symm hs]

/-- Settles O41. -/
theorem tripsAndTheirAcknowledgement : Obligations.TripsAndTheirAcknowledgement := by
  intro s hr law mask
  obtain ⟨lawful, -⟩ := law
  have still : s.dust.stage ≠ .high → s.dust.highHold = none := (lawful.stageReady (now := 0) rfl rfl id).still
  have acknowledged : exec .acknowledgeTrip s = _ := exec_request_of_running .acknowledgeTrip hr
  rw [ownAcknowledgeTrip_eq] at acknowledged
  refine ⟨fun c cause h => ?_, fun h => ?_, fun h => ?_, fun hf => ?_, fun hg hc => ?_, fun hg hf hc => ?_,
    fun hg hf hh hl => ?_, fun hg hf hh hl => ?_⟩
  · obtain ⟨rfl, rfl, running⟩ | ⟨rfl, rfl, running⟩ := h
    · refine ⟨_, (exec_arrival_of_running .highHoldExpiry hr).trans (congrArg _ (if_pos running)), ?_⟩
      exact trip_outcome .holdTime none s.dust.referenceTimer rfl fun _ => rfl
    · refine ⟨_, (exec_arrival_of_running .referenceTimerExpiry hr).trans (congrArg _ (if_pos running)), ?_⟩
      exact trip_outcome .reference s.dust.highHold none rfl still
  · refine (exec_arrival_of_running .highHoldExpiry hr).trans (congrArg _ (if_neg ?_))
    simp [h]
  · refine (exec_arrival_of_running .referenceTimerExpiry hr).trans (congrArg _ (if_neg ?_))
    simp [h]
  · rw [acknowledged, if_pos hf]
    rfl
  · rw [acknowledged, if_neg (by simp [hg]), if_pos hc]
    rfl
  · rw [acknowledged, if_neg (by simp [hg]), if_neg hf, if_pos hc]
    rfl
  · rw [acknowledged, if_neg (by simp [hg]), if_neg hf, if_neg hh, if_neg (by simp [hl])]
    rfl
  · rw [if_neg (by simp [hg]), if_neg hf, if_neg hh, if_pos hl] at acknowledged
    have was : s.dust.stage = .trip := lawful.1.1 hl
    have latch : (recomputeStage { s with dust := { s.dust with tripLatch := none } }).dust.tripLatch = none := by
      rw [recomputeStage_dust, recompute_tripLatch, latchOnTrip_of_clear rfl]
      simp only [Option.map_eq_none_iff]
      exact firstIn_eq_none.2 hf
    have stage : (recomputeStage { s with dust := { s.dust with tripLatch := none } }).dust.stage =
        if s.dust.someIn mask .warn then .warn else .clear := by
      rw [recomputeStage_dust] at latch ⊢
      rw [recompute_stage_of_clear latch]
      exact if_neg hh
    have eq := recomputeStage_eq { s with dust := { s.dust with tripLatch := none } }
    obtain ⟨-, -, -, -, -, -, -, -, -, noted, events⟩ :=
      stageFollows_recomputeStage { s with dust := { s.dust with tripLatch := none } }
    have channels : (recomputeStage { s with dust := { s.dust with tripLatch := none } }).dust.channels =
        s.dust.channels := by
      rw [recomputeStage_dust, recompute_channels]
    generalize recomputeStage { s with dust := { s.dust with tripLatch := none } } = t at *
    have changed : t.dust.stage ≠ s.dust.stage := by
      rw [stage, was]
      split_ifs <;> decide
    have quiet : ¬ (t.dust.stage = .high ∨ t.dust.stage = .trip) := by
      rw [stage]
      split_ifs <;> decide
    have governor : t.governor = { s.governor.under (ceilingNow t) with
        beltPermit := t.dust.stage != .trip && !s.pins.estop } := by
      simpa [quiet] using noted changed (fun h => quiet h.1)
    refine ⟨_, acknowledged, rfl, latch, channels, ?_, ?_, ?_, ?_, fun still => ?_, ?_, ?_⟩
    · rw [stage]
      split_ifs with hw
      · exact iff_of_true rfl hw
      · exact iff_of_false nofun hw
    · rw [stage]
      split_ifs with hw
      · exact iff_of_false nofun (not_not.2 hw)
      · exact iff_of_true rfl hw
    · rw [governor, stage]
      split_ifs <;> rfl
    · rw [governor]
    · have : s.governor.state ≠ .running := fun h => by simp [h, GovernorState.feeding] at still
      rw [governor]
      simp [this]
    · rw [if_neg (fun h => quiet h.2.1), if_pos changed] at events
      exact events
    · rw [eq]

end Sys2Proof.Machine

end

section
/-! A D group at the monitor (R40, R44 to R49): what each of its codes makes of its channel, and with it of the latch and
the events. -/

namespace Sys2Proof.Machine

open Sys2Proof

/-! ### One code -/

/-- A channel with a code taken: the last code, and a sample where it is enabled (R40). -/
def sampled (s : State) (c : ChannelNo) (code : Code) : Channel :=
  let ch := { s.dust.channels.get c with lastCode := some code }
  if enabled s.store.settings.mask c then
    ch.sample (s.store.settings.channels.get c) s.store.settings.qualification code
  else ch

/-- A code brings its channel into FAULT (R48). -/
def entersFault (s : State) (c : ChannelNo) (code : Code) : Bool :=
  enabled s.store.settings.mask c && (s.dust.channels.get c).stage != .fault && (sampled s c code).stage == .fault

/-- What a code does: its channel, and a trip cause where the channel enters FAULT (R40, R48). -/
theorem takeCode_eq (c : ChannelNo) (code : Code) (s : State) : takeCode c code s =
    if entersFault s c code then setTrip (.channel c) (setChannel c (sampled s c code) s)
    else setChannel c (sampled s c code) s := by
  unfold takeCode entersFault sampled
  dsimp only
  by_cases he : enabled s.store.settings.mask c = true
  · rw [if_pos he, if_pos he]
    exact if_congr (by simp [he]) rfl rfl
  · rw [if_neg he, if_neg he]
    simp [he]

section
variable (c : ChannelNo) (code : Code) (s : State)

theorem takeCode_get_self : (takeCode c code s).dust.channels.get c = sampled s c code := by
  rw [takeCode_eq]
  split
  · exact setChannel_get_self _ _ _
  · exact setChannel_get_self _ _ _

theorem takeCode_get_ne {d : ChannelNo} (h : d ≠ c) :
    (takeCode c code s).dust.channels.get d = s.dust.channels.get d := by
  rw [takeCode_eq]
  split
  · exact setChannel_get_ne _ _ _ _ h
  · exact setChannel_get_ne _ _ _ _ h

/-- A code that brings its channel into FAULT raises it (R48, R54). -/
theorem takeCode_events : (takeCode c code s).events =
    if entersFault s c code then s.events.raise (.dustTrip (.channel c)) else s.events := by
  rw [takeCode_eq]
  split <;> rfl

/-- A code that brings its channel into FAULT sets a clear latch (R54). -/
theorem takeCode_tripLatch : (takeCode c code s).dust.tripLatch =
    s.dust.tripLatch.or (if entersFault s c code then some (.channel c) else none) := by
  rw [takeCode_eq]
  split
  · change (if s.dust.tripLatch.isSome then s.dust.tripLatch else _) = _
    cases s.dust.tripLatch <;> rfl
  · exact Option.or_none.symm

theorem sampled_takeCode {d : ChannelNo} (h : d ≠ c) (code' : Code) :
    sampled (takeCode c code s) d code' = sampled s d code' := by
  unfold sampled
  rw [takeCode_get_ne c code s h]
  simp

theorem entersFault_takeCode {d : ChannelNo} (h : d ≠ c) (code' : Code) :
    entersFault (takeCode c code s) d code' = entersFault s d code' := by
  unfold entersFault
  rw [takeCode_get_ne c code s h, sampled_takeCode c code s h]
  simp

end

/-! ### The codes of a group -/

/-- Codes taken for several channels, in order. -/
def takeCodes (l : List (ChannelNo × Code)) (s : State) : State := l.foldl (fun s p => takeCode p.1 p.2 s) s

theorem takeCodes_cons (p : ChannelNo × Code) (l : List (ChannelNo × Code)) (s : State) :
    takeCodes (p :: l) s = takeCodes l (takeCode p.1 p.2 s) := rfl

theorem takeGroup_eq (c0 c1 c2 c3 : ChannelNo) (q : Quad) (s : State) :
    takeGroup c0 c1 c2 c3 q s = takeCodes [(c0, q.c0), (c1, q.c1), (c2, q.c2), (c3, q.c3)] s := rfl

section
variable {l : List (ChannelNo × Code)} (s : State)

theorem takeCodes_get_of_not_mem {c : ChannelNo} (h : ∀ p ∈ l, p.1 ≠ c) :
    (takeCodes l s).dust.channels.get c = s.dust.channels.get c := by
  induction l generalizing s with
  | nil => rfl
  | cons p l ih =>
    obtain ⟨hp, hl⟩ := List.forall_mem_cons.1 h
    rw [takeCodes_cons, ih _ hl, takeCode_get_ne _ _ _ (Ne.symm hp)]

theorem takeCodes_get_of_mem (h : l.Pairwise (fun p q => p.1 < q.1)) {c : ChannelNo} {code : Code} (hm : (c, code) ∈ l) :
    (takeCodes l s).dust.channels.get c = sampled s c code := by
  induction l generalizing s with
  | nil => cases hm
  | cons p l ih =>
    obtain ⟨hp, hl⟩ := List.pairwise_cons.1 h
    rw [takeCodes_cons]
    obtain rfl | hm := List.mem_cons.1 hm
    · rw [takeCodes_get_of_not_mem _ (fun q hq => (hp q hq).ne'), takeCode_get_self]
    · rw [ih _ hl hm, sampled_takeCode _ _ _ (hp _ hm).ne']

/-- The entries into FAULT are not moved by the codes before them. -/
theorem entersFault_takeCode_of_sorted {p : ChannelNo × Code} (hp : ∀ q ∈ l, p.1 < q.1) :
    ∀ q ∈ l, entersFault (takeCode p.1 p.2 s) q.1 q.2 = entersFault s q.1 q.2 :=
  fun q hq => entersFault_takeCode _ _ _ (hp q hq).ne' _

theorem takeCodes_events (h : l.Pairwise (fun p q => p.1 < q.1)) : (takeCodes l s).events =
    (((l.filter (fun p => entersFault s p.1 p.2)).map (fun p => Event.dustTrip (.channel p.1))).foldl
      (fun x e => x.raise e) s.events) := by
  induction l generalizing s with
  | nil => rfl
  | cons p l ih =>
    obtain ⟨hp, hl⟩ := List.pairwise_cons.1 h
    rw [takeCodes_cons, ih _ hl, List.filter_congr (entersFault_takeCode_of_sorted s hp), takeCode_events]
    by_cases he : entersFault s p.1 p.2 = true
    · rw [if_pos he, List.filter_cons_of_pos (by exact he)]
      rfl
    · rw [if_neg he, List.filter_cons_of_neg (by exact he)]

theorem takeCodes_tripLatch (h : l.Pairwise (fun p q => p.1 < q.1)) : (takeCodes l s).dust.tripLatch =
    s.dust.tripLatch.or ((l.find? (fun p => entersFault s p.1 p.2)).map (fun p => .channel p.1)) := by
  induction l generalizing s with
  | nil => exact Option.or_none.symm
  | cons p l ih =>
    obtain ⟨hp, hl⟩ := List.pairwise_cons.1 h
    have same : l.find? (fun q => entersFault (takeCode p.1 p.2 s) q.1 q.2) = l.find? (fun q => entersFault s q.1 q.2) := by
      rw [← List.head?_filter, List.filter_congr (entersFault_takeCode_of_sorted s hp), List.head?_filter]
    rw [takeCodes_cons, ih _ hl, same, takeCode_tripLatch, Option.or_assoc, List.find?_cons]
    by_cases he : entersFault s p.1 p.2 = true <;> simp [he]

end

/-- Of the monitor the codes leave all but channels and latch. -/
theorem takeCodes_dust (l : List (ChannelNo × Code)) (s : State) : (takeCodes l s).dust = { s.dust with
    channels := (takeCodes l s).dust.channels, tripLatch := (takeCodes l s).dust.tripLatch } := by
  induction l generalizing s with
  | nil => rfl
  | cons p l ih =>
    have one : (takeCode p.1 p.2 s).dust = { s.dust with
        channels := (takeCode p.1 p.2 s).dust.channels, tripLatch := (takeCode p.1 p.2 s).dust.tripLatch } := by
      rw [takeCode_eq]
      split <;> rfl
    rw [takeCodes_cons, ih, one]

/-- The codes leave all but the monitor and the events. -/
theorem takeCodes_eq (l : List (ChannelNo × Code)) (s : State) :
    takeCodes l s = { s with dust := (takeCodes l s).dust, events := (takeCodes l s).events } := by
  induction l generalizing s with
  | nil => rfl
  | cons p l ih =>
    have one : takeCode p.1 p.2 s =
        { s with dust := (takeCode p.1 p.2 s).dust, events := (takeCode p.1 p.2 s).events } := by
      rw [takeCode_eq]
      split <;> rfl
    rw [takeCodes_cons, ih, one]

/-! ### A sample -/

theorem codeInRange_iff (code : Code) : codeInRange code = true ↔ 17 ≤ code.toNat ∧ code.toNat ≤ 4078 := by
  simp [codeInRange]

/-- The stage that a good sample gives (R47). -/
theorem nextStage_of_not_fault (ch : Channel) (q : Nat) (h : ch.stage ≠ .fault) : ch.nextStage q =
    if ch.stage = .high then (if q ≤ ch.highFall then .warn else .high)
    else if q ≤ ch.highRise then .high
    else if ch.stage = .normal then (if q ≤ ch.warnRise then .warn else .normal)
    else if q ≤ ch.warnFall then .normal else .warn := by
  unfold Channel.nextStage
  cases hs : ch.stage with
  | fault => exact absurd hs h
  | _ => simp

section
variable {ch : Channel} {k : ChannelSettings} {q : Nat} {code : Code}

/-- In FAULT, a code out of range restarts the recovery count (R49). -/
theorem sample_of_fault_bad (h : ch.stage = .fault) (hg : ¬ codeInRange code = true) :
    ch.sample k q code = { ch with recoveryCount := 0 } := by
  rw [Channel.sample, if_pos h, Channel.faultSample, if_neg hg]

/-- In FAULT, a code in range counts toward NORMAL (R49). -/
theorem sample_of_fault_counts (h : ch.stage = .fault) (hg : codeInRange code = true)
    (hn : min (ch.recoveryCount + 1) 15 < q) :
    ch.sample k q code = { ch with recoveryCount := min (ch.recoveryCount + 1) 15 } := by
  rw [Channel.sample, if_pos h, Channel.faultSample, if_pos hg, if_neg (by omega)]

/-- In FAULT, the Q-th code in range in a row brings NORMAL (R49). -/
theorem sample_of_fault_returns (h : ch.stage = .fault) (hg : codeInRange code = true)
    (hn : q ≤ min (ch.recoveryCount + 1) 15) : ch.sample k q code =
      { ch.restartLevels with stage := .normal, recoveryCount := 0, refillPending := true } := by
  rw [Channel.sample, if_pos h, Channel.faultSample, if_pos hg, if_pos hn]

/-- Outside FAULT, a code out of range counts toward it (R48). -/
theorem sample_of_bad_counts (h : ch.stage ≠ .fault) (hg : ¬ codeInRange code = true) (hn : min (ch.faultCount + 1) 15 < q) :
    ch.sample k q code = { ch with faultCount := min (ch.faultCount + 1) 15 } := by
  rw [Channel.sample, if_neg h, if_neg hg, Channel.badSample, if_neg (by omega)]

/-- Outside FAULT, the Q-th code out of range in a row brings FAULT (R48). -/
theorem sample_of_bad_enters (h : ch.stage ≠ .fault) (hg : ¬ codeInRange code = true)
    (hn : q ≤ min (ch.faultCount + 1) 15) : ch.sample k q code =
      { ch.restartLevels with stage := .fault, faultCount := 0, recoveryCount := 0 } := by
  rw [Channel.sample, if_neg h, if_neg hg, Channel.badSample, if_pos hn]

/-- Outside FAULT, a code in range is taken as a value, and the level counts give the stage (R45 to R48). -/
theorem sample_of_good (h : ch.stage ≠ .fault) (hg : codeInRange code = true) :
    ch.sample k q code = ch.goodSample k q code := by
  rw [Channel.sample, if_neg h, if_pos hg]

end

/-! ### A group -/

/-- The state with the deliveries left for the monitor. -/
abbrev State.withMonitor (s : State) (rest : List Delivery) : State :=
  { s with converter := { s.converter with toMonitor := rest } }

/-- The codes of a D group with the channels that they are of (R40). -/
def codesOf (k : GroupKind) (q : Quad) : List (ChannelNo × Code) :=
  match k with
  | .d1 => [(0, q.c0), (1, q.c1), (2, q.c2), (3, q.c3)]
  | .d2 => [(4, q.c0), (5, q.c1), (6, q.c2), (7, q.c3)]
  | .w => []

theorem dustGroup_eq {k : GroupKind} (hk : k = .d1 ∨ k = .d2) (q : Quad) (s : State) :
    dustGroup k q s = recomputeStage (takeCodes (codesOf k q) s) := by
  obtain rfl | rfl := hk <;> rfl

theorem codesOf_sorted (k : GroupKind) (q : Quad) : (codesOf k q).Pairwise (fun p r => p.1 < r.1) := by
  cases k <;> simp [codesOf]

theorem mem_codesOf {k : GroupKind} (hk : k = .d1 ∨ k = .d2) (q : Quad) {c : ChannelNo} (hc : c.val < 4 ↔ k = .d1) :
    (c, [q.c0, q.c1, q.c2, q.c3].getD (c.val % 4) 0) ∈ codesOf k q := by
  obtain rfl | rfl := hk <;> fin_cases c <;> simp [codesOf] at hc ⊢

theorem not_mem_codesOf {k : GroupKind} (q : Quad) {c : ChannelNo} (hc : c.val < 4 ↔ k = .d2) :
    ∀ p ∈ codesOf k q, p.1 ≠ c := by
  cases k <;> fin_cases c <;> simp [codesOf] at hc ⊢

/-- A test that fails for the channels of the other half picks out channels of the group. -/
theorem filter_allChannels {k : GroupKind} (hk : k = .d1 ∨ k = .d2) (q : Quad) {P : ChannelNo → Bool}
    (h : ∀ c : ChannelNo, (c.val < 4 ↔ k = .d2) → P c = false) :
    allChannels.filter P = ((codesOf k q).filter (fun p => P p.1)).map Prod.fst := by
  have inGroup : allChannels.filter P = ((codesOf k q).map Prod.fst).filter P := by
    obtain rfl | rfl := hk
    · simp [allChannels, codesOf, List.filter_cons, h 4 (by decide), h 5 (by decide), h 6 (by decide), h 7 (by decide)]
    · simp [allChannels, codesOf, List.filter_cons, h 0 (by decide), h 1 (by decide), h 2 (by decide), h 3 (by decide)]
  rw [inGroup, List.filter_map]
  rfl

section
variable {k : GroupKind} (hk : k = .d1 ∨ k = .d2) (q : Quad) (s : State)

theorem dustGroup_dust : (recomputeStage (takeCodes (codesOf k q) s)).dust =
    (takeCodes (codesOf k q) s).dust.recompute s.store.settings.mask := by
  have mask : (takeCodes (codesOf k q) s).store = s.store := by rw [takeCodes_eq]
  rw [recomputeStage_dust, mask]

/-- A channel of the other half keeps its state. -/
theorem dustGroup_get_other {c : ChannelNo} (hc : c.val < 4 ↔ k = .d2) :
    (recomputeStage (takeCodes (codesOf k q) s)).dust.channels.get c = s.dust.channels.get c := by
  rw [recomputeStage_dust, recompute_channels, takeCodes_get_of_not_mem _ (not_mem_codesOf q hc)]

/-- The channels that entered FAULT are those in FAULT after the group that were not before it. -/
theorem entered_iff {c : ChannelNo} {code : Code} (hm : (c, code) ∈ codesOf k q) : entersFault s c code =
    (enabled s.store.settings.mask c && (s.dust.channels.get c).stage != .fault &&
      ((recomputeStage (takeCodes (codesOf k q) s)).dust.channels.get c).stage == .fault) := by
  rw [recomputeStage_dust, recompute_channels, takeCodes_get_of_mem _ (codesOf_sorted k q) hm]
  rfl

include hk

/-- A channel of the group is sampled. -/
theorem dustGroup_get {c : ChannelNo} (hc : c.val < 4 ↔ k = .d1) :
    (recomputeStage (takeCodes (codesOf k q) s)).dust.channels.get c =
      sampled s c ([q.c0, q.c1, q.c2, q.c3].getD (c.val % 4) 0) := by
  rw [recomputeStage_dust, recompute_channels, takeCodes_get_of_mem _ (codesOf_sorted k q) (mem_codesOf hk q hc)]

/-- The trips that a group raises, in channel order (R48). -/
theorem dustGroup_trips : (takeCodes (codesOf k q) s).events =
    ((allChannels.filter (fun c => enabled s.store.settings.mask c && (s.dust.channels.get c).stage != .fault &&
      ((recomputeStage (takeCodes (codesOf k q) s)).dust.channels.get c).stage == .fault)).map
        (fun c => Event.dustTrip (.channel c))).foldl (fun x e => x.raise e) s.events := by
  rw [takeCodes_events _ (codesOf_sorted k q), filter_allChannels hk q, List.map_map,
    List.filter_congr fun p hp => entered_iff q s (c := p.1) (code := p.2) hp]
  · rfl
  · intro c hc
    rw [dustGroup_get_other q s hc]
    cases (s.dust.channels.get c).stage <;> simp

end

section
variable {k : GroupKind} (hk : k = .d1 ∨ k = .d2) (q : Quad) (s : State)

/-- A latch set before a group stands (R54). -/
theorem dustGroup_latch_of_set (h : s.dust.tripLatch.isSome = true) :
    (recomputeStage (takeCodes (codesOf k q) s)).dust.tripLatch = s.dust.tripLatch := by
  have set : (takeCodes (codesOf k q) s).dust.tripLatch = s.dust.tripLatch := by
    rw [takeCodes_tripLatch _ (codesOf_sorted k q)]
    cases hl : s.dust.tripLatch <;> simp_all
  rw [recomputeStage_dust, recompute_tripLatch, latchOnTrip_of_latched (by rw [set]; exact h), set]

/-- An enabled channel in FAULT after a group holds the latch. -/
theorem dustGroup_latch_of_fault {c : ChannelNo} (he : enabled s.store.settings.mask c = true)
    (hf : ((recomputeStage (takeCodes (codesOf k q) s)).dust.channels.get c).stage = .fault) :
    (recomputeStage (takeCodes (codesOf k q) s)).dust.tripLatch.isSome = true := by
  rw [dustGroup_dust] at hf ⊢
  rw [recompute_channels] at hf
  by_contra hn
  exact (not_fault_of_latchOnTrip (by simpa [recompute_tripLatch] using hn)).2 (someIn_iff.2 ⟨c, he, hf⟩)

/-- A latch clear before a group is clear after it with no enabled channel in FAULT (R54). -/
theorem dustGroup_latch_of_clear (h : s.dust.tripLatch = none)
    (hf : ¬ (recomputeStage (takeCodes (codesOf k q) s)).dust.someIn s.store.settings.mask .fault) :
    (recomputeStage (takeCodes (codesOf k q) s)).dust.tripLatch = none := by
  have none_entered : (codesOf k q).find? (fun p => entersFault s p.1 p.2) = none := by
    refine List.find?_eq_none.2 fun p hp he => hf (someIn_iff.2 ⟨p.1, ?_⟩)
    rw [entered_iff q s (c := p.1) (code := p.2) hp] at he
    simp only [Bool.and_eq_true, beq_iff_eq] at he
    exact ⟨he.1.1, he.2⟩
  have clear : (takeCodes (codesOf k q) s).dust.tripLatch = none := by
    rw [takeCodes_tripLatch _ (codesOf_sorted k q), h, none_entered]
    rfl
  rw [dustGroup_dust] at hf ⊢
  rw [someIn_recompute] at hf
  rw [recompute_tripLatch, latchOnTrip_of_clear clear, firstIn_eq_none.2 hf]
  rfl

include hk

theorem mem_codesOf_of_fault (h : s.dust.tripLatch = none) (lawful : s.dust.Lawful s.store.settings.mask) {c : ChannelNo}
    (he : enabled s.store.settings.mask c = true)
    (hf : ((recomputeStage (takeCodes (codesOf k q) s)).dust.channels.get c).stage = .fault) :
    ∃ code, (c, code) ∈ codesOf k q ∧ entersFault s c code = true := by
  have sound : (s.dust.channels.get c).stage ≠ .fault := fun hs => by
    simpa [h] using lawful.2.1 (someIn_iff.2 ⟨c, he, hs⟩)
  have inGroup : c.val < 4 ↔ k = .d1 := by
    by_contra hn
    rw [dustGroup_get_other q s (by obtain rfl | rfl := hk <;> simp_all)] at hf
    exact sound hf
  have hm := mem_codesOf hk q inGroup
  exact ⟨_, hm, by rw [entered_iff q s hm, hf]; simp [he, sound]⟩

/-- A latch clear before a group takes the first enabled channel in FAULT after it (R54). -/
theorem dustGroup_latch_first (h : s.dust.tripLatch = none) (lawful : s.dust.Lawful s.store.settings.mask) {c : ChannelNo}
    (he : enabled s.store.settings.mask c = true)
    (hf : ((recomputeStage (takeCodes (codesOf k q) s)).dust.channels.get c).stage = .fault)
    (first : ∀ d : ChannelNo, d < c → enabled s.store.settings.mask d = true →
      ((recomputeStage (takeCodes (codesOf k q) s)).dust.channels.get d).stage ≠ .fault) :
    (recomputeStage (takeCodes (codesOf k q) s)).dust.tripLatch = some (.channel c) := by
  obtain ⟨code, hm, entered⟩ := mem_codesOf_of_fault hk q s h lawful he hf
  have found : (codesOf k q).find? (fun p => entersFault s p.1 p.2) = some (c, code) := by
    obtain ⟨before, after, split⟩ := List.append_of_mem hm
    refine List.find?_eq_some_iff_append.2 ⟨entered, before, after, split, fun p hp => ?_⟩
    have sorted := codesOf_sorted k q
    rw [split, List.pairwise_append] at sorted
    have lt : p.1 < c := sorted.2.2 p hp (c, code) (by simp)
    rw [entered_iff q s (c := p.1) (code := p.2) (split ▸ List.mem_append_left _ hp)]
    cases hd : enabled s.store.settings.mask p.1 with
    | false => simp
    | true => rw [beq_eq_false_iff_ne.2 (first p.1 lt hd)]; simp
  have latch : (takeCodes (codesOf k q) s).dust.tripLatch = some (.channel c) := by
    rw [takeCodes_tripLatch _ (codesOf_sorted k q), h, found]
    rfl
  rw [recomputeStage_dust, recompute_tripLatch, latchOnTrip_of_latched (by rw [latch]; rfl), latch]

omit hk in
/-- What follows the channels and the latch after a group; the trips have been raised before. -/
theorem dustGroup_follows : StageFollows { s with events := (takeCodes (codesOf k q) s).events }
    (recomputeStage (takeCodes (codesOf k q) s)) :=
  (stageFollows_recomputeStage _).congr (by rw [takeCodes_dust]) (by rw [takeCodes_dust]) (by rw [takeCodes_eq])
    (by rw [takeCodes_eq]) (by rw [takeCodes_eq]) rfl

omit hk in
/-- A group leaves all but the monitor, the governor and the events, and of the monitor the reference. -/
theorem dustGroup_eq_with : recomputeStage (takeCodes (codesOf k q) s) = { s with
    dust := (recomputeStage (takeCodes (codesOf k q) s)).dust
    governor := (recomputeStage (takeCodes (codesOf k q) s)).governor
    events := (recomputeStage (takeCodes (codesOf k q) s)).events } := by
  rw [recomputeStage_eq, takeCodes_eq]

omit hk in
theorem dustGroup_reference : (recomputeStage (takeCodes (codesOf k q) s)).dust.reference = s.dust.reference ∧
    (recomputeStage (takeCodes (codesOf k q) s)).dust.referenceTimer = s.dust.referenceTimer := by
  have h := recompute_reference (takeCodes (codesOf k q) s).dust s.store.settings.mask
  rw [dustGroup_dust]
  exact ⟨h.1.trans (by rw [takeCodes_dust]), h.2.trans (by rw [takeCodes_dust])⟩

end

/-- Settles O42. -/
theorem dustGroupSamplesItsChannels : Obligations.DustGroupSamplesItsChannels := by
  intro s hr
  refine ⟨fun h => ?_, fun k q rest hk hq => ?_⟩
  · rw [exec_arrival_of_running .dGroupArrival hr]
    unfold takeDGroup
    dsimp only [id]
    split
    next k q rest e => exact absurd e (h k q rest)
    · rfl
  have taken : takeDGroup s =
      recomputeStage (takeCodes (codesOf k q) (s.withMonitor rest)) := by
    unfold takeDGroup
    rw [hq]
    exact dustGroup_eq hk q _
  refine ⟨_, (exec_arrival_of_running .dGroupArrival hr).trans (congrArg _ taken), ?_⟩
  refine ⟨?_, ?_, fun c hc => dustGroup_get_other q _ hc, fun c hc => ?_, ?_⟩
  · rw [dustGroup_eq_with]
  · rw [dustGroup_eq_with]
  · rw [dustGroup_get hk q _ hc]
    unfold sampled
    dsimp only
    obtain ⟨code, hcode⟩ : ∃ code, code = [q.c0, q.c1, q.c2, q.c3].getD (c.val % 4) 0 := ⟨_, rfl⟩
    rw [← hcode]
    refine ⟨fun he => by simp [he], fun he => ?_⟩
    rw [if_pos he]
    simp only [← codeInRange_iff]
    refine ⟨fun hf hg => sample_of_fault_bad hf hg, fun hf hg hn => sample_of_fault_counts hf hg hn,
      fun hf hg hn => sample_of_fault_returns hf hg hn, fun hf hg hn => sample_of_bad_counts hf hg hn,
      fun hf hg hn => ⟨sample_of_bad_enters hf hg hn, ?_⟩, fun hf hg => ?_⟩
    · refine dustGroup_latch_of_fault q _ (c := c) he ?_
      rw [dustGroup_get hk q _ hc, ← hcode, sampled, if_pos he]
      exact congrArg Channel.stage
        (sample_of_bad_enters (ch := { s.dust.channels.get c with lastCode := some code }) hf hg hn)
    · rw [sample_of_good (ch := { s.dust.channels.get c with lastCode := some code }) hf hg]
      exact ⟨rfl, nextStage_of_not_fault _ _ hf⟩
  · have settings : (recomputeStage (takeCodes (codesOf k q) (s.withMonitor rest))).store = s.store := by
      rw [dustGroup_eq_with]
    have plan : (recomputeStage (takeCodes (codesOf k q) (s.withMonitor rest))).plan = s.plan := by
      rw [dustGroup_eq_with]
    obtain ⟨reference, referenceTimer⟩ := dustGroup_reference (k := k) q (s.withMonitor rest)
    obtain ⟨stage, clear, timer, spout, boom, tower, gallery, same, paused, noted, events⟩ :=
      dustGroup_follows (k := k) q (s.withMonitor rest)
    rw [settings] at clear spout boom tower gallery
    have trips := dustGroup_trips hk q (s.withMonitor rest)
    refine ⟨dustGroup_latch_of_set q (s.withMonitor rest), fun hl law =>
      ⟨dustGroup_latch_of_clear q (s.withMonitor rest) hl, fun c he hf first =>
        dustGroup_latch_first hk q (s.withMonitor rest) hl law.1 he hf first⟩, stage, clear,
      timer, reference, referenceTimer, spout, boom, tower, gallery, same, paused, fun hc hn => ?_, ?_⟩
    · have governor := noted hc hn
      have ceiling : ceilingNow (recomputeStage (takeCodes (codesOf k q) (s.withMonitor rest))) =
        if s.governor.state = .dribble then
          min (feedCeiling (recomputeStage (takeCodes (codesOf k q) (s.withMonitor rest))) (activeMaximum s))
            s.store.settings.dribbleLevel
        else feedCeiling (recomputeStage (takeCodes (codesOf k q) (s.withMonitor rest))) (activeMaximum s) := by
        have dribbles : (recomputeStage (takeCodes (codesOf k q) (s.withMonitor rest))).governor.state = .dribble ↔
            s.governor.state = .dribble := by
          rw [governor]
          exact under_dribble _ _
        rw [← activeMaximum_congr plan]
        split
        next h => rw [ceilingNow_of_dribble _ (dribbles.2 h), settings]
        next h => rw [ceilingNow_of_not_dribble _ (mt dribbles.1 h)]
      rw [← ceiling]
      exact governor
    · rw [List.append_assoc, List.foldl_append]
      exact events.trans (congrArg (fun x => List.foldl _ x _) trips)

end Sys2Proof.Machine

end

section
/-! The bills (R146 to R151): what issues one and what takes one out, and that no step changes a stored bill or issues a number
twice. -/

namespace Sys2Proof.Machine

open Sys2Proof

/-- What a step may make of the bills in store and the counter: bills taken out whole, new ones appended with numbers not below
the counter, and the counter never back. -/
structure BillsFollow (bills : List Bill) (counter : Option Nat) (t : State) : Prop where
  lawful : BillLaw t
  appended : ∃ kept new, t.accounts.bills = kept ++ new ∧ kept.Sublist bills ∧
    ∀ b ∈ new, ∃ n ∈ counter, n ≤ b.number
  forward : ∀ m ∈ t.accounts.billCounter, ∃ n ∈ counter, n ≤ m

/-- A lawful state with given bills and counter. -/
abbrev BillsAre (bills : List Bill) (counter : Option Nat) (s : State) : Prop :=
  BillLaw s ∧ s.accounts.bills = bills ∧ s.accounts.billCounter = counter

section
variable {bills : List Bill} {counter : Option Nat} {s t : State}

theorem BillsFollow.of_same (h : BillsAre bills counter s) (hb : t.accounts.bills = s.accounts.bills)
    (hn : t.accounts.billCounter = s.accounts.billCounter) : BillsFollow bills counter t := by
  obtain ⟨lawful, rfl, rfl⟩ := h
  refine ⟨?_, ⟨s.accounts.bills, [], by simp [hb], List.Sublist.refl _, nofun⟩, fun m hm => ⟨m, hn ▸ hm, Nat.le_refl m⟩⟩
  unfold BillLaw Accounts.BillsLawful
  rw [hb, hn]
  exact lawful

theorem BillsFollow.of_follow {u : State} (h : BillsFollow bills counter s) (hb : u.accounts.bills = s.accounts.bills)
    (hn : u.accounts.billCounter = s.accounts.billCounter) : BillsFollow bills counter u := by
  obtain ⟨lawful, appended, forward⟩ := h
  refine ⟨?_, hb ▸ appended, hn ▸ forward⟩
  unfold BillLaw Accounts.BillsLawful
  rw [hb, hn]
  exact lawful

/-- The counter moves on after a bill, to exhaustion at its end (R148). -/
theorem mem_nextBill {n m : Nat} (h : m ∈ nextBill n) : m = n + 1 ∧ n < 4294967295 := by
  unfold nextBill at h
  split at h
  next lt => exact ⟨(Option.some.inj h).symm, lt⟩
  next => cases h

/-- A bill issued takes the counter's number (R147, R148). -/
theorem issueBill_follows {n : Nat} {i : Slot} {b : Bill} (h : BillsAre bills counter s)
    (room : s.accounts.bills.length < 32) (next : s.accounts.billCounter = some n) (number : b.number = n) :
    BillsFollow bills counter (issueBill n i b s) := by
  have hb : (issueBill n i b s).accounts.bills = s.accounts.bills ++ [b] := by
    unfold issueBill
    split <;> rfl
  have hn : (issueBill n i b s).accounts.billCounter = nextBill n := by
    unfold issueBill
    split <;> rfl
  obtain ⟨⟨-, rising, numbers, range⟩, rfl, rfl⟩ := h
  have below (x : Bill) (hx : x ∈ s.accounts.bills) : x.number < n := (numbers x hx).2.2 n next
  obtain ⟨low, high⟩ := range n next
  refine ⟨⟨?_, ?_, ?_, ?_⟩, ⟨_, [b], hb, List.Sublist.refl _, by simp [number, next]⟩, fun m hm => ⟨n, next, ?_⟩⟩
  · rw [hb, List.length_append]
    exact room
  · rw [hb, List.pairwise_append]
    exact ⟨rising, List.pairwise_singleton _ _, by simpa [number] using below⟩
  · rw [hb, hn]
    intro x hx
    obtain hx | rfl : x ∈ s.accounts.bills ∨ x = b := by simpa using hx
    · obtain ⟨ge, le, -⟩ := numbers x hx
      refine ⟨ge, le, fun m hm => ?_⟩
      have := below x hx
      obtain ⟨rfl, -⟩ := mem_nextBill hm
      omega
    · rw [number]
      refine ⟨low, high, fun m hm => ?_⟩
      obtain ⟨rfl, -⟩ := mem_nextBill hm
      omega
  · rw [hn]
    intro m hm
    obtain ⟨rfl, lt⟩ := mem_nextBill hm
    omega
  · obtain ⟨rfl, -⟩ := mem_nextBill (hn ▸ hm)
    omega

/-- A bill released is taken out of the store (R151). -/
theorem ownReleaseBill_follows (n : Nat) (h : BillsAre bills counter s) :
    BillsFollow bills counter (ownReleaseBill n s).1 := by
  unfold ownReleaseBill
  split
  · exact .of_same h rfl rfl
  split
  · obtain ⟨⟨count, rising, numbers, range⟩, rfl, rfl⟩ := h
    have sub : (s.accounts.bills.filter (fun b => b.number != n)).Sublist s.accounts.bills := List.filter_sublist
    exact ⟨⟨sub.length_le.trans count, rising.sublist sub, fun b hb => numbers b (sub.subset hb), range⟩,
      ⟨_, [], (List.append_nil _).symm, sub, nofun⟩, fun m hm => ⟨m, hm, Nat.le_refl m⟩⟩
  · exact .of_same h rfl rfl

theorem ownCloseLot_follows (number : Nat) (h : BillsAre bills counter s) :
    BillsFollow bills counter (ownCloseLot number s).1 := by
  unfold ownCloseLot
  split
  · exact .of_same h rfl rfl
  split
  · exact .of_same h rfl rfl
  split
  · exact .of_same h rfl rfl
  · exact .of_same h rfl rfl
  next n free next =>
    have room := forall_of_firstOf_none free
    simp only [List.forall_mem_cons, decide_eq_false_iff_not] at room
    exact issueBill_follows h (by omega) next rfl

theorem bills_owner {f : State → State × Answer} (hf : Owner f) (h : BillsAre bills counter s) :
    BillsFollow bills counter (f s).1 := by
  cases hf with
  | closeLot number => exact ownCloseLot_follows number h
  | releaseBill n => exact ownReleaseBill_follows n h
  | _ => exact .of_same h (by simp) (by simp)

end

theorem tickSeconds_bills (a : Accounts) : (tickSeconds a).bills = a.bills ∧ (tickSeconds a).billCounter = a.billCounter := by
  unfold tickSeconds
  split <;> exact ⟨rfl, rfl⟩

theorem bills_kept (bills : List Bill) (counter : Option Nat) :
    Kept (BillsAre bills counter) (BillsFollow bills counter) where
  base _ h := .of_same h rfl rfl
  queue _ _ h := h
  answer _ _ h := h.of_follow rfl rfl
  tick _ h := .of_same h (by simp) (by simp)
  owner _ _ hf _ h := bills_owner hf h
  pins s c p f hc h := by cases hc <;> exact .of_same h (by simp) (by simp)
  arrival s c p f hc hr h := by
    cases hc with
    | takeRequest st u =>
      exact takeHead_keeps (fun _ h => .of_same h rfl rfl) (fun _ _ h => h) (fun _ _ _ h => h.of_follow rfl rfl)
        (fun _ _ _ h => h.of_follow (by simp) (by simp)) (fun _ _ hf _ h => bills_owner hf h) hr h
    | frameComplete st chars =>
      exact takeCharacters_keeps (law := BillsFollow bills counter) (fun _ _ h => h.of_follow (by simp) (by simp)) chars
        (.of_same h rfl rfl)
    | secondsTick => exact .of_same h (tickSeconds_bills _).1 (tickSeconds_bills _).2
    | _ => exact .of_same h (by simp) (by simp)
  cold _ h := .of_same h (by simp) (by simp)
  reset _ h := .of_same h (by simp) (by simp)
  recover _ _ h := .of_same h (by simp) (by simp)
  abandon _ _ _ h := .of_same h (by simp) (by simp)

/-- Settles O58. -/
theorem billLawIsKept : Obligations.BillLawIsKept := fun s _ h ht =>
  have ⟨lawful, appended, forward⟩ := (bills_kept s.accounts.bills s.accounts.billCounter).step ⟨h, rfl, rfl⟩ ht
  ⟨lawful, appended, forward⟩

end Sys2Proof.Machine

end

section
/-! The trim moment (R143, R144) and the spout-over hold: what every operation but a discharge to a hold, Close Call and
Write Hatch Entry makes of them. -/

namespace Sys2Proof.Machine

open Sys2Proof

/-- What the moment law looks at. -/
def momentView (s : State) : Vector HatchPage 2 × Vector Nat 8 × Bool × Page × Int × Option Hold :=
  (s.travel.pages, s.accounts.credited, s.plan.callOpen, s.travel.activePage, s.accounts.moment, s.travel.spoutOver)

/-- From `s` to `t` the pages, the credited masses and the call stand; the moment stands with the active page, or is computed
from them; and the spout is over the hold that it was over, over none, or over a hold of the active page. -/
def Follows (s t : State) : Prop :=
  t.travel.pages = s.travel.pages ∧ t.accounts.credited = s.accounts.credited ∧ t.plan.callOpen = s.plan.callOpen ∧
  ((t.travel.activePage = s.travel.activePage ∧ t.accounts.moment = s.accounts.moment) ∨
    t.accounts.moment = momentOf (momentOn t.travel.activeMap t.accounts.credited)) ∧
  (t.travel.spoutOver = s.travel.spoutOver ∨ t.travel.spoutOver = none ∨
    ∃ h p, t.travel.spoutOver = some h ∧ ((s.travel.pages.get p).get h).isSome = true)

theorem Follows.refl (s : State) : Follows s s := ⟨rfl, rfl, rfl, .inl ⟨rfl, rfl⟩, .inl rfl⟩

theorem Follows.of_view {s t u : State} (h : Follows s t) (e : momentView u = momentView t) : Follows s u := by
  simp only [momentView, Prod.mk.injEq] at e
  obtain ⟨pages, credited, call, page, moment, spout⟩ := e
  unfold Follows Travel.activeMap at *
  rw [pages, credited, call, page, moment, spout]
  exact h

/-- The hold whose window contains a position has an entry on the page. -/
theorem over_isSome {page : HatchPage} {m : Nat} {x : Int} {h : Hold} (e : page.over m x = some h) :
    (page.get h).isSome = true := by
  have := List.find?_some e
  split at this <;> simp_all

theorem spoutOverNow_isSome {t : Travel} {m : Nat} {h : Hold} (e : spoutOverNow t m = some h) :
    (t.activeMap.get h).isSome = true := by
  unfold spoutOverNow at e
  split at e
  · exact over_isSome e
  · cases e

theorem issueBill_momentView (n : Nat) (i : Slot) (b : Bill) (s : State) :
    momentView (issueBill n i b s) = momentView s := by
  unfold issueBill
  dsimp only
  split <;> rfl

theorem updateLedger_momentView (acc : Account) (f : Ledger → Ledger) (s : State) :
    momentView (updateLedger acc f s) = momentView s := by
  simp [momentView, updateLedger]

section
variable {s₀ s : State} (h : Follows s₀ s)
include h

theorem recomputeSpout_follows : Follows s₀ (recomputeSpout s) := by
  obtain ⟨pages, credited, call, moment, -⟩ := h
  refine ⟨pages, credited, call, moment, ?_⟩
  cases e : spoutOverNow s.travel s.store.settings.pourMargin with
  | none => exact .inr (.inl e)
  | some k => exact .inr (.inr ⟨k, s.travel.activePage, e, pages ▸ spoutOverNow_isSome e⟩)

theorem takeSwap_follows : Follows s₀ (takeSwap s) := by
  obtain ⟨pages, credited, call, -⟩ := h
  refine ⟨pages, credited, call, .inr rfl, ?_⟩
  cases e : (takeSwap s).travel.spoutOver with
  | none => exact .inr (.inl rfl)
  | some k => exact .inr (.inr ⟨k, otherPage s.travel.activePage, rfl, pages ▸ spoutOverNow_isSome e⟩)

theorem swapTest_follows : Follows s₀ (swapTest s) := by
  obtain ⟨-, -, e⟩ | ⟨-, e⟩ := swapTest_cases s <;> rw [e]
  · exact takeSwap_follows h
  · exact h

theorem noSpout_follows : Follows s₀ { s with travel := { s.travel with spoutOver := none } } := by
  obtain ⟨pages, credited, call, moment, -⟩ := h
  exact ⟨pages, credited, call, moment, .inr (.inl rfl)⟩

/-! ### The carriage -/

theorem enterFault_follows (c : FaultCause) : Follows s₀ (enterFault c s) := swapTest_follows h

theorem homeSet_follows : Follows s₀ (homeSet s) := by
  unfold homeSet
  exact swapTest_follows (recomputeSpout_follows (s := { s with travel := { s.travel.atRest with
      position := s.store.settings.homePosition, referenced := true, travelTimer := none, request := none,
      state := .parked } }) h)

theorem startGoTo_follows (x : Nat) : Follows s₀ (startGoTo x s) := by
  unfold startGoTo
  dsimp only
  split
  · exact h
  split
  · exact enterFault_follows (s := { s with travel := { s.travel with target := some x } }) h _
  split <;> exact h

theorem startReference_follows : Follows s₀ (startReference s) := by
  unfold startReference
  dsimp only
  split
  · exact enterFault_follows (s := { s with travel := { s.travel with target := none } }) h _
  split
  · exact homeSet_follows (s := { s with travel := { s.travel with target := none } }) h
  · exact noSpout_follows h

theorem startMotion_follows : Follows s₀ (startMotion s) := by
  unfold startMotion
  dsimp only
  split
  · split
    · exact startGoTo_follows (s := { s with travel := { s.travel with runOutTimer := none, reversals := 0, stopping := false } }) h _
    · exact h
  · exact startGoTo_follows (s := { s with travel := { s.travel with runOutTimer := none, reversals := 0, stopping := false } }) h _
  · exact startReference_follows (s := { s with travel := { s.travel with runOutTimer := none, reversals := 0, stopping := false } }) h
  · exact h

theorem inPosition_follows : Follows s₀ (inPosition s) := swapTest_follows h

theorem reversal_follows (d : Direction) : Follows s₀ (reversal d s) := by
  unfold reversal
  dsimp only
  split
  · split
    · exact enterFault_follows (s := { s with travel := { s.travel with reversals := s.travel.reversals + 1 } }) h _
    · exact h
  · exact enterFault_follows h _

theorem stopJudgement_follows : Follows s₀ (stopJudgement s) := by
  unfold stopJudgement
  dsimp only
  split
  · split
    · exact inPosition_follows (s := { s with travel := { s.travel with direction := none, brakeRelease := false, stopping := false } }) h
    split
    · exact reversal_follows (s := { s with travel := { s.travel with direction := none, brakeRelease := false, stopping := false } }) h _
    · exact h
  · exact h

theorem profileTest_follows : Follows s₀ (profileTest s) := by
  unfold profileTest
  (repeat' split) <;> exact h

theorem runOutExpiry_follows : Follows s₀ (runOutExpiry s) := by
  unfold runOutExpiry
  split <;> exact h

theorem travelExpiry_follows : Follows s₀ (travelExpiry s) := by
  unfold travelExpiry
  split
  · exact enterFault_follows h _
  · exact h

theorem travelSegmentClosed_follows : Follows s₀ (travelSegmentClosed s) := by
  unfold travelSegmentClosed
  dsimp only
  split
  · exact startMotion_follows (swapTest_follows h)
  split <;> exact swapTest_follows h

theorem travelStop_follows : Follows s₀ (travelStop s) := by
  unfold travelStop
  dsimp only
  split
  · exact h
  · refine swapTest_follows ?_
    split <;> exact h

theorem stopCleared_follows : Follows s₀ (stopCleared s) := by
  unfold stopCleared
  split
  · exact swapTest_follows h
  · exact h

theorem acceptTravel_follows (r : TravelRequest) : Follows s₀ (acceptTravel r s).1 := by
  unfold acceptTravel
  dsimp only
  split
  · exact startMotion_follows (s := { s with travel := { s.travel with request := some r } }) h
  · exact h

theorem cancelMotion_follows : Follows s₀ (cancelMotion s) := swapTest_follows h

/-! ### The plan and the governor -/

theorem completeStep_follows : Follows s₀ (completeStep s) := by
  unfold completeStep
  split
  · exact h
  · exact swapTest_follows (h.of_view (by simp [momentView]))

theorem recomputeCeiling_follows : Follows s₀ (recomputeCeiling s) := h.of_view (by simp [momentView])

theorem complete_follows : Follows s₀ (complete s) := completeStep_follows (h.of_view (by simp [momentView]))

theorem cutoff_follows (r : CutoffReason) : Follows s₀ (cutoff r s) := by
  have entered : Follows s₀ (if r = .deck then enterCutoff s else recordCutoff r (enterCutoff s)) := by
    split <;> exact h.of_view (by simp [momentView])
  unfold cutoff
  dsimp only
  generalize (if r = .deck then enterCutoff s else recordCutoff r (enterCutoff s)) = s1 at entered ⊢
  split
  · exact complete_follows entered
  · exact entered

theorem feedTests_follows : Follows s₀ (feedTests s) := by
  unfold feedTests
  split
  · exact cutoff_follows h _
  split
  · exact h.of_view (by simp [momentView])
  · exact h

theorem segmentClosedNotice_follows (entering : Nat) (w : Weighing) (leaving : Nat) (dest : Destination) :
    Follows s₀ (segmentClosedNotice entering w leaving dest s) := by
  have booked : Follows s₀ (bookSegment entering w leaving dest s) := h.of_view (by simp [momentView])
  unfold segmentClosedNotice
  split
  · exact h
  · exact booked
  · dsimp only
    split
    · exact complete_follows booked
    · exact booked
  · exact feedTests_follows booked

theorem reEvaluate_follows : Follows s₀ (reEvaluate s) := by
  have computed : Follows s₀ (recomputeCeiling (recomputeEffective s)) := h.of_view (by simp [momentView])
  unfold reEvaluate
  dsimp only
  (repeat' split) <;> first
    | exact h
    | exact computed
    | exact cutoff_follows computed _
    | exact computed.of_view (by simp [momentView])

theorem scaleFaultNotice_follows : Follows s₀ (scaleFaultNotice s) := by
  have computed : Follows s₀ (recomputeEffective s) := h.of_view (by simp [momentView])
  unfold scaleFaultNotice
  split
  · exact h
  · exact computed
  · exact cutoff_follows computed _

theorem positionLost_follows : Follows s₀ (positionLost s) := by
  unfold positionLost
  split
  · exact h
  · exact h
  · exact cutoff_follows h _

theorem cancelNotice_follows : Follows s₀ (cancelNotice s) := by
  unfold cancelNotice
  split
  · exact h
  · exact h
  · exact cutoff_follows h _

/-! ### Requests -/

theorem resumeFeed_follows : Follows s₀ (resumeFeed s) := by
  have emptied : Follows s₀ { s with governor := { s.governor with pauseSet := PauseSet.empty } } := h
  unfold resumeFeed
  dsimp only
  split
  · exact recomputeCeiling_follows (cutoff_follows emptied _)
  split <;> exact emptied.of_view (by simp [momentView])

theorem divert_follows (v : Diverter) : Follows s₀ (divert v s) := by
  unfold divert
  dsimp only
  split
  · exact startMotion_follows (s := { s with travel := { s.travel with diverter := v } }) h
  · exact h

theorem modifyPlan_follows (st : Step) (target level : Nat) : Follows s₀ (modifyPlan st target level s) := by
  unfold modifyPlan
  dsimp only
  split
  · split
    · exact reEvaluate_follows (s := { s with plan := s.plan.updateId st.id (fun x => x.modify target level) }) h
    · exact reEvaluate_follows (h.of_view (by simp [momentView]))
  · split
    · exact h
    · exact h.of_view (by simp [momentView])

theorem cancelActive_follows (st : Step) : Follows s₀ (cancelActive st s) := by
  unfold cancelActive
  split
  · exact h
  · exact cancelNotice_follows (h.of_view (by simp [momentView]))

theorem ownStopStep_follows : Follows s₀ (ownStopStep s).1 := by
  unfold ownStopStep
  split
  · exact h
  split
  · exact h
  · exact h
  · exact cutoff_follows h _

theorem ownClearStop_follows : Follows s₀ (ownClearStop s).1 := by
  unfold ownClearStop
  split
  · exact h
  · exact stopCleared_follows (s := { s with governor := { s.governor with
      estopLatch := false, pauseSet := { s.governor.pauseSet with estop := false } } }) h

theorem ownGoToHold_follows (hold : Nat) : Follows s₀ (ownGoToHold hold s).1 := by
  unfold ownGoToHold
  split
  · exact h
  split
  · exact h
  split
  · exact h
  · exact acceptTravel_follows h _

theorem ownGoToPosition_follows (x : Nat) : Follows s₀ (ownGoToPosition x s).1 := by
  unfold ownGoToPosition
  split
  · exact h
  split
  · exact h
  · exact acceptTravel_follows h _

theorem ownReferenceTravel_follows : Follows s₀ (ownReferenceTravel s).1 := by
  unfold ownReferenceTravel
  split
  · exact h
  · exact acceptTravel_follows h _

theorem ownCancelTravel_follows : Follows s₀ (ownCancelTravel s).1 := by
  unfold ownCancelTravel
  split
  · exact cancelMotion_follows h
  · exact cancelMotion_follows h
  · exact cancelMotion_follows h
  · exact h
  · exact h

theorem ownSetDiverter_follows (value : Nat) : Follows s₀ (ownSetDiverter value s).1 := by
  unfold ownSetDiverter
  split
  · exact h
  split
  · exact h
  split
  · exact h
  · exact divert_follows h _

theorem ownSetTrimBand_follows (band : Nat) : Follows s₀ (ownSetTrimBand band s).1 := by
  have stored : Follows s₀ (bumpRevision { s with plan := { s.plan with trimBand := band } }) :=
    h.of_view (by simp [momentView])
  unfold ownSetTrimBand
  split
  · exact h
  split
  · exact h
  split
  · exact h
  · dsimp only
    split
    · exact reEvaluate_follows stored
    · exact stored

theorem ownModifyStep_follows (id target level : Nat) : Follows s₀ (ownModifyStep id target level s).1 := by
  unfold ownModifyStep
  split
  · exact h
  split
  · exact h
  split
  · exact h
  split
  · exact modifyPlan_follows h _ _ _
  · exact h

theorem ownCancelStep_follows (id : Nat) : Follows s₀ (ownCancelStep id s).1 := by
  unfold ownCancelStep
  split
  · exact h
  split
  · exact h
  split
  · exact h
  · exact h
  · exact cancelActive_follows h _
  · exact h.of_view (by simp [momentView])

theorem ownRequestSwap_follows : Follows s₀ (ownRequestSwap s).1 := by
  unfold ownRequestSwap
  split
  · exact h
  · exact swapTest_follows (s := { s with travel := { s.travel with swapPending := true } }) h

theorem applySetting_follows (was : BitVec 8) (v : Nat) (k : SettingKey) : Follows s₀ (applySetting was v s k) := by
  cases k with
  | pourMargin => exact recomputeSpout_follows h
  | travelTimeLimit =>
    simp only [applySetting]
    split
    · exact travelExpiry_follows h
    · exact h
  | runOutLimit =>
    simp only [applySetting]
    split
    · exact runOutExpiry_follows h
    · exact h
  | channel c k' => cases k' <;> exact h
  | _ =>
    simp only [applySetting]
    try split
    all_goals exact h.of_view (by simp [momentView])

theorem ownWriteSetting_follows (i v : Nat) : Follows s₀ (ownWriteSetting i v s).1 := by
  obtain e | ⟨k, -, -, -, e⟩ := ownWriteSetting_cases i v s <;> rw [e]
  · exact h
  · exact applySetting_follows (h.of_view (by simp [momentView])) _ _ _

/-- Every request but Close Call, Write Hatch Entry and, for the call itself, Open Call. -/
theorem owner_follows {f : State → State × Answer} (hf : Owner f) : Follows s₀ (f s).1 ∨ f = ownCloseCall ∨
    (∃ id band, f = ownOpenCall id band) ∨ ∃ p k pr fo a l li, f = ownWriteHatchEntry p k pr fo a l li := by
  cases hf with
  | closeCall => exact .inr (.inl rfl)
  | openCall id band => exact .inr (.inr (.inl ⟨_, _, rfl⟩))
  | writeHatchEntry => exact .inr (.inr (.inr ⟨_, _, _, _, _, _, _, rfl⟩))
  | resume =>
    left
    unfold ownResume
    split
    · exact h
    · exact resumeFeed_follows h
  | stopStep => exact .inl (ownStopStep_follows h)
  | clearStop => exact .inl (ownClearStop_follows h)
  | goToHold => exact .inl (ownGoToHold_follows h _)
  | goToPosition => exact .inl (ownGoToPosition_follows h _)
  | referenceTravel => exact .inl (ownReferenceTravel_follows h)
  | cancelTravel => exact .inl (ownCancelTravel_follows h)
  | clearTravelFault =>
    left
    unfold ownClearTravelFault
    split <;> exact h
  | setDiverter => exact .inl (ownSetDiverter_follows h _)
  | setTrimBand => exact .inl (ownSetTrimBand_follows h _)
  | modifyStep => exact .inl (ownModifyStep_follows h _ _ _)
  | cancelStep => exact .inl (ownCancelStep_follows h _)
  | requestSwap => exact .inl (ownRequestSwap_follows h)
  | cancelSwap =>
    left
    unfold ownCancelSwap
    split <;> exact h
  | writeSetting => exact .inl (ownWriteSetting_follows h _ _)
  | openLot =>
    left
    unfold ownOpenLot
    (repeat' split) <;> exact h
  | closeLot =>
    left
    unfold ownCloseLot
    split
    · exact h
    split
    · exact h
    split
    · exact h
    · exact h
    · exact h.of_view (issueBill_momentView _ _ _ _)
  | releaseBill =>
    left
    unfold ownReleaseBill
    (repeat' split) <;> exact h
  | setTime => exact .inl (h)
  | _ => exact .inl (h.of_view (by simp [momentView]))

/-! ### Arrivals -/

theorem countEncoder_follows (d : Direction) : Follows s₀ (countEncoder d s) := by
  have counted : Follows s₀
      (recomputeSpout { s with travel := { s.travel with position := countedPosition s.travel.position d } }) :=
    recomputeSpout_follows (s := { s with travel := { s.travel with position := countedPosition s.travel.position d } }) h
  unfold countEncoder
  dsimp only
  generalize recomputeSpout { s with travel := { s.travel with position := countedPosition s.travel.position d } } = s1 at *
  have noticed : Follows s₀ (if movedAway s.travel.spoutOver s1 = true then positionLost s1 else s1) := by
    split
    · exact positionLost_follows counted
    · exact counted
  generalize (if movedAway s.travel.spoutOver s1 = true then positionLost s1 else s1) = s2 at *
  split
  · exact profileTest_follows noticed
  · exact noticed

theorem speedPeriodEnds_follows : Follows s₀ (speedPeriodEnds s) := by
  unfold speedPeriodEnds
  dsimp only
  split
  · exact stopJudgement_follows (s := { s with travel := { s.travel with dutyForce := s.travel.dutyStaged } }) h
  · exact h

theorem homeCloses_follows (closed : Bool) : Follows s₀ (homeCloses closed s) := by
  unfold homeCloses
  split
  · exact homeSet_follows h
  · exact h

theorem limitAsserts_follows (d : Direction) (level : Bool) : Follows s₀ (limitAsserts d level s) := by
  unfold limitAsserts
  split
  · exact enterFault_follows h _
  · exact h

theorem estopAsserts_follows : Follows s₀ (estopAsserts s) :=
  travelStop_follows (h.of_view (by simp [momentView]))

theorem weighSegment_follows : Follows s₀ (weighSegment s).state := by
  unfold weighSegment
  dsimp only
  split
  · exact h
  split
  · split
    · exact h
    · exact (scaleFaultNotice_follows
        (s := raise .scaleFault { s with weigher := { s.weigher with scale := .scaleFault } }) h).of_view
          (updateLedger_momentView _ _ _)
  · exact h.of_view (updateLedger_momentView _ _ _)

end

/-! ### A discharge to a hold -/

/-- A credit moves the moment by its mass times the hold's lever (R143). -/
theorem momentOn_credit (page : HatchPage) (credited : Vector Nat 8) (h : Hold) (mass : Nat) :
    momentOn page (credited.set h (credited.get h + mass)) = momentOn page credited + (mass : Int) * leverOn page h := by
  have term (k : Hold) : ((credited.set h (credited.get h + mass)).get k : Int) * leverOn page k =
      (credited.get k : Int) * leverOn page k + if k = h then (mass : Int) * leverOn page h else 0 := by
    rw [get_set]
    split
    next e =>
      subst e
      push_cast
      ring
    next => ring
  have once : (allHolds.map (fun k => if k = h then (mass : Int) * leverOn page h else 0)).sum =
      (mass : Int) * leverOn page h := by
    fin_cases h <;> simp [allHolds]
  unfold momentOn
  simp only [term]
  rw [List.sum_map_add, once]

/-- A lever of the ranges, or an absent entry's 0, moves a moment by at most 999 for each gram. -/
theorem lever_bound {page : HatchPage} (range : ∀ h e, page.get h = some e → -999 ≤ e.lever ∧ e.lever ≤ 999) (h : Hold)
    {mass : Nat} (hm : mass ≤ 1999998) :
    -2000000000 ≤ (mass : Int) * leverOn page h ∧ (mass : Int) * leverOn page h ≤ 2000000000 := by
  have bounds : -999 ≤ leverOn page h ∧ leverOn page h ≤ 999 := by
    unfold leverOn
    split
    next e he => exact range h e he
    next => decide
  constructor <;> nlinarith

theorem shiftLine_momentView (e : Entry) (s : State) : momentView (shiftLine e s) = momentView s := rfl

theorem setSpillRun_momentView (b : Bool) (s : State) : momentView (setSpillRun b s) = momentView s := rfl

theorem raise_momentView (e : Event) (s : State) : momentView (raise e s) = momentView s := rfl

theorem dischargeSpill_momentView (mass : Nat) (acc : Account) (s : State) :
    momentView (dischargeSpill mass acc s) = momentView s := by
  unfold dischargeSpill
  dsimp only
  split
  · rw [updateLedger_momentView]
  · rw [setSpillRun_momentView, raise_momentView, updateLedger_momentView]

/-- What a close's billing, shift and discharge make of the credited masses and the moment (R16, R142, R143). -/
theorem moveLine_moment (mass : Nat) (how : Weighing) (s : State) :
    momentView (moveLine mass how s) = momentView s ∨
    ∃ h, s.travel.spoutOver = some h ∧ momentView (moveLine mass how s) = momentView { s with accounts := { s.accounts with
      credited := s.accounts.credited.set h (massAdd (s.accounts.credited.get h) (leavingEntry s).mass)
      moment := momentOf (s.accounts.moment + ((leavingEntry s).mass : Int) * leverOn s.travel.activeMap h) } } := by
  have shifted : momentView (shiftLine (segmentEntry mass s) (billSegment mass how s)) = momentView s := by
    rw [shiftLine_momentView]
    unfold billSegment
    split
    · rfl
    · exact updateLedger_momentView _ _ _
  have travel : (shiftLine (segmentEntry mass s) (billSegment mass how s)).travel = s.travel := by simp
  have credited : (shiftLine (segmentEntry mass s) (billSegment mass how s)).accounts.credited = s.accounts.credited := by
    simp
  have moment : (shiftLine (segmentEntry mass s) (billSegment mass how s)).accounts.moment = s.accounts.moment := by
    exact congrArg (·.2.2.2.2.1) shifted
  unfold moveLine discharge
  generalize shiftLine (segmentEntry mass s) (billSegment mass how s) = u at *
  split
  · exact .inl shifted
  split
  · exact .inl shifted
  split
  · rw [setSpillRun_momentView, updateLedger_momentView]
    exact .inl shifted
  · rw [dischargeSpill_momentView]
    exact .inl shifted
  next h dest =>
    have spoutOver : s.travel.spoutOver = some h := by
      unfold destination at dest
      split at dest
      · cases dest
      · split at dest
        next k hk => rw [hk]; cases dest; rfl
        next => cases dest
    refine .inr ⟨h, spoutOver, ?_⟩
    have credit (acc : Account) : momentView (creditHold h (leavingEntry s).mass acc u) = momentView { u with
        accounts := { u.accounts with
          credited := u.accounts.credited.set h (massAdd (u.accounts.credited.get h) (leavingEntry s).mass)
          moment := momentOf (u.accounts.moment + ((leavingEntry s).mass : Int) * leverOn u.travel.activeMap h) } } := by
      simp [momentView, creditHold, updateLedger]
    rw [setSpillRun_momentView, credit]
    rw [travel, credited, moment]
    have call : u.plan.callOpen = s.plan.callOpen := congrArg (·.2.2.1) shifted
    simp only [momentView, call]

/-! ### The moment law -/

/-- No moment of the credited masses is beyond 64 bits. -/
def MomentsFit (s : State) : Prop :=
  ∀ p, -2 ^ 63 ≤ momentOn (s.travel.pages.get p) s.accounts.credited ∧
    momentOn (s.travel.pages.get p) s.accounts.credited < 2 ^ 63

theorem MomentFits.momentsFit {s : State} (h : MomentFits s) : MomentsFit s := fun p => by
  obtain ⟨-, -, moments⟩ := h
  have := moments p
  constructor <;> omega

theorem momentLaw_of_follows {s t : State} (fit : MomentsFit s) (h : MomentLaw s) (f : Follows s t) : MomentLaw t := by
  obtain ⟨moment, closed⟩ := h
  obtain ⟨pages, credited, call, moved, spout⟩ := f
  have lawful : t.accounts.moment = momentOn t.travel.activeMap t.accounts.credited := by
    obtain ⟨page, stands⟩ | computed := moved
    · rw [stands, moment, credited]
      unfold Travel.activeMap
      rw [pages, page]
    · obtain ⟨low, high⟩ := fit t.travel.activePage
      rw [computed, credited]
      unfold Travel.activeMap
      rw [pages]
      exact momentOf_of_fits _ low high
  refine ⟨lawful, fun hc => ?_⟩
  obtain ⟨-, away, nothing, empty⟩ := closed (call ▸ hc)
  refine ⟨?_, ?_, fun k => by rw [credited]; exact nothing k, fun p k => by rw [pages]; exact empty p k⟩
  · rw [lawful, credited]
    exact momentOn_of_credited_zero nothing
  · obtain same | none | ⟨k, p, -, some⟩ := spout
    · rw [same, away]
    · exact none
    · rw [empty p k] at some
      cases some

theorem momentLaw_of_view {s t : State} (h : MomentLaw s) (e : momentView t = momentView s) : MomentLaw t := by
  simp only [momentView, Prod.mk.injEq] at e
  obtain ⟨pages, credited, call, page, moment, spout⟩ := e
  unfold MomentLaw Travel.activeMap at *
  rw [pages, credited, call, page, moment, spout]
  exact h

/-- A close's discharge keeps the moment law, and leaves moments that fit. -/
theorem moveLine_momentLaw {mass : Nat} {how : Weighing} {s : State} (line : LineOk s) (fits : MomentFits s)
    (h : MomentLaw s) : MomentLaw (moveLine mass how s) ∧ MomentsFit (moveLine mass how s) := by
  have pages : (moveLine mass how s).travel.pages = s.travel.pages := by simp
  obtain e | ⟨k, away, e⟩ := moveLine_moment mass how s
  · have credited : (moveLine mass how s).accounts.credited = s.accounts.credited := congrArg (·.2.1) e
    refine ⟨momentLaw_of_view h e, ?_⟩
    unfold MomentsFit
    rw [pages, credited]
    exact fits.momentsFit
  · obtain ⟨levers, room, moments⟩ := fits
    have light : (leavingEntry s).mass ≤ 1999998 := by
      unfold leavingEntry
      obtain ⟨-, -, entries, -⟩ := line
      cases hl : s.weigher.line with
      | nil => exact Nat.zero_le _
      | cons x l => exact (entries x (by rw [hl]; simp)).1
    have sum : massAdd (s.accounts.credited.get k) (leavingEntry s).mass =
        s.accounts.credited.get k + (leavingEntry s).mass :=
      massAdd_of_fits _ _ (by have := room k; omega)
    have shift (p : Page) := lever_bound (page := s.travel.pages.get p) (levers p) k light
    rw [sum] at e
    have credited : (moveLine mass how s).accounts.credited =
        s.accounts.credited.set k (s.accounts.credited.get k + (leavingEntry s).mass) := congrArg (·.2.1) e
    refine ⟨momentLaw_of_view (s := { s with accounts := { s.accounts with
      credited := s.accounts.credited.set k (s.accounts.credited.get k + (leavingEntry s).mass)
      moment := momentOf (s.accounts.moment + ((leavingEntry s).mass : Int) * leverOn s.travel.activeMap k) } })
      ⟨?_, fun hc => ?_⟩ e, fun p => ?_⟩
    · have := moments s.travel.activePage
      have := shift s.travel.activePage
      dsimp only
      rw [momentOn_credit, h.1]
      exact momentOf_of_fits _ (by unfold Travel.activeMap; omega) (by unfold Travel.activeMap; omega)
    · have := (h.2 hc).2.1
      rw [away] at this
      cases this
    · rw [pages, credited]
      have := moments p
      have := shift p
      rw [momentOn_credit]
      constructor <;> omega

theorem follows_fits {s t : State} (f : Follows s t) (fits : MomentFits s) : MomentFits t := by
  obtain ⟨pages, credited, -⟩ := f
  unfold MomentFits
  rw [pages, credited]
  exact fits

theorem closeSegment_momentLaw {s : State} (settings : SettingsLaw s) (line : LineOk s) (fits : MomentFits s)
    (h : MomentLaw s) : MomentLaw (closeSegment s) := by
  have weighed := weighSegment_follows (Follows.refl s)
  obtain ⟨lawful, fit⟩ := moveLine_momentLaw (mass := (weighSegment s).mass) (how := (weighSegment s).how)
    (weighSegment_lineOk settings line).1 (follows_fits weighed fits)
    (momentLaw_of_follows fits.momentsFit h weighed)
  unfold closeSegment
  exact momentLaw_of_follows (s := restartSegment (moveLine (weighSegment s).mass (weighSegment s).how (weighSegment s).state))
    fit lawful (travelSegmentClosed_follows (segmentClosedNotice_follows (Follows.refl _) _ _ _ _))

theorem countPulse_momentLaw {s : State} (settings : SettingsLaw s) (line : LineOk s) (fits : MomentFits s)
    (h : MomentLaw s) : MomentLaw (countPulse s) := by
  unfold countPulse
  dsimp only
  split
  · exact closeSegment_momentLaw (s := { s with weigher := { s.weigher with pulseCount := s.weigher.pulseCount + 1 } })
      settings line fits h
  · exact h

/-- A page written is the inactive one, while a call is open (R61). -/
theorem writeEntry_momentLaw {p : Page} {k : Hold} {e : Option Hatch} {s : State} (h : MomentLaw s)
    (callOpen : s.plan.callOpen = true) (inactive : p ≠ s.travel.activePage) : MomentLaw (writeEntry p k e s) := by
  refine ⟨?_, fun hc => ?_⟩
  · have same : (writeEntry p k e s).travel.activeMap = s.travel.activeMap := get_set_ne _ _ _ _ (Ne.symm inactive)
    rw [same]
    exact h.1
  · rw [show (writeEntry p k e s).plan.callOpen = true from callOpen] at hc
    cases hc

/-- Close Call leaves nothing of the moment (R65, R153). -/
theorem ownCloseCall_momentLaw {s : State} (h : MomentLaw s) : MomentLaw (ownCloseCall s).1 := by
  unfold ownCloseCall
  split
  · exact h
  · have nothing (k : Hold) : (clearWeighingLot (clearPages (clearHolds (bumpRevision (emptyPlan s))))).accounts.credited.get k = 0 :=
      get_replicate _ _
    exact ⟨(momentOn_of_credited_zero nothing).symm, fun _ =>
      ⟨rfl, rfl, nothing, fun p k => by simp [clearPages, clearWeighingLot, HatchPage.empty]⟩⟩

theorem ownOpenCall_momentLaw (id : Nat) (band : Option Nat) {s : State} (h : MomentLaw s) :
    MomentLaw (ownOpenCall id band s).1 := by
  unfold ownOpenCall
  split
  · exact h
  split
  · exact h
  · exact ⟨h.1, nofun⟩

theorem momentLaw_owner {s : State} {f : State → State × Answer} (hf : Owner f) (fits : MomentFits s) (h : MomentLaw s) :
    MomentLaw (f s).1 := by
  obtain follows | rfl | ⟨id, band, rfl⟩ | ⟨page, hold, present, fore, aft, lever, limit, rfl⟩ :=
    owner_follows (Follows.refl s) hf
  · exact momentLaw_of_follows fits.momentsFit h follows
  · exact ownCloseCall_momentLaw h
  · exact ownOpenCall_momentLaw id band h
  · obtain e | ⟨p, k, x, e, callOpen, inactive, -⟩ :=
      ownWriteHatchEntry_cases page hold present fore aft lever limit s <;> rw [e]
    · exact h
    · exact writeEntry_momentLaw h callOpen inactive

theorem holdForPower_follows {s₀ s : State} (h : Follows s₀ s) : Follows s₀ (holdForPower s) := by
  unfold holdForPower
  split
  · exact h
  · exact swapTest_follows h

theorem recoveredTo_follows (p : RecoveryPoint) (s : State) : Follows s (recoveredTo p s) := by
  have checked : Follows s (checkSettings s) := (Follows.refl s).of_view (by simp [momentView])
  have booked (n : Nat) : Follows s (bookFirst n (checkSettings s)) := checked
  have held : Follows s (holdForPower (bookLoss (checkSettings s))) := holdForPower_follows (booked 17)
  cases p with
  | begun => exact Follows.refl s
  | checked => exact checked
  | booked last => exact booked _
  | held => exact held
  | clamped => exact held
  | raised => exact held

theorem completeRecovery_momentView (s : State) : momentView (completeRecovery s) = momentView s := by
  unfold completeRecovery readEstop startConverter
  (repeat' split) <;> rfl

theorem recover_follows (s : State) : Follows s (recover s) :=
  (recoveredTo_follows .raised { s with pins := { s.pins with resetN := false } }).of_view (completeRecovery_momentView _)

/-- Cold start leaves the spout over no hold, and the stored moment with what it rests on (R60, R156). -/
theorem coldStart_follows {s₀ s : State} (h : Follows s₀ s) : Follows s₀ (coldStart s) := by
  obtain ⟨pages, credited, call, moment, -⟩ := h
  exact ⟨pages, credited, call, moment, .inr (.inl rfl)⟩

theorem tick_momentView (s : State) : momentView (tick s) = momentView s := by
  unfold tick
  split <;> rfl

theorem tickSeconds_momentView (s : State) : momentView { s with accounts := tickSeconds s.accounts } = momentView s := by
  unfold momentView tickSeconds
  dsimp only
  split <;> rfl

theorem weighGroup_momentView (q : Quad) (s : State) : momentView (weighGroup q s) = momentView s := by
  have marked : momentView (markOverRange s) = momentView s := updateLedger_momentView _ _ _
  unfold weighGroup
  dsimp only
  split
  · rfl
  split
  · exact marked
  · rfl

theorem takeWGroup_momentView (s : State) : momentView (takeWGroup s) = momentView s := by
  unfold takeWGroup
  split
  · exact weighGroup_momentView _ _
  · rfl

theorem momentLaw_kept :
    Kept (fun s => SettingsLaw s ∧ WeigherLaw s ∧ MomentFits s ∧ MomentLaw s) MomentLaw where
  base _ := fun ⟨_, _, _, h⟩ => h
  queue _ _ h := h
  answer _ _ h := h
  tick s := fun ⟨_, _, _, h⟩ => momentLaw_of_view h (tick_momentView s)
  owner s f hf _ := fun ⟨_, _, fits, h⟩ => momentLaw_owner hf fits h
  pins s c p f hc := fun ⟨_, _, _, h⟩ => momentLaw_of_view h (by cases hc <;> simp [momentView])
  arrival s c p f hc hr := fun ⟨settings, line, fits, h⟩ => by
    have by_follows {t : State} (f : Follows s t) : MomentLaw t := momentLaw_of_follows fits.momentsFit h f
    cases hc with
    | takeRequest st u =>
      exact takeHead_keeps (pre := fun s => MomentFits s ∧ MomentLaw s) (fun _ h => h.2) (fun _ _ h => h)
        (fun _ _ _ h => h) (fun _ _ _ h => momentLaw_of_view h (by simp [momentView]))
        (fun _ _ hf _ h => momentLaw_owner hf h.1 h.2) hr ⟨fits, h⟩
    | frameComplete st chars =>
      exact takeCharacters_keeps (law := MomentLaw) (fun _ _ h => momentLaw_of_view h (by simp [momentView])) chars h
    | tachPulse => exact countPulse_momentLaw settings ((weigherLaw_iff s).1 line).1 fits h
    | encoderCount d => exact by_follows (countEncoder_follows (Follows.refl s) d)
    | travelSpeedPeriodEnd => exact by_follows (speedPeriodEnds_follows (Follows.refl s))
    | homeCloses closed => exact by_follows (homeCloses_follows (s := setHome closed s) (Follows.refl s) closed)
    | limitSwitchAsserted d level =>
      exact by_follows (limitAsserts_follows ((Follows.refl s).of_view (by simp [momentView])) d level)
    | travelTimerExpiry => exact by_follows (travelExpiry_follows (Follows.refl s))
    | runOutTimerExpiry => exact by_follows (runOutExpiry_follows (Follows.refl s))
    | estopAsserted => exact by_follows (estopAsserts_follows (s := setEstop true s) (Follows.refl s))
    | wGroupArrival => exact momentLaw_of_view h (takeWGroup_momentView s)
    | secondsTick => exact momentLaw_of_view h (tickSeconds_momentView s)
    | _ => exact momentLaw_of_view h (by simp [momentView])
  cold s := fun ⟨_, _, fits, h⟩ => momentLaw_of_follows fits.momentsFit h (coldStart_follows (Follows.refl s))
  reset s := fun ⟨_, _, fits, h⟩ => momentLaw_of_follows fits.momentsFit h (coldStart_follows (Follows.refl s))
  recover s _ := fun ⟨_, _, fits, h⟩ => momentLaw_of_follows fits.momentsFit h (recover_follows s)
  abandon s p _ := fun ⟨_, _, fits, h⟩ =>
    momentLaw_of_follows fits.momentsFit h (coldStart_follows (recoveredTo_follows p s))

/-- Settles O60. -/
theorem momentLawIsKept : Obligations.MomentLawIsKept := fun _ _ settings weigher fits h ht =>
  momentLaw_kept.step ⟨settings, weigher, fits, h⟩ ht

end Sys2Proof.Machine

end

section
/-! The plan (section 5.1, R92): how its steps change. A step keeps its id, its hold and its slot, and no request or arrival but
Start Step makes it ACTIVE or HELD that was neither. -/

namespace Sys2Proof.Machine

open Sys2Proof

/-! ### One step -/

/-- What a change of a step's record keeps (section 5.1, R93). -/
structure Step.Evolves (a b : Step) : Prop where
  id : b.id = a.id
  hold : b.hold = a.hold
  slot : b.slot = a.slot
  unfinished : b.unfinished = true → a.unfinished = true
  begun : b.begun = true → a.begun = true
  active : b.isActive = true → a.isActive = true
  lawful : a.Lawful → b.Lawful

theorem Step.Evolves.refl (a : Step) : a.Evolves a := ⟨rfl, rfl, rfl, fun h => h, fun h => h, fun h => h, fun h => h⟩

theorem Step.Evolves.trans {a b c : Step} (h : a.Evolves b) (h' : b.Evolves c) : a.Evolves c :=
  ⟨h'.id.trans h.id, h'.hold.trans h.hold, h'.slot.trans h.slot, h.unfinished ∘ h'.unfinished, h.begun ∘ h'.begun,
    h.active ∘ h'.active, h'.lawful ∘ h.lawful⟩

theorem Step.isActive_iff (a : Step) : a.isActive = true ↔ a.state = .active := by
  simp [Step.isActive]

/-- A change that keeps the state and what the state fixes. -/
theorem Step.Evolves.of_fields {a b : Step} (id : b.id = a.id) (hold : b.hold = a.hold) (slot : b.slot = a.slot)
    (state : b.state = a.state) (lawful : a.Lawful → b.Lawful) : a.Evolves b :=
  ⟨id, hold, slot, by simp [Step.unfinished, state], by simp [Step.begun, state], by simp [Step.isActive, state], lawful⟩

/-- An ACTIVE step with a cutoff reason recorded (R106). -/
theorem Step.evolves_cutoff {a : Step} (h : a.isActive = true) (r : CutoffReason) :
    a.Evolves { a with cutoffReason := some r } :=
  .of_fields rfl rfl rfl rfl fun ⟨low, high, held, _, effective⟩ =>
    ⟨low, high, held, fun _ => (a.isActive_iff).1 h, effective⟩

/-- An ACTIVE step with its effective target computed anew (R112). -/
theorem Step.evolves_effective {a : Step} (h : a.isActive = true) (x : Nat) : a.Evolves { a with effective := some x } :=
  .of_fields rfl rfl rfl rfl fun ⟨low, high, held, cutoff, _⟩ =>
    ⟨low, high, held, cutoff, by simp [Step.begun, (a.isActive_iff).1 h]⟩

theorem Step.evolves_placed (a : Step) (x : Nat) : a.Evolves { a with placed := x } :=
  .of_fields rfl rfl rfl rfl fun h => h

theorem Step.evolves_modify (a : Step) (target level : Nat) : a.Evolves (a.modify target level) :=
  .of_fields rfl rfl rfl rfl fun h => h

/-- A completed step is DONE, HELD or CANCELLED, with an effective target left where it is HELD (R106). -/
theorem Step.evolves_complete {a : Step} (h : a.isActive = true) : a.Evolves a.complete := by
  have active := (a.isActive_iff).1 h
  have outcome : a.complete.state = .held ∨ (a.complete.state = .done ∨ a.complete.state = .cancelled) ∧
      a.complete.holdReason = none := by
    unfold Step.complete completionState
    cases a.cutoffReason with
    | none => exact .inl rfl
    | some r => cases r <;> simp
  refine ⟨rfl, rfl, rfl, fun _ => by simp [Step.unfinished, active], fun _ => by simp [Step.begun, active], fun _ => h, ?_⟩
  rintro ⟨low, high, -, -, effective⟩
  have some : a.effective.isSome = true := effective.2 (by simp [Step.begun, active])
  obtain held | ⟨finished, noReason⟩ := outcome
  · refine ⟨low, high, fun _ => held, nofun, ?_⟩
    have : a.complete.effective = a.effective := if_pos held
    simp [this, some, Step.begun, held]
  · refine ⟨low, high, fun hr => by simp [noReason] at hr, nofun, ?_⟩
    have ne : a.complete.state ≠ .held := by
      obtain h | h := finished <;> rw [h] <;> decide
    have : a.complete.effective = none := if_neg ne
    obtain h | h := finished <;> simp [this, Step.begun, h]

/-- An ACTIVE step found after a power loss is HELD(POWER) (R108). -/
theorem Step.evolves_heldForPower {a : Step} (h : a.isActive = true) : a.Evolves a.heldForPower := by
  have active := (a.isActive_iff).1 h
  refine ⟨rfl, rfl, rfl, fun _ => by simp [Step.unfinished, active], fun _ => by simp [Step.begun, active], fun _ => h, ?_⟩
  rintro ⟨low, high, -, -, effective⟩
  exact ⟨low, high, fun _ => rfl, nofun, iff_of_true (effective.2 (by simp [Step.begun, active])) rfl⟩

/-- A PENDING or HELD step finished by a request (R101, R103). -/
theorem Step.evolves_finished {a : Step} (h : a.state = .pending ∨ a.state = .held) {state : StepState} (short : Bool)
    (finished : state = .done ∨ state = .cancelled) : a.Evolves
      { a with state := state, shortClosed := short, holdReason := none, effective := none } := by
  have open_ : a.unfinished = true := by obtain h | h := h <;> simp [Step.unfinished, h]
  refine ⟨rfl, rfl, rfl, fun _ => open_, ?_, ?_, ?_⟩
  · obtain rfl | rfl := finished <;> simp [Step.begun]
  · obtain rfl | rfl := finished <;> simp [Step.isActive]
  · rintro ⟨low, high, -, cutoff, -⟩
    refine ⟨low, high, nofun, fun hc => ?_, ?_⟩
    · have := cutoff hc
      rw [this] at h
      exact absurd h (by decide)
    · obtain rfl | rfl := finished <;> simp [Step.begun]

/-- A HELD step with its reason taken off (R104). -/
theorem Step.evolves_released (a : Step) : a.Evolves { a with holdReason := none } :=
  .of_fields rfl rfl rfl rfl fun ⟨low, high, _, cutoff, effective⟩ => ⟨low, high, nofun, cutoff, effective⟩

/-! ### The plan -/

/-- From `p` to `q` each step evolves; the call, the id counter and, but for its wrap, the revision stand. -/
structure Plan.Follows (p q : Plan) : Prop where
  steps : ∃ g : Step → Step, q.steps = p.steps.map g ∧ ∀ x ∈ p.steps, x.Evolves (g x)
  callOpen : q.callOpen = p.callOpen
  counter : q.stepIdCounter = p.stepIdCounter
  revision : q.revision = p.revision ∨ q.revision < 65536

theorem Plan.Follows.refl (p : Plan) : p.Follows p :=
  ⟨⟨id, by simp, fun x _ => .refl x⟩, rfl, rfl, .inl rfl⟩

theorem Plan.Follows.trans {p q r : Plan} (h : p.Follows q) (h' : q.Follows r) : p.Follows r := by
  obtain ⟨⟨g, e, evolves⟩, call, counter, revision⟩ := h
  obtain ⟨⟨g', e', evolves'⟩, call', counter', revision'⟩ := h'
  refine ⟨⟨g' ∘ g, by rw [e', e, List.map_map], fun x hx => (evolves x hx).trans (evolves' _ ?_)⟩, call'.trans call,
    counter'.trans counter, ?_⟩
  · rw [e]
    exact List.mem_map_of_mem hx
  · obtain same | less := revision'
    · exact same ▸ revision
    · exact .inr less

/-- A plan that follows a lawful one is lawful. -/
theorem Plan.Follows.lawful {p q : Plan} (h : p.Follows q) (hp : p.Lawful) : q.Lawful := by
  obtain ⟨⟨g, e, evolves⟩, call, counter, revision⟩ := h
  obtain ⟨count, closed, each, ids, current, low, high, wraps⟩ := hp
  refine ⟨?_, fun hc => ?_, ?_, ?_, ?_, counter ▸ low, counter ▸ high, ?_⟩
  · rw [e, List.length_map]
    exact count
  · rw [e, closed (call ▸ hc), List.map_nil]
  · rw [e, List.forall_mem_map]
    exact fun x hx => (evolves x hx).lawful (each x hx)
  · rw [e, List.pairwise_map]
    exact ids.imp_of_mem fun ha hb ne => by rwa [(evolves _ ha).id, (evolves _ hb).id]
  · rw [e, List.pairwise_map]
    refine current.imp_of_mem fun {a b} ha hb finished hb' => ?_
    have := finished ((evolves b hb).begun hb')
    by_contra hn
    rw [(evolves a ha).unfinished (by simpa using hn)] at this
    cases this
  · obtain same | less := revision
    · exact same ▸ wraps
    · exact less

/-- A change of the ACTIVE step's record. -/
theorem updateActive_follows (p : Plan) {f : Step → Step} (hf : ∀ x : Step, x.isActive = true → x.Evolves (f x)) :
    p.Follows (p.updateActive f) := by
  refine ⟨⟨_, rfl, fun x _ => ?_⟩, rfl, rfl, .inl rfl⟩
  split
  next h => exact hf x h
  next => exact .refl x

/-- A change of the record of the step found under an id. -/
theorem updateId_follows {p : Plan} (ids : p.steps.Pairwise (fun a b => a.id ≠ b.id)) {st : Step} (found : st ∈ p.steps)
    {f : Step → Step} (hf : st.Evolves (f st)) : p.Follows (p.updateId st.id f) := by
  refine ⟨⟨_, rfl, fun x hx => ?_⟩, rfl, rfl, .inl rfl⟩
  split
  next h =>
    obtain rfl : x = st := eq_of_id_eq ids hx found (by simpa using h)
    exact hf
  next => exact .refl x

theorem bumpRevision_follows (s : State) : s.plan.Follows (bumpRevision s).plan :=
  ⟨⟨id, by simp [bumpRevision_eq], fun x _ => .refl x⟩, rfl, rfl, .inr (Nat.mod_lt _ (by decide))⟩

/-! ### The operations -/

/-- The plan of `s₀` is followed by that of `s`. -/
abbrev PlanFollows (s₀ s : State) : Prop := s₀.plan.Follows s.plan

theorem PlanFollows.of_eq {s₀ s t : State} (h : PlanFollows s₀ s) (e : t.plan = s.plan) : PlanFollows s₀ t := by
  unfold PlanFollows
  rw [e]
  exact h

section
variable {s₀ s : State} (h : PlanFollows s₀ s)
include h

theorem recordCutoff_plan (r : CutoffReason) : PlanFollows s₀ (recordCutoff r s) :=
  (h.trans (updateActive_follows s.plan fun _ hx => Step.evolves_cutoff hx r)).trans
    (bumpRevision_follows { s with plan := s.plan.updateActive (fun st => { st with cutoffReason := some r }) })

theorem recomputeEffective_plan : PlanFollows s₀ (recomputeEffective s) := by
  unfold recomputeEffective
  split
  · exact h
  · exact h.trans (updateActive_follows s.plan fun _ hx => Step.evolves_effective hx _)

theorem bookSegment_plan (entering : Nat) (w : Weighing) (leaving : Nat) (dest : Destination) :
    PlanFollows s₀ (bookSegment entering w leaving dest s) := by
  unfold bookSegment PlanFollows
  dsimp only
  split
  · exact h.trans (updateActive_follows s.plan fun x _ => x.evolves_placed _)
  · exact h

theorem completeStep_plan : PlanFollows s₀ (completeStep s) := by
  unfold completeStep
  split
  · exact h
  · have completed := (h.trans (updateActive_follows s.plan fun _ hx => Step.evolves_complete hx)).trans
      (bumpRevision_follows { s with plan := s.plan.updateActive Step.complete })
    exact PlanFollows.of_eq completed (by simp)

theorem complete_plan : PlanFollows s₀ (complete s) := completeStep_plan (PlanFollows.of_eq h (by simp))

theorem cutoff_plan (r : CutoffReason) : PlanFollows s₀ (cutoff r s) := by
  have entered : PlanFollows s₀ (if r = .deck then enterCutoff s else recordCutoff r (enterCutoff s)) := by
    split
    · exact PlanFollows.of_eq h (by simp)
    · exact recordCutoff_plan (PlanFollows.of_eq h (by simp)) r
  unfold cutoff
  dsimp only
  generalize (if r = .deck then enterCutoff s else recordCutoff r (enterCutoff s)) = s1 at entered ⊢
  split
  · exact complete_plan entered
  · exact entered

theorem feedTests_plan : PlanFollows s₀ (feedTests s) := by
  unfold feedTests
  split
  · exact cutoff_plan h _
  split
  · exact PlanFollows.of_eq h (by simp)
  · exact h

theorem segmentClosedNotice_plan (entering : Nat) (w : Weighing) (leaving : Nat) (dest : Destination) :
    PlanFollows s₀ (segmentClosedNotice entering w leaving dest s) := by
  have booked := bookSegment_plan h entering w leaving dest
  unfold segmentClosedNotice
  split
  · exact h
  · exact booked
  · dsimp only
    split
    · exact complete_plan booked
    · exact booked
  · exact feedTests_plan booked

theorem reEvaluate_plan : PlanFollows s₀ (reEvaluate s) := by
  have computed : PlanFollows s₀ (recomputeCeiling (recomputeEffective s)) :=
    PlanFollows.of_eq (recomputeEffective_plan h) (by simp)
  unfold reEvaluate
  dsimp only
  generalize recomputeCeiling (recomputeEffective s) = s1 at computed ⊢
  cases s1.governor.state with
  | idle => exact h
  | cutoff =>
    dsimp only
    split
    · exact recordCutoff_plan computed _
    · exact computed
  | paused =>
    dsimp only
    split
    · exact cutoff_plan computed _
    · exact computed
  | dribble =>
    dsimp only
    split
    · exact cutoff_plan computed _
    split
    · exact computed
    · exact PlanFollows.of_eq computed (by simp)
  | ramping =>
    dsimp only
    split
    · exact cutoff_plan computed _
    split
    · exact PlanFollows.of_eq computed (by simp)
    · exact computed
  | running =>
    dsimp only
    split
    · exact cutoff_plan computed _
    split
    · exact PlanFollows.of_eq computed (by simp)
    · exact computed

theorem scaleFaultNotice_plan : PlanFollows s₀ (scaleFaultNotice s) := by
  have computed := recomputeEffective_plan h
  unfold scaleFaultNotice
  split
  · exact h
  · exact computed
  · exact cutoff_plan computed _

theorem positionLost_plan : PlanFollows s₀ (positionLost s) := by
  unfold positionLost
  split
  · exact h
  · exact h
  · exact cutoff_plan h _

theorem cancelNotice_plan : PlanFollows s₀ (cancelNotice s) := by
  unfold cancelNotice
  split
  · exact h
  · exact h
  · exact cutoff_plan h _

theorem weighSegment_plan : PlanFollows s₀ (weighSegment s).state := by
  unfold weighSegment
  dsimp only
  split
  · exact h
  split
  · split
    · exact h
    · exact PlanFollows.of_eq (scaleFaultNotice_plan
        (s := raise .scaleFault { s with weigher := { s.weigher with scale := .scaleFault } }) h) (by simp [enterScaleFault])
  · exact PlanFollows.of_eq h (by simp)

theorem closeSegment_plan : PlanFollows s₀ (closeSegment s) :=
  PlanFollows.of_eq
    (segmentClosedNotice_plan
      (s := restartSegment (moveLine (weighSegment s).mass (weighSegment s).how (weighSegment s).state))
      (PlanFollows.of_eq (weighSegment_plan h) (by simp)) (weighSegment s).mass (weighSegment s).how
      (leavingEntry (weighSegment s).state).mass (destination (weighSegment s).state)) (by simp [closeSegment])

theorem countPulse_plan : PlanFollows s₀ (countPulse s) := by
  unfold countPulse
  dsimp only
  split
  · exact closeSegment_plan (s := { s with weigher := { s.weigher with pulseCount := s.weigher.pulseCount + 1 } }) h
  · exact h

theorem countEncoder_plan (d : Direction) : PlanFollows s₀ (countEncoder d s) := by
  have counted : PlanFollows s₀
      (recomputeSpout { s with travel := { s.travel with position := countedPosition s.travel.position d } }) := h
  unfold countEncoder
  dsimp only
  generalize recomputeSpout { s with travel := { s.travel with position := countedPosition s.travel.position d } } = s1 at *
  have noticed : PlanFollows s₀ (if movedAway s.travel.spoutOver s1 = true then positionLost s1 else s1) := by
    split
    · exact positionLost_plan counted
    · exact counted
  generalize (if movedAway s.travel.spoutOver s1 = true then positionLost s1 else s1) = s2 at *
  split
  · exact PlanFollows.of_eq noticed (by simp)
  · exact noticed

theorem resumeFeed_plan : PlanFollows s₀ (resumeFeed s) := by
  unfold resumeFeed
  dsimp only
  split
  · exact PlanFollows.of_eq
      (cutoff_plan (s := { s with governor := { s.governor with pauseSet := PauseSet.empty } }) h .target) (by simp)
  split <;> exact PlanFollows.of_eq h (by simp)

theorem holdForPower_plan : PlanFollows s₀ (holdForPower s) := by
  unfold holdForPower
  split
  · exact h
  · exact PlanFollows.of_eq ((h.trans (updateActive_follows s.plan fun _ hx => Step.evolves_heldForPower hx)).trans
      (bumpRevision_follows { s with plan := s.plan.updateActive Step.heldForPower })) (by simp)

end

/-! ### The requests about one step -/

/-- The step found under an id is a step of the plan that carries it. -/
theorem stepOf_some {p : Plan} {id : Nat} {st : Step} (h : stepOf p id = some st) : st ∈ p.steps ∧ st.id = id :=
  ⟨List.mem_of_find?_eq_some h, by simpa using List.find?_some h⟩

/-- The ids of a lawful plan are all different. -/
theorem Plan.Lawful.ids {p : Plan} (h : p.Lawful) : p.steps.Pairwise (fun a b => a.id ≠ b.id) := h.2.2.2.1

section
variable {s : State} (lawful : PlanLaw s)
include lawful

theorem modifyPlan_plan {st : Step} (found : st ∈ s.plan.steps) (target level : Nat) :
    PlanFollows s (modifyPlan st target level s) := by
  have modified : PlanFollows s { s with plan := s.plan.updateId st.id (fun x => x.modify target level) } :=
    updateId_follows lawful.ids found (st.evolves_modify target level)
  have bumped : PlanFollows s (if st.modify target level = st
      then { s with plan := s.plan.updateId st.id (fun x => x.modify target level) }
      else bumpRevision { s with plan := s.plan.updateId st.id (fun x => x.modify target level) }) := by
    split
    · exact modified
    · exact modified.trans (bumpRevision_follows _)
  unfold modifyPlan
  dsimp only
  generalize (if st.modify target level = st
      then { s with plan := s.plan.updateId st.id (fun x => x.modify target level) }
      else bumpRevision { s with plan := s.plan.updateId st.id (fun x => x.modify target level) }) = s2 at *
  split
  · exact reEvaluate_plan bumped
  · exact bumped

/-- A change of the record found under an id, and the revision after it. -/
theorem updated_plan {st : Step} (found : st ∈ s.plan.steps) {f : Step → Step} (hf : st.Evolves (f st)) :
    PlanFollows s (bumpRevision { s with plan := s.plan.updateId st.id f }) :=
  (updateId_follows lawful.ids found hf).trans (bumpRevision_follows { s with plan := s.plan.updateId st.id f })

theorem cancelWaiting_plan {st : Step} (found : st ∈ s.plan.steps) (waits : st.state = .pending ∨ st.state = .held) :
    PlanFollows s (cancelWaiting st s) :=
  updated_plan lawful found (f := fun x => { x with state := .cancelled, holdReason := none, effective := none })
    (st.evolves_finished waits st.shortClosed (.inr rfl))

omit lawful in
theorem cancelActive_plan (st : Step) : PlanFollows s (cancelActive st s) := by
  unfold cancelActive
  split
  · exact .refl _
  · exact cancelNotice_plan (recordCutoff_plan (.refl s.plan) .deck)

theorem ownModifyStep_plan (id target level : Nat) : PlanFollows s (ownModifyStep id target level s).1 := by
  unfold ownModifyStep
  split
  · exact .refl _
  split
  · exact .refl _
  split
  · exact .refl _
  next st found =>
    split
    · exact modifyPlan_plan lawful (stepOf_some found).1 _ _
    · exact .refl _

theorem ownCancelStep_plan (id : Nat) : PlanFollows s (ownCancelStep id s).1 := by
  unfold ownCancelStep
  split
  · exact .refl _
  split
  · exact .refl _
  next st found =>
    split
    · exact .refl _
    · exact .refl _
    · exact cancelActive_plan st
    next notDone notCancelled notActive =>
      refine cancelWaiting_plan lawful (stepOf_some found).1 ?_
      cases hs : st.state with
      | pending => exact .inl rfl
      | held => exact .inr rfl
      | _ => simp_all

theorem ownCloseStepShort_plan (id : Nat) : PlanFollows s (ownCloseStepShort id s).1 := by
  unfold ownCloseStepShort
  split
  · exact .refl _
  split
  · exact .refl _
  next st found =>
    obtain ⟨mem, rfl⟩ := stepOf_some found
    split
    next held =>
      exact updated_plan lawful mem
        (f := fun x => { x with state := .done, shortClosed := true, holdReason := none, effective := none })
        (st.evolves_finished (.inr held) true (.inl rfl))
    · exact .refl _

theorem ownReleaseHold_plan (id : Nat) : PlanFollows s (ownReleaseHold id s).1 := by
  unfold ownReleaseHold
  split
  · exact .refl _
  split
  · exact .refl _
  next st found =>
    obtain ⟨mem, rfl⟩ := stepOf_some found
    split
    · split
      · exact updated_plan lawful mem (f := fun x => { x with holdReason := none }) st.evolves_released
      · exact .refl _
    · exact .refl _

omit lawful in
theorem ownSetTrimBand_plan (band : Nat) : PlanFollows s (ownSetTrimBand band s).1 := by
  have stored : PlanFollows s { s with plan := { s.plan with trimBand := band } } :=
    ⟨⟨fun x => x, by simp, fun x _ => .refl x⟩, rfl, rfl, .inl rfl⟩
  have bumped : PlanFollows s (bumpRevision { s with plan := { s.plan with trimBand := band } }) :=
    stored.trans (bumpRevision_follows _)
  unfold ownSetTrimBand
  split
  · exact .refl _
  split
  · exact .refl _
  split
  · exact .refl _
  · dsimp only
    split
    · exact reEvaluate_plan bumped
    · exact bumped

omit lawful in
theorem ownStopStep_plan : PlanFollows s (ownStopStep s).1 := by
  unfold ownStopStep
  split
  · exact .refl _
  split
  · exact .refl _
  · exact .refl _
  · exact cutoff_plan (.refl s.plan) _

omit lawful in
theorem ownResume_plan : PlanFollows s (ownResume s).1 := by
  unfold ownResume
  split
  · exact .refl _
  · exact resumeFeed_plan (.refl s.plan)

/-- Every request makes the plan follow, but for those that start, insert or delete a step and those that open or close the
call. -/
theorem owner_plan {f : State → State × Answer} (hf : Owner f) : PlanFollows s (f s).1 ∨
    (∃ revision, f = ownStartStep revision) ∨ (∃ id band, f = ownOpenCall id band) ∨ f = ownCloseCall ∨
    (∃ p k i t m, f = ownInsertStep p k i t m) ∨ ∃ id, f = ownDeleteStep id := by
  cases hf with
  | startStep => exact .inr (.inl ⟨_, rfl⟩)
  | openCall => exact .inr (.inr (.inl ⟨_, _, rfl⟩))
  | closeCall => exact .inr (.inr (.inr (.inl rfl)))
  | insertStep => exact .inr (.inr (.inr (.inr (.inl ⟨_, _, _, _, _, rfl⟩))))
  | deleteStep => exact .inr (.inr (.inr (.inr (.inr ⟨_, rfl⟩))))
  | resume => exact .inl ownResume_plan
  | stopStep => exact .inl ownStopStep_plan
  | modifyStep => exact .inl (ownModifyStep_plan lawful _ _ _)
  | cancelStep => exact .inl (ownCancelStep_plan lawful _)
  | closeStepShort => exact .inl (ownCloseStepShort_plan lawful _)
  | releaseHold => exact .inl (ownReleaseHold_plan lawful _)
  | setTrimBand => exact .inl (ownSetTrimBand_plan _)
  | _ => exact .inl (PlanFollows.of_eq (.refl _) (by simp))

end

end Sys2Proof.Machine

end

section
/-! The requests that start, insert and delete steps and that open and close the call (R87 to R105): the plan law after them. -/

namespace Sys2Proof.Machine

open Sys2Proof

/-! ### The new id (R98) -/

/-- The ids tried by Insert Step: from the counter on, wrapping from 65535 to 1 (R98). -/
def triedId (start k : Nat) : Nat := (start - 1 + k) % 65535 + 1

theorem triedId_zero {start : Nat} (h : 1 ≤ start) (h' : start ≤ 65535) : triedId start 0 = start := by
  unfold triedId
  omega

theorem triedId_nextId {start : Nat} (h : 1 ≤ start) (h' : start ≤ 65535) (k : Nat) :
    triedId (nextId start) k = triedId start (k + 1) := by
  unfold triedId nextId
  split <;> omega

theorem triedId_injective {start j k : Nat} (hj : j < 65535) (hk : k < 65535) (h : triedId start j = triedId start k) :
    j = k := by
  unfold triedId at h
  omega

theorem nextId_range {id : Nat} (h : id ≤ 65535) : 1 ≤ nextId id ∧ nextId id ≤ 65535 := by
  unfold nextId
  split <;> omega

/-- The search stops at the first id that no step carries, or after `fuel` tries. -/
theorem freeId_spec (p : Plan) (fuel : Nat) {start : Nat} (h : 1 ≤ start) (h' : start ≤ 65535) :
    ∃ k ≤ fuel, freeId p fuel start = triedId start k ∧ (∀ j < k, (stepOf p (triedId start j)).isSome = true) ∧
      (k < fuel → stepOf p (triedId start k) = none) := by
  induction fuel generalizing start with
  | zero => exact ⟨0, Nat.le_refl _, (triedId_zero h h').symm, nofun, nofun⟩
  | succ fuel ih =>
    rw [freeId]
    split
    next taken =>
      obtain ⟨low, high⟩ := nextId_range h'
      obtain ⟨k, le, e, before, free⟩ := ih low high
      refine ⟨k + 1, by omega, by rw [e, triedId_nextId h h'], fun j hj => ?_, fun hk => ?_⟩
      · cases j with
        | zero => rwa [triedId_zero h h']
        | succ j =>
          rw [← triedId_nextId h h']
          exact before j (by omega)
      · rw [← triedId_nextId h h']
        exact free (by omega)
    next free =>
      refine ⟨0, Nat.zero_le _, (triedId_zero h h').symm, nofun, fun _ => ?_⟩
      rw [triedId_zero h h']
      simpa using free

/-- So many ids in a row that steps carry take as many steps. -/
theorem le_length_of_taken {p : Plan} {start n : Nat} (hn : n ≤ 65535)
    (h : ∀ j < n, (stepOf p (triedId start j)).isSome = true) : n ≤ p.steps.length := by
  have distinct : ((List.range n).map (triedId start)).Nodup :=
    List.Nodup.map_on (fun j hj k hk e => triedId_injective (by have := List.mem_range.1 hj; omega)
      (by have := List.mem_range.1 hk; omega) e) List.nodup_range
  have carried : ((List.range n).map (triedId start)) ⊆ p.steps.map Step.id := by
    intro id hid
    obtain ⟨j, hj, rfl⟩ := List.mem_map.1 hid
    obtain ⟨x, hx⟩ := Option.isSome_iff_exists.1 (h j (List.mem_range.1 hj))
    obtain ⟨hm, hid⟩ := stepOf_some hx
    exact hid ▸ List.mem_map_of_mem hm
  simpa using (List.subperm_of_subset distinct carried).length_le

/-- In a plan of fewer than 49 steps the id found is new. -/
theorem freeId_new {p : Plan} (room : p.steps.length < 49) {start : Nat} (h : 1 ≤ start) (h' : start ≤ 65535) :
    ∃ k, freeId p 49 start = triedId start k ∧ (∀ x ∈ p.steps, x.id ≠ triedId start k) ∧
      ∀ j < k, ∃ x ∈ p.steps, x.id = triedId start j := by
  obtain ⟨k, le, e, before, free⟩ := freeId_spec p 49 h h'
  have short : k < 49 := by
    have := le_length_of_taken (p := p) (start := start) (n := k) (by omega) before
    omega
  refine ⟨k, e, fun x hx => ?_, fun j hj => ?_⟩
  · simpa using List.find?_eq_none.1 (free short) x hx
  · obtain ⟨x, hx⟩ := Option.isSome_iff_exists.1 (before j hj)
    exact ⟨x, stepOf_some hx⟩

/-! ### The plan law -/

/-- A begun step is unfinished. -/
theorem Step.unfinished_of_begun {a : Step} (h : a.begun = true) : a.unfinished = true := by
  unfold Step.begun at h
  unfold Step.unfinished
  cases hs : a.state <;> simp_all

/-- The current step stands behind finished steps, and no step behind it has begun (R92). -/
theorem currentStep_split {p : Plan} (lawful : p.Lawful) {st : Step} (h : currentStep p = some st) :
    ∃ before after, p.steps = before ++ st :: after ∧ st.unfinished = true ∧
      (∀ a ∈ before, a.unfinished = false) ∧ ∀ b ∈ after, b.begun = false := by
  obtain ⟨open_, before, after, split, finished⟩ := List.find?_eq_some_iff_append.1 h
  obtain ⟨-, -, -, -, current, -⟩ := lawful
  rw [split, List.pairwise_append, List.pairwise_cons] at current
  refine ⟨before, after, split, open_, fun a ha => by simpa using finished a ha, fun b hb => ?_⟩
  by_contra hn
  rw [current.2.1.1 b hb (by simpa using hn)] at open_
  cases open_

/-- The current step may begin (R92, R105). -/
theorem begin_lawful {p : Plan} (lawful : p.Lawful) {st : Step} (current : currentStep p = some st) {f : Step → Step}
    (id : (f st).id = st.id) (each : (f st).Lawful) : (p.updateId st.id f).Lawful := by
  obtain ⟨before, after, split, -, finished, waiting⟩ := currentStep_split lawful current
  obtain ⟨count, closed, all, ids, order, low, high, wraps⟩ := lawful
  have mapped : (p.updateId st.id f).steps = before ++ f st :: after := by
    rw [split, List.pairwise_append, List.pairwise_cons] at ids
    have other (x : Step) (hx : x.id ≠ st.id) : (if x.id == st.id then f x else x) = x := if_neg (by simpa using hx)
    simp only [Plan.updateId, split, List.map_append, List.map_cons, beq_self_eq_true, if_true]
    congr 1
    · exact (List.map_congr_left fun x hx => other x (ids.2.2 x hx st (by simp))).trans (List.map_id _)
    · congr 1
      exact (List.map_congr_left fun x hx => other x (ids.2.1.1 x hx).symm).trans (List.map_id _)
  rw [split] at count all ids order
  simp only [List.pairwise_append, List.pairwise_cons] at ids order
  refine ⟨?_, fun hc => ?_, ?_, ?_, ?_, low, high, wraps⟩
  · rw [mapped]
    simpa using count
  · have := closed hc
    rw [split] at this
    exact absurd this (by simp)
  · rw [mapped]
    intro x hx
    obtain hx | rfl | hx : x ∈ before ∨ x = f st ∨ x ∈ after := by simpa using hx
    · exact all x (by simp [hx])
    · exact each
    · exact all x (by simp [hx])
  · rw [mapped]
    simp only [List.pairwise_append, List.pairwise_cons, List.mem_cons, forall_eq_or_imp, id]
    exact ⟨ids.1, ids.2.1, fun a ha => ⟨ids.2.2 a ha st (by simp), fun b hb => ids.2.2 a ha b (by simp [hb])⟩⟩
  · rw [mapped]
    simp only [List.pairwise_append, List.pairwise_cons]
    refine ⟨order.1, ⟨fun b hb hbegun => ?_, order.2.1.2⟩, fun a ha _ _ _ => finished a ha⟩
    rw [waiting b hb] at hbegun
    cases hbegun

theorem bumpRevision_lawful {s : State} (h : PlanLaw s) : PlanLaw (bumpRevision s) := (bumpRevision_follows s).lawful h

theorem stepStarted_lawful {s : State} (h : PlanLaw s) {st : Step} (current : currentStep s.plan = some st) (eff : Nat) :
    PlanLaw (stepStarted st.id eff s) := by
  have each : st.Lawful := h.2.2.1 st (mem_of_currentStep current)
  exact bumpRevision_lawful (s := { s with plan := s.plan.updateId st.id _ })
    (begin_lawful h current rfl ⟨each.1, each.2.1, nofun, nofun, iff_of_true rfl rfl⟩)

theorem heldAtStart_lawful {s : State} (h : PlanLaw s) {st : Step} (current : currentStep s.plan = some st) (eff : Nat)
    (r : HoldReason) (notActive : st.isActive = false) : PlanLaw (heldAtStart st.id eff r s) := by
  have each : st.Lawful := h.2.2.1 st (mem_of_currentStep current)
  exact bumpRevision_lawful (s := { s with plan := s.plan.updateId st.id _ })
    (begin_lawful h current rfl ⟨each.1, each.2.1, fun _ => rfl, fun hc => by
      have := each.2.2.2.1 hc
      simp [Step.isActive, this] at notActive, iff_of_true rfl rfl⟩)

theorem startPour_lawful {s : State} (h : PlanLaw s) {st : Step} (current : currentStep s.plan = some st) (eff : Nat) :
    PlanLaw (startPour st eff s) := by
  have : (startPour st eff s).plan = (stepStarted st.id eff s).plan := by simp [startPour]
  unfold PlanLaw
  rw [this]
  exact stepStarted_lawful h current eff

theorem ownStartStep_lawful (revision : Nat) {s : State} (h : PlanLaw s)
    (still : s.governor.state = .idle → stepActive s = false) : PlanLaw (ownStartStep revision s).1 := by
  unfold ownStartStep
  split
  · exact h
  next free =>
    have free := forall_of_firstOf_none free
    simp only [List.forall_mem_cons, bne_eq_false_iff_eq] at free
    split
    · exact h
    next st current =>
      split
      · exact h
      · unfold judgedStart
        dsimp only
        split
        · exact startPour_lawful h current _
        · exact h
        · exact heldAtStart_lawful h current _ _
            (not_isActive_of_stepActive (still free.2.2.1) st (mem_of_currentStep current))

theorem ownOpenCall_lawful (id : Nat) (band : Option Nat) {s : State} (h : PlanLaw s) :
    PlanLaw (ownOpenCall id band s).1 := by
  unfold ownOpenCall
  split
  · exact h
  split
  · exact h
  · obtain ⟨count, -, all, ids, order, low, high, -⟩ := h
    exact ⟨count, nofun, all, ids, order, low, high, Nat.mod_lt _ (by decide)⟩

theorem ownCloseCall_lawful {s : State} (h : PlanLaw s) : PlanLaw (ownCloseCall s).1 := by
  unfold ownCloseCall
  split
  · exact h
  · obtain ⟨-, -, -, -, -, low, high, -⟩ := h
    exact ⟨Nat.zero_le _, fun _ => rfl, nofun, .nil, .nil, low, high, Nat.mod_lt _ (by decide)⟩

theorem ownDeleteStep_lawful (id : Nat) {s : State} (h : PlanLaw s) : PlanLaw (ownDeleteStep id s).1 := by
  unfold ownDeleteStep
  split
  · exact h
  split
  · exact h
  split
  · obtain ⟨count, closed, all, ids, order, low, high, -⟩ := h
    have sub : (s.plan.steps.filter (fun x => x.id != id)).Sublist s.plan.steps := List.filter_sublist
    exact ⟨sub.length_le.trans count, fun hc => by simp [bumpRevision_eq, closed hc], fun x hx => all x (sub.subset hx),
      ids.sublist sub, order.sublist sub, low, high, Nat.mod_lt _ (by decide)⟩
  · exact h

/-! ### Insert Step (R97, R98) -/

/-- No step from the lowest allowed position on has begun (R92, R97). -/
theorem not_begun_of_lowestPosition {p : Plan} (lawful : p.Lawful) {position : Nat} (h : lowestPosition p ≤ position) :
    ∀ b ∈ p.steps.drop (position - 1), b.begun = false := by
  intro b hb
  cases hc : currentStep p with
  | none =>
    have finished := List.find?_eq_none.1 hc b (List.mem_of_mem_drop hb)
    cases hbegun : b.begun with
    | false => rfl
    | true => exact absurd (Step.unfinished_of_begun hbegun) finished
  | some st =>
    obtain ⟨before, after, split, open_, finished, waiting⟩ := currentStep_split lawful hc
    have place : currentPosition p = before.length + 1 := by
      unfold currentPosition
      rw [split, List.findIdx_append]
      have none : before.findIdx Step.unfinished = before.length :=
        List.findIdx_eq_length.2 finished
      simp [none, open_, List.findIdx_cons]
    unfold lowestPosition at h
    simp only [hc, place] at h
    rw [split] at hb
    split at h
    next pending =>
      have hb : b ∈ st :: after := by
        have : b ∈ List.drop (position - 1 - before.length) (st :: after) := by
          rwa [List.drop_append, List.drop_eq_nil_of_le (by omega), List.nil_append] at hb
        exact List.mem_of_mem_drop this
      obtain rfl | hb := List.mem_cons.1 hb
      · simp [Step.begun, pending]
      · exact waiting b hb
    next =>
      have hb : b ∈ after := by
        rw [List.drop_append, List.drop_eq_nil_of_le (by omega), List.nil_append] at hb
        obtain ⟨n, hn⟩ : ∃ n, position - 1 - before.length = n + 1 := ⟨position - 2 - before.length, by omega⟩
        rw [hn, List.drop_succ_cons] at hb
        exact List.mem_of_mem_drop hb
      exact waiting b hb

/-- A PENDING step with a new id put at an allowed position (R97). -/
theorem inserted_lawful {p : Plan} (lawful : p.Lawful) {position id : Nat} {st : Step} (room : p.steps.length < 48)
    (callOpen : p.callOpen = true) (allowed : lowestPosition p ≤ position) (new : ∀ x ∈ p.steps, x.id ≠ st.id)
    (pending : st.state = .pending) (each : st.Lawful) (low : 1 ≤ id) (high : id ≤ 65535) :
    Plan.Lawful { p with
      steps := p.steps.take (position - 1) ++ [st] ++ p.steps.drop (position - 1), stepIdCounter := id } := by
  have waiting := not_begun_of_lowestPosition lawful allowed
  obtain ⟨count, closed, all, ids, order, -, -, wraps⟩ := lawful
  have parts := List.take_append_drop (position - 1) p.steps
  rw [← parts] at ids order
  simp only [List.pairwise_append] at ids order
  have mem_take {x : Step} (hx : x ∈ p.steps.take (position - 1)) := List.mem_of_mem_take hx
  have mem_drop {x : Step} (hx : x ∈ p.steps.drop (position - 1)) := List.mem_of_mem_drop hx
  refine ⟨?_, fun hc => ?_, ?_, ?_, ?_, low, high, wraps⟩
  · have := congrArg List.length parts
    simp only [List.length_append, List.length_singleton] at this ⊢
    omega
  · rw [show p.callOpen = false from hc] at callOpen
    cases callOpen
  · intro x hx
    obtain hx | rfl | hx : x ∈ p.steps.take (position - 1) ∨ x = st ∨ x ∈ p.steps.drop (position - 1) := by
      simpa using hx
    · exact all x (mem_take hx)
    · exact each
    · exact all x (mem_drop hx)
  · simp only [List.append_assoc, List.singleton_append, List.pairwise_append, List.pairwise_cons, List.mem_cons,
      forall_eq_or_imp]
    exact ⟨ids.1, ⟨fun b hb => (new b (mem_drop hb)).symm, ids.2.1⟩,
      fun a ha => ⟨new a (mem_take ha), fun b hb => ids.2.2 a ha b hb⟩⟩
  · simp only [List.append_assoc, List.singleton_append, List.pairwise_append, List.pairwise_cons, List.mem_cons,
      forall_eq_or_imp]
    refine ⟨order.1, ⟨fun b hb hbegun => ?_, order.2.1⟩, fun a ha => ⟨fun hst => ?_, fun b hb => order.2.2 a ha b hb⟩⟩
    · rw [waiting b hb] at hbegun
      cases hbegun
    · simp [Step.begun, pending] at hst

/-- What an accepted Insert Step has found (R97). -/
theorem insertRefusal_eq_none {position hold slot target maxLevel : Nat} {s : State}
    (h : insertRefusal position hold slot target maxLevel s = none) :
    s.plan.callOpen = true ∧ lowestPosition s.plan ≤ position ∧ position ≤ s.plan.steps.length + 1 ∧
      s.plan.steps.length < 48 ∧ ∀ i, slotOf slot = some i → (s.accounts.lots.get i).isOpen = true := by
  have free := forall_of_firstOf_none h
  simp only [List.forall_mem_cons, Bool.not_eq_false', Bool.and_eq_true, decide_eq_true_eq, decide_eq_false_iff_not] at free
  obtain ⟨callOpen, -, slots, place, room, -⟩ := free
  refine ⟨callOpen, place.1, place.2, by omega, fun i hi => ?_⟩
  simpa [hi] using slots

theorem ownInsertStep_lawful (position hold slot target maxLevel : Nat) {s : State} (h : PlanLaw s) :
    PlanLaw (ownInsertStep position hold slot target maxLevel s).1 := by
  unfold ownInsertStep
  split
  next k i accepted _ _ =>
    obtain ⟨callOpen, place, -, room, -⟩ := insertRefusal_eq_none accepted
    have counter : 1 ≤ s.plan.stepIdCounter ∧ s.plan.stepIdCounter ≤ 65535 := ⟨h.2.2.2.2.2.1, h.2.2.2.2.2.2.1⟩
    obtain ⟨n, id, new, -⟩ := freeId_new (p := s.plan) (by omega) counter.1 counter.2
    have range : 1 ≤ triedId s.plan.stepIdCounter n ∧ triedId s.plan.stepIdCounter n ≤ 65535 := by
      unfold triedId
      omega
    obtain ⟨low, high⟩ := nextId_range range.2
    dsimp only
    rw [id]
    exact bumpRevision_lawful (s := { s with plan := _ }) (inserted_lawful h room callOpen place
      (st := newStep (triedId s.plan.stepIdCounter n) k i target maxLevel) new rfl
      ⟨range.1, range.2, nofun, nofun, by simp [newStep, Step.begun]⟩ low high)
  · exact h
  · exact h

end Sys2Proof.Machine

end

section
/-! The accounts (R13 to R17, R140, R141, R145, R176): what a segment close, the requests on lots and the recovery make of the
balance of every account, and that the splits of an account name each hold once. -/

namespace Sys2Proof.Machine

open Sys2Proof

/-! ### Mass in the line -/

theorem massInLine_append (l l' : List Entry) (acc : Account) :
    massInLine (l ++ l') acc = massInLine l acc + massInLine l' acc := by
  simp [massInLine]

theorem massInLine_singleton (e : Entry) (acc : Account) :
    massInLine [e] acc = if e.tag = some acc then e.mass else 0 := by
  by_cases h : e.tag = some acc <;> simp [massInLine, h]

theorem massInLine_cons (e : Entry) (l : List Entry) (acc : Account) :
    massInLine (e :: l) acc = (if e.tag = some acc then e.mass else 0) + massInLine l acc := by
  rw [← List.singleton_append, massInLine_append, massInLine_singleton]

/-- No account has more in the line than the line holds. -/
theorem massInLine_le (l : List Entry) (acc : Account) : massInLine l acc ≤ lineMass l := by
  induction l with
  | nil => exact Nat.le_refl _
  | cons e l ih =>
    rw [massInLine_cons, lineMass, List.map_cons, List.sum_cons]
    change massInLine l acc ≤ (l.map Entry.mass).sum at ih
    split <;> omega

/-- What a shift makes of an account's mass in the line (R14). -/
theorem massInLine_shift (l : List Entry) (e : Entry) (acc : Account) :
    massInLine (l.tail ++ [e]) acc + (if (l.headD Entry.empty).tag = some acc then (l.headD Entry.empty).mass else 0) =
      massInLine l acc + if e.tag = some acc then e.mass else 0 := by
  rw [massInLine_append, massInLine_singleton]
  cases l with
  | nil => simp [Entry.empty, massInLine]
  | cons x l =>
    rw [massInLine_cons]
    change massInLine l acc + _ + (if x.tag = some acc then x.mass else 0) = _
    omega

/-! ### Splits -/

theorem splitSum_addSplit {h : Hold} {mass : Nat} (l : List (Hold × Nat)) (fits : (l.map Prod.snd).sum + mass < 2 ^ 64) :
    ((addSplit h mass l).map Prod.snd).sum = (l.map Prod.snd).sum + mass := by
  induction l with
  | nil => simp [addSplit]
  | cons x l ih =>
    obtain ⟨k, m⟩ := x
    simp only [List.map_cons, List.sum_cons] at fits
    rw [addSplit]
    split
    · simp only [List.map_cons, List.sum_cons, massAdd_of_fits m mass (by omega)]
      omega
    · simp only [List.map_cons, List.sum_cons, ih (by omega)]
      omega

/-- The holds of a split list after a placement: the same, or one more at the end (R141). -/
theorem mem_addSplit {h k : Hold} {mass n : Nat} {l : List (Hold × Nat)} (hm : (k, n) ∈ addSplit h mass l) :
    k = h ∨ ∃ m, (k, m) ∈ l := by
  induction l with
  | nil =>
    simp only [addSplit, List.mem_singleton, Prod.mk.injEq] at hm
    exact .inl hm.1
  | cons x l ih =>
    obtain ⟨j, m⟩ := x
    rw [addSplit] at hm
    split at hm
    next e =>
      obtain e' | hm := List.mem_cons.1 hm
      · exact .inl ((Prod.mk.inj e').1.trans e)
      · exact .inr ⟨n, List.mem_cons_of_mem _ hm⟩
    next =>
      obtain e' | hm := List.mem_cons.1 hm
      · exact .inr ⟨m, by simp [(Prod.mk.inj e').1]⟩
      · exact (ih hm).imp_right fun ⟨m', h'⟩ => ⟨m', List.mem_cons_of_mem _ h'⟩

theorem addSplit_pairwise {h : Hold} {mass : Nat} {l : List (Hold × Nat)} (hl : l.Pairwise (fun x y => x.1 ≠ y.1)) :
    (addSplit h mass l).Pairwise (fun x y => x.1 ≠ y.1) := by
  induction l with
  | nil => exact List.pairwise_singleton _ _
  | cons x l ih =>
    obtain ⟨k, m⟩ := x
    obtain ⟨head, rest⟩ := List.pairwise_cons.1 hl
    rw [addSplit]
    split
    · exact List.pairwise_cons.2 ⟨head, rest⟩
    next ne =>
      refine List.pairwise_cons.2 ⟨fun ⟨j, n⟩ hj => ?_, ih rest⟩
      obtain rfl | ⟨m', hm⟩ := mem_addSplit hj
      · exact ne
      · exact head (j, m') hm

/-! ### What leaves the accounts alone -/

/-- From `s` to `t` the accounts' lots and the unassigned account, the line and the weighing lot stand. -/
def BooksStand (s t : State) : Prop :=
  t.accounts.lots = s.accounts.lots ∧ t.accounts.unassigned = s.accounts.unassigned ∧
  t.weigher.line = s.weigher.line ∧ t.weigher.lineTotal = s.weigher.lineTotal ∧
  t.weigher.weighingLot = s.weigher.weighingLot ∧ t.phase = s.phase

theorem BooksStand.ledger {s t : State} (h : BooksStand s t) (acc : Account) :
    t.accounts.ledger acc = s.accounts.ledger acc := by
  obtain ⟨lots, unassigned, -⟩ := h
  cases acc <;> simp [Accounts.ledger, lots, unassigned]

/-- The unfinished steps of `q` name slots that unfinished steps of `p` name. -/
def Plan.NamesSlots (p q : Plan) : Prop :=
  ∀ b ∈ q.steps, b.unfinished = true → ∃ a ∈ p.steps, a.unfinished = true ∧ a.slot = b.slot

theorem Plan.Follows.namesSlots {p q : Plan} (h : p.Follows q) : p.NamesSlots q := by
  obtain ⟨⟨g, e, evolves⟩, -⟩ := h
  intro b hb open_
  rw [e] at hb
  obtain ⟨a, ha, rfl⟩ := List.mem_map.1 hb
  exact ⟨a, ha, (evolves a ha).unfinished open_, (evolves a ha).slot.symm⟩

theorem Plan.NamesSlots.of_subset {p q : Plan} (h : q.steps ⊆ p.steps) : p.NamesSlots q :=
  fun b hb open_ => ⟨b, h hb, open_, rfl⟩

theorem balanceLaw_of_stand {s t : State} (law : BalanceLaw s) (books : BooksStand s t) (plan : s.plan.NamesSlots t.plan) :
    BalanceLaw t := by
  have ledger := books.ledger
  obtain ⟨lots, -, line, total, weighing, phase⟩ := books
  obtain ⟨steps, lot, free, running, cold⟩ := law
  unfold BalanceLaw slotOpen Balanced
  simp only [ledger, lots, line, total, weighing, phase]
  refine ⟨fun b hb open_ => ?_, lot, free, running, cold⟩
  obtain ⟨a, ha, open_a, e⟩ := plan b hb open_
  exact e ▸ steps a ha open_a

/-! ### The segment close -/

/-- What one account has weighed and booked is changed by no more than a ledger update that keeps both. -/
def SameMasses (f : Ledger → Ledger) : Prop := ∀ l, (f l).weighed = l.weighed ∧ (f l).booked = l.booked

theorem updateLedger_masses {f : Ledger → Ledger} (hf : SameMasses f) (acc acc' : Account) (s : State) :
    ((updateLedger acc f s).accounts.ledger acc').weighed = (s.accounts.ledger acc').weighed ∧
    ((updateLedger acc f s).accounts.ledger acc').booked = (s.accounts.ledger acc').booked := by
  by_cases h : acc' = acc
  · subst h
    rw [updateLedger_ledger_self]
    exact hf _
  · rw [updateLedger_ledger_ne _ _ _ _ h]
    exact ⟨rfl, rfl⟩

/-- A ledger updated keeps what the balance law says of the lots' masses. -/
theorem balanceLaw_updateLedger {f : Ledger → Ledger} (hf : SameMasses f) {acc : Account} {s : State} (h : BalanceLaw s) :
    BalanceLaw (updateLedger acc f s) := by
  have masses := fun acc' => updateLedger_masses hf acc acc' s
  have open_ (i : Slot) : ((updateLedger acc f s).accounts.lots.get i).isOpen = (s.accounts.lots.get i).isOpen :=
    Accounts.isOpen_setLedger _ _ _ _
  obtain ⟨steps, lot, free, running, cold⟩ := h
  unfold BalanceLaw slotOpen Balanced at *
  simp only [open_, masses]
  exact ⟨steps, lot, free, running, cold⟩

section
variable {mass : Nat} {how : Weighing} {s : State}

/-- What billing makes of an account's weighed mass (R13). -/
theorem billSegment_ledger (fits : MassesFit s) (hm : mass ≤ 1999998) (acc : Account) :
    ((billSegment mass how s).accounts.ledger acc).weighed =
      (s.accounts.ledger acc).weighed + (if acc = weighingAccount s then mass else 0) ∧
    ((billSegment mass how s).accounts.ledger acc).booked = (s.accounts.ledger acc).booked ∧
    ((billSegment mass how s).accounts.ledger acc).splits = (s.accounts.ledger acc).splits := by
  unfold billSegment
  split
  next zero => simp [zero]
  · by_cases h : acc = weighingAccount s
    · subst h
      rw [updateLedger_ledger_self, if_pos rfl]
      have := fits (weighingAccount s)
      exact ⟨massAdd_of_fits _ _ (by omega), rfl, rfl⟩
    · rw [updateLedger_ledger_ne _ _ _ _ h, if_neg h]
      exact ⟨rfl, rfl, rfl⟩

/-- A ledger update that books a mass for its account (R16, R17). -/
theorem updateLedger_books {f : Ledger → Ledger} {tagged : Account} {m : Nat} (s : State)
    (weighed : (f (s.accounts.ledger tagged)).weighed = (s.accounts.ledger tagged).weighed)
    (booked : (f (s.accounts.ledger tagged)).booked = (s.accounts.ledger tagged).booked + m) (acc : Account) :
    ((updateLedger tagged f s).accounts.ledger acc).weighed = (s.accounts.ledger acc).weighed ∧
    ((updateLedger tagged f s).accounts.ledger acc).booked =
      (s.accounts.ledger acc).booked + if some tagged = some acc then m else 0 := by
  by_cases h : acc = tagged
  · subst h
    rw [updateLedger_ledger_self, if_pos rfl]
    exact ⟨weighed, booked⟩
  · rw [updateLedger_ledger_ne _ _ _ _ h, if_neg fun e => h (Option.some.inj e).symm]
    exact ⟨rfl, rfl⟩

/-- The three ways in which a discharge is booked (R15, R16, R17). -/
theorem booked_discharge (l : Ledger) (h : Hold) {m : Nat} (fit : l.booked + m < 2 ^ 64) :
    Ledger.booked { l with rejected := massAdd l.rejected m } = l.booked + m ∧
    Ledger.booked { l with spilled := massAdd l.spilled m } = l.booked + m ∧
    Ledger.booked { l with splits := addSplit h m l.splits } = l.booked + m := by
  unfold Ledger.booked splitSum at *
  dsimp only
  rw [massAdd_of_fits _ _ (by omega), massAdd_of_fits _ _ (by omega), splitSum_addSplit _ (by omega)]
  omega

/-- What a discharge makes of the accounts: the leaving mass is booked for its account, where that fits (R15, R16, R17). -/
theorem discharge_ledger (e : Entry) (d : Destination) {s : State} (lawful : e.Lawful)
    (fits : ∀ acc, e.tag = some acc → (s.accounts.ledger acc).booked + e.mass < 2 ^ 64) (acc : Account) :
    ((discharge e d s).accounts.ledger acc).weighed = (s.accounts.ledger acc).weighed ∧
    ((discharge e d s).accounts.ledger acc).booked =
      (s.accounts.ledger acc).booked + if e.tag = some acc then e.mass else 0 := by
  unfold discharge
  cases htag : e.tag with
  | none => exact ⟨rfl, by simp⟩
  | some tagged =>
    have notZero : e.mass ≠ 0 := fun zero => by
      rw [lawful.2.2 zero] at htag
      cases htag
    have booked (h : Hold) := booked_discharge (s.accounts.ledger tagged) h (fits tagged htag)
    dsimp only
    rw [if_neg notZero]
    cases d with
    | reject =>
      exact updateLedger_books (f := fun l => { l with rejected := massAdd l.rejected e.mass }) s rfl (booked 0).1 acc
    | spill =>
      have spilled := updateLedger_books (f := fun l => { l with spilled := massAdd l.spilled e.mass }) s rfl (booked 0).2.1 acc
      dsimp only [dischargeSpill]
      split <;> exact spilled
    | hold h =>
      have placed := updateLedger_books (f := fun l => { l with splits := addSplit h e.mass l.splits }) s rfl (booked h).2.2 acc
      cases acc <;> exact placed

/-- The mass that a segment enters for an account (R13). -/
theorem segmentEntry_enters (mass : Nat) (s : State) (acc : Account) :
    (if (segmentEntry mass s).tag = some acc then (segmentEntry mass s).mass else 0) =
      if acc = weighingAccount s then mass else 0 := by
  unfold segmentEntry
  by_cases zero : mass = 0
  · simp [zero, Entry.empty]
  · rw [if_neg zero]
    exact if_congr (by simp [eq_comm]) rfl rfl

/-- The line after a close (R14). -/
theorem moveLine_line : (moveLine mass how s).weigher.line = s.weigher.line.tail ++ [segmentEntry mass s] := by
  have shifted : (shiftLine (segmentEntry mass s) (billSegment mass how s)).weigher.line =
      s.weigher.line.tail ++ [segmentEntry mass s] := by simp [shiftLine]
  have discharged (e : Entry) (d : Destination) (u : State) : (discharge e d u).weigher.line = u.weigher.line := by simp
  exact (discharged _ _ _).trans shifted

/-- What the billing, the shift and the discharge of a close leave balanced (R140). -/
theorem moveLine_balanced (line : LineOk s) (fits : MassesFit s) (hm : mass ≤ 1999998) (all : ∀ acc, Balanced s acc)
    (acc : Account) : ((moveLine mass how s).accounts.ledger acc).weighed =
      (s.accounts.ledger acc).weighed + (if acc = weighingAccount s then mass else 0) ∧
    Balanced (moveLine mass how s) acc := by
  have lawful : (leavingEntry s).Lawful := by
    unfold leavingEntry
    obtain ⟨-, -, entries, -⟩ := line
    cases hl : s.weigher.line with
    | nil => exact ⟨Nat.zero_le _, iff_of_true rfl rfl⟩
    | cons x l => exact entries x (by rw [hl]; simp)
  have inLine (acc : Account) : (if (leavingEntry s).tag = some acc then (leavingEntry s).mass else 0) ≤
      massInLine s.weigher.line acc := by
    unfold leavingEntry
    cases s.weigher.line with
    | nil => simp [Entry.empty]
    | cons x l =>
      rw [massInLine_cons]
      exact Nat.le_add_right _ _
  have billed := billSegment_ledger (mass := mass) (how := how) fits hm
  have leaves (acc : Account) (htag : (leavingEntry s).tag = some acc) :
      ((shiftLine (segmentEntry mass s) (billSegment mass how s)).accounts.ledger acc).booked + (leavingEntry s).mass <
        2 ^ 64 := by
    have balanced := all acc
    have held := inLine acc
    have room := fits acc
    have booked : ((shiftLine (segmentEntry mass s) (billSegment mass how s)).accounts.ledger acc).booked = _ :=
      (billed acc).2.1
    rw [if_pos htag] at held
    rw [booked]
    unfold Balanced at balanced
    omega
  obtain ⟨weighed, booked⟩ := discharge_ledger (leavingEntry s) (destination s)
    (s := shiftLine (segmentEntry mass s) (billSegment mass how s)) lawful leaves acc
  have shifted := massInLine_shift s.weigher.line (segmentEntry mass s) acc
  have entered := segmentEntry_enters mass s acc
  have leaving : (if (s.weigher.line.headD Entry.empty).tag = some acc then (s.weigher.line.headD Entry.empty).mass else 0) =
      if (leavingEntry s).tag = some acc then (leavingEntry s).mass else 0 := rfl
  have before : (s.accounts.ledger acc).weighed = _ := all acc
  have bill := (billed acc).1
  have kept := (billed acc).2.1
  unfold Balanced
  rw [moveLine_line]
  unfold moveLine
  rw [weighed, booked]
  refine ⟨bill, ?_⟩
  change ((billSegment mass how s).accounts.ledger acc).weighed =
    ((billSegment mass how s).accounts.ledger acc).booked + _ + _
  omega

/-- No close opens or frees a slot. -/
theorem moveLine_isOpen (mass : Nat) (how : Weighing) (s : State) (i : Slot) :
    ((moveLine mass how s).accounts.lots.get i).isOpen = (s.accounts.lots.get i).isOpen := by
  have updated (acc : Account) (f : Ledger → Ledger) (u : State) :
      ((updateLedger acc f u).accounts.lots.get i).isOpen = (u.accounts.lots.get i).isOpen :=
    Accounts.isOpen_setLedger _ _ _ _
  have run (b : Bool) (u : State) : ((setSpillRun b u).accounts.lots.get i).isOpen = (u.accounts.lots.get i).isOpen := rfl
  have raised (e : Event) (u : State) : ((raise e u).accounts.lots.get i).isOpen = (u.accounts.lots.get i).isOpen := rfl
  have billed : ((shiftLine (segmentEntry mass s) (billSegment mass how s)).accounts.lots.get i).isOpen =
      (s.accounts.lots.get i).isOpen := by
    change ((billSegment mass how s).accounts.lots.get i).isOpen = _
    unfold billSegment
    split
    · rfl
    · exact updated _ _ _
  unfold moveLine
  generalize shiftLine (segmentEntry mass s) (billSegment mass how s) = u at *
  rw [← billed]
  unfold discharge
  split
  · rfl
  split
  · rfl
  split
  · rw [run, updated]
  · unfold dischargeSpill
    dsimp only
    split
    · rw [updated]
    · rw [run, raised, updated]
  · rw [run]
    exact updated _ _ _

theorem moveLine_balanceLaw (line : LineOk s) (fits : MassesFit s) (hm : mass ≤ 1999998) (running : s.phase = .running)
    (h : BalanceLaw s) : BalanceLaw (moveLine mass how s) := by
  obtain ⟨steps, lot, free, all, -⟩ := h
  have moved := moveLine_balanced (how := how) line fits hm (all running)
  have phase : (moveLine mass how s).phase = .running := by simpa using running
  refine ⟨?_, ?_, fun i closed => ?_, fun _ acc => (moved acc).2, fun cold => by rw [phase] at cold; cases cold⟩
  · intro st hst open_
    rw [slotOpen, moveLine_isOpen]
    exact steps st (by simpa using hst) open_
  · intro i hi
    rw [slotOpen, moveLine_isOpen]
    exact lot i (by simpa using hi)
  · rw [slotOpen, moveLine_isOpen] at closed
    obtain ⟨weighed, balanced⟩ := moved (.lot i)
    have elsewhere : ¬ Account.lot i = weighingAccount s := fun e => by
      unfold weighingAccount at e
      split at e
      next k hk => exact closed (Account.lot.inj e ▸ lot k hk)
      next => cases e
    have := (free i closed).1
    unfold Balanced at balanced
    rw [if_neg elsewhere] at weighed
    constructor <;> omega

end

theorem sameMasses_countUnweighed (s : State) (h : BalanceLaw s) : BalanceLaw (countUnweighed s) :=
  balanceLaw_updateLedger (f := fun l => { l with unweighed := saturate16 l.unweighed }) (fun _ => ⟨rfl, rfl⟩) h

theorem weighSegment_balanceLaw {s : State} (h : BalanceLaw s) : BalanceLaw (weighSegment s).state := by
  unfold weighSegment
  dsimp only
  split
  · exact h
  split
  · split
    · exact h
    · exact sameMasses_countUnweighed _ (balanceLaw_of_stand h (by simp [BooksStand, enterScaleFault])
        (scaleFaultNotice_plan (.refl _)).namesSlots)
  · exact sameMasses_countUnweighed _ h

/-- Weighing a segment leaves what the accounts have weighed. -/
theorem weighSegment_weighed (s : State) (acc : Account) :
    ((weighSegment s).state.accounts.ledger acc).weighed = (s.accounts.ledger acc).weighed := by
  have counted (u : State) : ((countUnweighed u).accounts.ledger acc).weighed = (u.accounts.ledger acc).weighed :=
    (updateLedger_masses (f := fun l => { l with unweighed := saturate16 l.unweighed }) (fun _ => ⟨rfl, rfl⟩) _ _ _).1
  unfold weighSegment
  dsimp only
  split
  · rfl
  split
  · split
    · rfl
    · have stand : BooksStand s (enterScaleFault s) := by simp [BooksStand, enterScaleFault]
      rw [counted, stand.ledger]
  · exact counted s

theorem closeSegment_balanceLaw {s : State} (settings : SettingsLaw s) (line : LineOk s) (fits : MassesFit s)
    (running : s.phase = .running) (h : BalanceLaw s) : BalanceLaw (closeSegment s) := by
  obtain ⟨lineOk, light⟩ := weighSegment_lineOk settings line
  have moved := moveLine_balanceLaw (how := (weighSegment s).how) lineOk
    (fun acc => by rw [weighSegment_weighed]; exact fits acc) light (by simpa using running) (weighSegment_balanceLaw h)
  refine balanceLaw_of_stand moved (by simp [BooksStand, closeSegment]) ?_
  have noticed := segmentClosedNotice_plan
    (.refl (restartSegment (moveLine (weighSegment s).mass (weighSegment s).how (weighSegment s).state)).plan)
    (weighSegment s).mass (weighSegment s).how (leavingEntry (weighSegment s).state).mass (destination (weighSegment s).state)
  exact (PlanFollows.of_eq noticed (by simp [closeSegment])).namesSlots

theorem countPulse_balanceLaw {s : State} (settings : SettingsLaw s) (line : LineOk s) (fits : MassesFit s)
    (running : s.phase = .running) (h : BalanceLaw s) : BalanceLaw (countPulse s) := by
  unfold countPulse
  dsimp only
  split
  · exact closeSegment_balanceLaw (s := { s with weigher := { s.weigher with pulseCount := s.weigher.pulseCount + 1 } })
      settings line fits running h
  · exact h

/-! ### Requests -/

/-- A line that holds nothing holds nothing for an account. -/
theorem massInLine_of_empty {s : State} (line : WeigherLaw s) (empty : s.weigher.lineTotal = 0) (acc : Account) :
    massInLine s.weigher.line acc = 0 := by
  obtain ⟨-, total, -⟩ := line
  have := massInLine_le s.weigher.line acc
  omega

theorem massInLine_replicate (n : Nat) (acc : Account) : massInLine (List.replicate n Entry.empty) acc = 0 := by
  have := massInLine_le (List.replicate n Entry.empty) acc
  rw [lineMass_replicate] at this
  omega

/-- An empty line rebuilt (R21). -/
theorem rebuildLine_balanceLaw (n : Nat) {s : State} (nothing : ∀ acc, massInLine s.weigher.line acc = 0)
    (h : BalanceLaw s) : BalanceLaw (rebuildLine n s) := by
  obtain ⟨steps, lot, free, running, cold⟩ := h
  refine ⟨steps, lot, free, fun hr acc => ?_, fun hc => ⟨rfl, (cold hc).2⟩⟩
  have balanced := running hr acc
  unfold Balanced at *
  rw [nothing] at balanced
  change _ = _ + massInLine (List.replicate n Entry.empty) acc
  rw [massInLine_replicate]
  exact balanced

/-- A FREE slot opened for a lot (R139). -/
theorem openLot_balanceLaw {i : Slot} {l : Lot} {s : State} (closed : ¬ slotOpen s i) (opens : l.isOpen = true)
    (empty : l.ledger = Ledger.empty) (running : s.phase = .running) (h : BalanceLaw s) : BalanceLaw (setLot i l s) := by
  obtain ⟨steps, lot, free, all, -⟩ := h
  have kept (k : Slot) (hk : slotOpen s k) : slotOpen (setLot i l s) k := by
    unfold slotOpen setLot
    dsimp only
    rw [get_set]
    split
    · exact opens
    · exact hk
  have ledger (acc : Account) : (setLot i l s).accounts.ledger acc =
      if acc = .lot i then Ledger.empty else s.accounts.ledger acc := by
    cases acc with
    | unassigned => rfl
    | lot k =>
      simp only [setLot, Accounts.ledger, get_set, Account.lot.injEq]
      split
      · exact empty
      · rfl
  refine ⟨fun st hst ho => kept _ (steps st hst ho), fun k hk => kept k (lot k hk), fun k hk => ?_, fun hr acc => ?_,
    fun hc => ?_⟩
  · rw [ledger]
    split
    · exact ⟨rfl, rfl⟩
    · exact free k fun open_ => hk (kept k open_)
  · have balanced := all running acc
    unfold Balanced at *
    rw [ledger]
    split
    next e =>
      subst e
      obtain ⟨weighed, booked⟩ := free i closed
      change (0 : Nat) = 0 + massInLine s.weigher.line (.lot i)
      omega
    · exact balanced
  · rw [show s.phase = .cold from hc] at running
    cases running

theorem ownOpenLot_balanceLaw (number grade length : Nat) (reference : List Byte) (declared : Nat) {s : State}
    (running : s.phase = .running) (h : BalanceLaw s) :
    BalanceLaw (ownOpenLot number grade length reference declared s).1 := by
  unfold ownOpenLot
  split
  · exact h
  split
  · exact h
  split
  · exact h
  next i found =>
    exact openLot_balanceLaw (by simpa using List.find?_some found) rfl rfl running h

/-- What frees a slot: no unfinished step names it, and the line holds nothing for it (R145, R146). -/
theorem issueBill_balanceLaw {n : Nat} {i : Slot} {b : Bill} {s : State} (planned : slotPlanned s.plan i = false)
    (inLine : slotInLine s.weigher i = false) (running : s.phase = .running) (h : BalanceLaw s) :
    BalanceLaw (issueBill n i b s) := by
  obtain ⟨steps, lot, free, all, -⟩ := h
  have plan : (issueBill n i b s).plan = s.plan := by simp
  have line : (issueBill n i b s).weigher.line = s.weigher.line := by simp
  have lots : (issueBill n i b s).accounts.lots = s.accounts.lots.set i Lot.free := by
    unfold issueBill
    dsimp only
    split <;> rfl
  have unassigned : (issueBill n i b s).accounts.unassigned = s.accounts.unassigned := by
    unfold issueBill
    dsimp only
    split <;> rfl
  have weighing (k : Slot) (hk : (issueBill n i b s).weigher.weighingLot = some k) :
      s.weigher.weighingLot = some k ∧ k ≠ i := by
    unfold issueBill at hk
    dsimp only at hk
    split at hk
    · cases hk
    next ne => exact ⟨hk, fun e => ne (e ▸ hk)⟩
  have kept (k : Slot) (ne : k ≠ i) (hk : slotOpen s k) : slotOpen (issueBill n i b s) k := by
    unfold slotOpen
    rw [lots, get_set_ne _ _ _ _ ne]
    exact hk
  have ledger (acc : Account) : (issueBill n i b s).accounts.ledger acc =
      if acc = .lot i then Ledger.empty else s.accounts.ledger acc := by
    cases acc with
    | unassigned => exact unassigned
    | lot k =>
      simp only [Accounts.ledger, lots, get_set, Account.lot.injEq]
      split <;> rfl
  have nothing : massInLine s.weigher.line (.lot i) = 0 := by
    unfold massInLine
    rw [List.sum_eq_zero_iff]
    intro m hm
    obtain ⟨e, he, rfl⟩ := List.mem_map.1 hm
    obtain ⟨he, tag⟩ := List.mem_filter.1 he
    have := List.any_eq_false.1 inLine e he
    simpa [beq_iff_eq.1 tag] using this
  refine ⟨fun st hst ho => ?_, fun k hk => ?_, fun k hk => ?_, fun hr acc => ?_, fun hc => ?_⟩
  · rw [plan] at hst
    refine kept _ (fun e => ?_) (steps st hst ho)
    have := List.any_eq_false.1 planned st hst
    simp [ho, e] at this
  · obtain ⟨hk, ne⟩ := weighing k hk
    exact kept k ne (lot k hk)
  · rw [ledger]
    split
    · exact ⟨rfl, rfl⟩
    next ne => exact free k fun open_ => hk (kept k (fun e => ne (congrArg _ e)) open_)
  · have balanced := all running acc
    unfold Balanced at *
    rw [ledger, line]
    split
    next e =>
      subst e
      rw [nothing]
      rfl
    · exact balanced
  · rw [show (issueBill n i b s).phase = s.phase by simp, running] at hc
    cases hc

theorem ownCloseLot_balanceLaw (number : Nat) {s : State} (running : s.phase = .running) (h : BalanceLaw s) :
    BalanceLaw (ownCloseLot number s).1 := by
  unfold ownCloseLot
  split
  · exact h
  split
  · exact h
  split
  · exact h
  · exact h
  next n free _ =>
    have free := forall_of_firstOf_none free
    simp only [List.forall_mem_cons] at free
    exact issueBill_balanceLaw free.1 free.2.1 running h

/-- Close Call, behind an empty line, empties the plan and the unassigned account (R89, R90, R153). -/
theorem ownCloseCall_balanceLaw {s : State} (line : WeigherLaw s) (running : s.phase = .running) (h : BalanceLaw s) :
    BalanceLaw (ownCloseCall s).1 := by
  unfold ownCloseCall
  split
  · exact h
  next free =>
    have free := forall_of_firstOf_none free
    simp only [List.forall_mem_cons, bne_eq_false_iff_eq] at free
    obtain ⟨-, lot, closed, all, -⟩ := h
    refine ⟨nofun, nofun, closed, fun _ acc => ?_, fun hc => ?_⟩
    · cases acc with
      | lot i => exact all running (.lot i)
      | unassigned =>
        change (0 : Nat) = 0 + massInLine s.weigher.line .unassigned
        rw [massInLine_of_empty line free.2.2.1]
    · rw [show s.phase = .cold from hc] at running
      cases running

/-- A changed record of an unfinished step names the same slot. -/
theorem updateId_namesSlots {p : Plan} (ids : p.steps.Pairwise (fun a b => a.id ≠ b.id)) {st : Step} (mem : st ∈ p.steps)
    (open_ : st.unfinished = true) {f : Step → Step} (slot : (f st).slot = st.slot) : p.NamesSlots (p.updateId st.id f) := by
  intro b hb ho
  obtain ⟨x, hx, rfl⟩ := List.mem_map.1 hb
  by_cases e : x.id = st.id
  · obtain rfl : x = st := eq_of_id_eq ids hx mem e
    exact ⟨x, hx, open_, by simp [slot]⟩
  · simp only [beq_iff_eq, e, if_false] at ho ⊢
    exact ⟨x, hx, ho, rfl⟩

theorem balanceLaw_of_weighingLot {i : Slot} {s : State} (h : BalanceLaw s) (open_ : slotOpen s i) :
    BalanceLaw { s with weigher := { s.weigher with weighingLot := some i } } := by
  obtain ⟨steps, -, rest⟩ := h
  exact ⟨steps, fun k hk => Option.some.inj hk ▸ open_, rest⟩

/-- A start makes the slot of the current step the weighing lot (R114). -/
theorem ownStartStep_balanceLaw (revision : Nat) {s : State} (lawful : PlanLaw s) (h : BalanceLaw s) :
    BalanceLaw (ownStartStep revision s).1 := by
  unfold ownStartStep
  split
  · exact h
  split
  · exact h
  next st current =>
    split
    · exact h
    · have open_ : st.unfinished = true := List.find?_some current
      have mem := mem_of_currentStep current
      unfold judgedStart
      dsimp only
      split
      · have started : BalanceLaw (stepStarted st.id (effectiveTarget s st) s) :=
          balanceLaw_of_stand h ⟨rfl, rfl, rfl, rfl, rfl, rfl⟩ (updateId_namesSlots lawful.ids mem open_ rfl)
        exact balanceLaw_of_stand (balanceLaw_of_weighingLot started (h.1 st mem open_))
          (by simp [BooksStand, startPour]) (.of_subset (by simp [startPour]))
      · exact h
      · exact balanceLaw_of_stand h ⟨rfl, rfl, rfl, rfl, rfl, rfl⟩ (updateId_namesSlots lawful.ids mem open_ rfl)

/-- An inserted step names an OPEN slot (R97). -/
theorem ownInsertStep_balanceLaw (position hold slot target maxLevel : Nat) {s : State} (h : BalanceLaw s) :
    BalanceLaw (ownInsertStep position hold slot target maxLevel s).1 := by
  unfold ownInsertStep
  split
  next k i accepted _ named =>
    obtain ⟨-, -, -, -, slots⟩ := insertRefusal_eq_none accepted
    obtain ⟨steps, rest⟩ := h
    refine ⟨fun st hst ho => ?_, rest⟩
    simp only [bumpRevision_eq, List.append_assoc, List.mem_append, List.mem_singleton] at hst
    obtain hst | rfl | hst := hst
    · exact steps st (List.mem_of_mem_take hst) ho
    · exact slots i named
    · exact steps st (List.mem_of_mem_drop hst) ho
  · exact h
  · exact h

theorem ownDeleteStep_balanceLaw (id : Nat) {s : State} (h : BalanceLaw s) : BalanceLaw (ownDeleteStep id s).1 := by
  unfold ownDeleteStep
  split
  · exact h
  split
  · exact h
  split
  · exact balanceLaw_of_stand h ⟨rfl, rfl, rfl, rfl, rfl, rfl⟩ (.of_subset (by simp [bumpRevision_eq]))
  · exact h

theorem ownOpenCall_balanceLaw (id : Nat) (band : Option Nat) {s : State} (h : BalanceLaw s) :
    BalanceLaw (ownOpenCall id band s).1 := by
  unfold ownOpenCall
  split
  · exact h
  split <;> exact h

theorem ownWriteSetting_balanceLaw (i v : Nat) {s : State} (line : WeigherLaw s) (h : BalanceLaw s) :
    BalanceLaw (ownWriteSetting i v s).1 := by
  obtain e | ⟨k, -, -, free, e⟩ := ownWriteSetting_cases i v s <;> rw [e]
  · exact h
  · by_cases hk : k = .lineLength
    · subst hk
      have free := forall_of_firstOf_none free
      simp only [List.forall_mem_singleton, Bool.or_eq_false_iff, bne_eq_false_iff_eq] at free
      exact rebuildLine_balanceLaw (s := storeSetting .lineLength v s) v (massInLine_of_empty (s := s) line free.1) h
    · exact balanceLaw_of_stand h (by simp [BooksStand, applySetting_weigher hk]) (.of_subset (by simp))

theorem balanceLaw_owner {s : State} {f : State → State × Answer} (hf : Owner f) (line : WeigherLaw s) (lawful : PlanLaw s)
    (running : s.phase = .running) (h : BalanceLaw s) : BalanceLaw (f s).1 := by
  obtain plan | ⟨revision, rfl⟩ | ⟨id, band, rfl⟩ | rfl | ⟨p, k, i, t, m, rfl⟩ | ⟨id, rfl⟩ := owner_plan lawful hf
  · cases hf with
    | openLot number grade length reference declared => exact ownOpenLot_balanceLaw _ _ _ _ _ running h
    | closeLot number => exact ownCloseLot_balanceLaw number running h
    | writeSetting i v => exact ownWriteSetting_balanceLaw i v line h
    | writeCalibration z sp b =>
      obtain e | e := ownWriteCalibration_cases z sp b s <;> rw [e] <;> exact h
    | calibrationRequest z sp b u =>
      cases u with
      | false => exact h
      | true =>
        obtain e | e := ownWriteCalibration_cases z sp b (setCalUnlock true s) <;>
          simp only [calibrationRequest, if_true, e] <;> exact h
    | closeCall => exact ownCloseCall_balanceLaw line running h
    | startStep revision => exact ownStartStep_balanceLaw revision lawful h
    | _ => exact balanceLaw_of_stand h (by simp [BooksStand]) plan.namesSlots
  · exact ownStartStep_balanceLaw revision lawful h
  · exact ownOpenCall_balanceLaw id band h
  · exact ownCloseCall_balanceLaw line running h
  · exact ownInsertStep_balanceLaw p k i t m h
  · exact ownDeleteStep_balanceLaw id h

/-! ### Cold start and recovery -/

/-- The booking of an account that booked no more than it weighed (R176). -/
theorem booked_book {l : Ledger} (le : l.booked ≤ l.weighed) (fits : l.weighed < 2 ^ 64) : l.book.booked = l.weighed := by
  have unplaced : massAdd l.unplaced l.excess = l.unplaced + l.excess :=
    massAdd_of_fits _ _ (by unfold Ledger.excess; unfold Ledger.booked at *; omega)
  have : l.book.booked = splitSum l + l.rejected + l.spilled + massAdd l.unplaced l.excess := rfl
  rw [this, unplaced]
  unfold Ledger.excess
  unfold Ledger.booked at *
  omega

/-- The recovery booking of an account, booked or not as far as it came. -/
theorem bookFirst_ledger (n : Nat) (s : State) (acc : Account) :
    (bookFirst n s).accounts.ledger acc = s.accounts.ledger acc ∨
    (bookFirst n s).accounts.ledger acc = (s.accounts.ledger acc).book := by
  cases acc with
  | unassigned =>
    change (if 16 < n then s.accounts.unassigned.book else s.accounts.unassigned) = _ ∨
      (if 16 < n then s.accounts.unassigned.book else s.accounts.unassigned) = _
    split
    · exact .inr rfl
    · exact .inl rfl
  | lot i =>
    change ((bookFirst n s).accounts.lots.get i).ledger = _ ∨ ((bookFirst n s).accounts.lots.get i).ledger = _
    rw [bookFirst_lot]
    split
    · unfold Lot.book
      split
      · exact .inr rfl
      · exact .inl rfl
    · exact .inl rfl

theorem bookFirst_isOpen (n : Nat) (s : State) (i : Slot) :
    ((bookFirst n s).accounts.lots.get i).isOpen = (s.accounts.lots.get i).isOpen := by
  rw [bookFirst_lot]
  split
  · unfold Lot.book
    split <;> rfl
  · rfl

/-- A part held at cold start, as far as its accounts go: the balance law with nothing in the line. -/
def ColdBooks (s : State) : Prop :=
  BalanceLaw s ∧ s.phase = .cold ∧ MassesFit s ∧ ∀ acc, massInLine s.weigher.line acc = 0

theorem coldBooks_of_stand {s t : State} (h : ColdBooks s) (books : BooksStand s t) (plan : s.plan.NamesSlots t.plan) :
    ColdBooks t := by
  obtain ⟨law, cold, fits, nothing⟩ := h
  refine ⟨balanceLaw_of_stand law books plan, books.2.2.2.2.2.trans cold, fun acc => ?_, fun acc => ?_⟩
  · rw [books.ledger]
    exact fits acc
  · rw [books.2.2.1]
    exact nothing acc

theorem checkSettings_coldBooks {s : State} (h : ColdBooks s) : ColdBooks (checkSettings s) := by
  by_cases hg : s.store.checkWord = checkWord s.store.settings
  · rw [checkSettings_of_good hg]
    split <;> exact h
  · rw [checkSettings_of_bad hg]
    obtain ⟨law, cold, fits, nothing⟩ := h
    exact ⟨rebuildLine_balanceLaw (s := storeSettings Settings.default s) _ nothing law, cold, fits,
      fun acc => massInLine_replicate _ acc⟩

theorem bookFirst_coldBooks (n : Nat) {s : State} (h : ColdBooks s) : ColdBooks (bookFirst n s) := by
  obtain ⟨⟨steps, lot, free, -, within⟩, cold, fits, nothing⟩ := h
  obtain ⟨total, within⟩ := within cold
  have masses (acc : Account) : ((bookFirst n s).accounts.ledger acc).weighed = (s.accounts.ledger acc).weighed ∧
      ((s.accounts.ledger acc).booked ≤ ((bookFirst n s).accounts.ledger acc).booked) ∧
      ((bookFirst n s).accounts.ledger acc).booked ≤ (s.accounts.ledger acc).weighed := by
    have le := within acc
    obtain e | e := bookFirst_ledger n s acc <;> rw [e]
    · exact ⟨rfl, Nat.le_refl _, le⟩
    · have room := fits acc
      have all := booked_book le (by omega)
      exact ⟨rfl, by omega, by omega⟩
  refine ⟨⟨fun st hst ho => ?_, fun i hi => ?_, fun i closed => ?_, fun hr => ?_, fun _ => ⟨total, fun acc => ?_⟩⟩, cold,
    fun acc => ?_, nothing⟩
  · rw [slotOpen, bookFirst_isOpen]
    exact steps st hst ho
  · rw [slotOpen, bookFirst_isOpen]
    exact lot i hi
  · rw [slotOpen, bookFirst_isOpen] at closed
    have := masses (.lot i)
    have := free i closed
    omega
  · rw [show s.phase = .running from hr] at cold
    cases cold
  · have := masses acc
    omega
  · rw [(masses acc).1]
    exact fits acc

theorem bookLoss_unassigned (s : State) : (bookLoss s).accounts.unassigned = s.accounts.unassigned.book := by
  have all : 16 < 17 := by decide
  simp only [bookLoss, bookFirst, if_pos all]

/-- After the whole booking every account has booked what it weighed (R176). -/
theorem bookLoss_booked {s : State} (h : ColdBooks s) (acc : Account) :
    ((bookLoss s).accounts.ledger acc).booked = ((bookLoss s).accounts.ledger acc).weighed := by
  obtain ⟨⟨-, -, free, -, within⟩, cold, fits, -⟩ := h
  have room := fits acc
  have all := booked_book ((within cold).2 acc) (by omega)
  cases acc with
  | unassigned =>
    simp only [Accounts.ledger, bookLoss_unassigned] at all ⊢
    exact all
  | lot i =>
    simp only [Accounts.ledger, bookLoss_lot] at all ⊢
    unfold Lot.book
    split
    · exact all
    next closed =>
      obtain ⟨weighed, booked⟩ := free i closed
      exact booked.trans weighed.symm

theorem holdForPower_stand (s : State) : BooksStand s (holdForPower s) := by
  simp [BooksStand]

theorem recoveredTo_coldBooks (p : RecoveryPoint) {s : State} (h : ColdBooks s) : ColdBooks (recoveredTo p s) := by
  have checked := checkSettings_coldBooks h
  have booked : ColdBooks (bookLoss (checkSettings s)) := bookFirst_coldBooks 17 checked
  have held := coldBooks_of_stand booked (holdForPower_stand _)
    (holdForPower_plan (.refl (bookLoss (checkSettings s)).plan)).namesSlots
  have clamped : ColdBooks (clampPreact (holdForPower (bookLoss (checkSettings s)))) :=
    coldBooks_of_stand held (by simp [BooksStand]) (.of_subset (by simp))
  cases p with
  | begun => exact h
  | checked => exact checked
  | booked last => exact bookFirst_coldBooks _ checked
  | held => exact held
  | clamped => exact clamped
  | raised => exact coldBooks_of_stand clamped (by simp [recoveredTo, BooksStand]) (.of_subset (by simp [recoveredTo]))

/-- Cold start loses the line: what was weighed and not booked is then in the line no more (R24). -/
theorem coldStart_balanceLaw {s : State} (h : BalanceLaw s) : BalanceLaw (coldStart s) := by
  obtain ⟨steps, lot, free, running, cold⟩ := h
  refine ⟨steps, lot, free, nofun, fun _ => ⟨rfl, fun acc => ?_⟩⟩
  have within : (s.accounts.ledger acc).booked ≤ (s.accounts.ledger acc).weighed := by
    cases hp : s.phase with
    | cold => exact (cold hp).2 acc
    | running =>
      have := running hp acc
      unfold Balanced at this
      omega
  cases acc <;> exact within

theorem resetAsserts_balanceLaw {s : State} (h : BalanceLaw s) : BalanceLaw (resetAsserts s) := by
  have cold := coldStart_balanceLaw h
  exact cold

theorem recover_balanceLaw {s : State} (h : ColdBooks s) : BalanceLaw (recover s) := by
  have begun : ColdBooks { s with pins := { s.pins with resetN := false } } := h
  have raised := recoveredTo_coldBooks .raised begun
  have booked (acc : Account) : ((recoveredTo .raised { s with pins := { s.pins with resetN := false } }).accounts.ledger acc).booked =
      ((recoveredTo .raised { s with pins := { s.pins with resetN := false } }).accounts.ledger acc).weighed := by
    have e := (holdForPower_stand (bookLoss (checkSettings { s with pins := { s.pins with resetN := false } }))).ledger acc
    have := bookLoss_booked (checkSettings_coldBooks begun) acc
    rw [← e] at this
    exact this
  unfold recover
  generalize recoveredTo .raised { s with pins := { s.pins with resetN := false } } = u at *
  obtain ⟨⟨steps, lot, free, -, -⟩, -, -, nothing⟩ := raised
  have lots : (completeRecovery u).accounts.lots = u.accounts.lots := by simp
  have ledger (acc : Account) : (completeRecovery u).accounts.ledger acc = u.accounts.ledger acc := by
    cases acc <;> simp [Accounts.ledger]
  have line : (completeRecovery u).weigher.line = u.weigher.line := by simp
  refine ⟨fun st hst => ?_, fun i hi => ?_, fun i => ?_, fun _ acc => ?_, fun hc => ?_⟩
  · rw [slotOpen, lots]
    exact steps st (by simpa using hst)
  · rw [slotOpen, lots]
    exact lot i (by simpa using hi)
  · rw [slotOpen, lots, ledger]
    exact free i
  · unfold Balanced
    rw [ledger, line, nothing, booked]
    rfl
  · exact absurd hc (by simp [completeRecovery, startClocks])

/-! ### The split law -/

/-- The splits of every account and of every bill. -/
def splitView (s : State) : Vector Lot 16 × Ledger × List Bill :=
  (s.accounts.lots, s.accounts.unassigned, s.accounts.bills)

theorem splitLaw_of_view {s t : State} (h : SplitLaw s) (e : splitView t = splitView s) : SplitLaw t := by
  simp only [splitView, Prod.mk.injEq] at e
  obtain ⟨lots, unassigned, bills⟩ := e
  have ledger (acc : Account) : t.accounts.ledger acc = s.accounts.ledger acc := by
    cases acc <;> simp [Accounts.ledger, lots, unassigned]
  exact ⟨fun acc => by rw [ledger]; exact h.1 acc, by rw [bills]; exact h.2⟩

/-- The splits of an account, whatever else of the accounts has changed. -/
theorem splitLaw_ledger {s : State} (h : SplitLaw s) {bills : List Bill} {counter : Option Nat} (acc : Account) :
    (Accounts.ledger { s.accounts with bills := bills, billCounter := counter } acc).SplitsLawful := by
  cases acc with
  | lot i => exact h.1 (.lot i)
  | unassigned => exact h.1 .unassigned

theorem splitLaw_updateLedger {f : Ledger → Ledger} {acc : Account} {s : State} (h : SplitLaw s)
    (hf : ∀ l : Ledger, l.SplitsLawful → (f l).SplitsLawful) : SplitLaw (updateLedger acc f s) := by
  refine ⟨fun acc' => ?_, by simpa using h.2⟩
  by_cases e : acc' = acc
  · subst e
    rw [updateLedger_ledger_self]
    exact hf _ (h.1 acc')
  · rw [updateLedger_ledger_ne _ _ _ _ e]
    exact h.1 acc'

theorem splitLaw_setLot {i : Slot} {l : Lot} {s : State} (h : SplitLaw s) (hl : l.ledger.SplitsLawful) :
    SplitLaw (setLot i l s) := by
  refine ⟨fun acc => ?_, h.2⟩
  cases acc with
  | unassigned => exact h.1 .unassigned
  | lot k =>
    change ((s.accounts.lots.set i l).get k).ledger.SplitsLawful
    rw [get_set]
    split
    · exact hl
    · exact h.1 (.lot k)

theorem discharge_splitLaw (e : Entry) (d : Destination) {s : State} (h : SplitLaw s) : SplitLaw (discharge e d s) := by
  unfold discharge
  split
  · exact h
  next tagged _ =>
    split
    · exact h
    · cases d with
      | reject => exact splitLaw_updateLedger (f := fun l => { l with rejected := massAdd l.rejected e.mass }) h fun _ hl => hl
      | spill =>
        have spilled := splitLaw_updateLedger (acc := tagged)
          (f := fun l => { l with spilled := massAdd l.spilled e.mass }) h fun _ hl => hl
        dsimp only [dischargeSpill]
        split <;> exact spilled
      | hold k =>
        have placed := splitLaw_updateLedger (acc := tagged)
          (f := fun l => { l with splits := addSplit k e.mass l.splits }) h fun _ hl => addSplit_pairwise hl
        exact splitLaw_of_view placed rfl

theorem moveLine_splitLaw (mass : Nat) (how : Weighing) {s : State} (h : SplitLaw s) : SplitLaw (moveLine mass how s) := by
  have billed : SplitLaw (billSegment mass how s) := by
    unfold billSegment
    split
    · exact h
    · exact splitLaw_updateLedger h fun _ hl => hl
  exact discharge_splitLaw _ _ (s := shiftLine (segmentEntry mass s) (billSegment mass how s)) billed

theorem weighSegment_splitLaw {s : State} (h : SplitLaw s) : SplitLaw (weighSegment s).state := by
  have counted {u : State} (hu : SplitLaw u) : SplitLaw (countUnweighed u) := splitLaw_updateLedger hu fun _ hl => hl
  unfold weighSegment
  dsimp only
  split
  · exact h
  split
  · split
    · exact h
    · exact counted (splitLaw_of_view h (by simp [splitView, enterScaleFault]))
  · exact counted h

theorem countPulse_splitLaw {s : State} (h : SplitLaw s) : SplitLaw (countPulse s) := by
  have closed {u : State} (hu : SplitLaw u) : SplitLaw (closeSegment u) :=
    splitLaw_of_view (moveLine_splitLaw (weighSegment u).mass (weighSegment u).how (weighSegment_splitLaw hu))
      (by simp [splitView, closeSegment])
  unfold countPulse
  dsimp only
  split
  · exact closed (u := { s with weigher := { s.weigher with pulseCount := s.weigher.pulseCount + 1 } }) h
  · exact h

theorem takeWGroup_splitLaw {s : State} (h : SplitLaw s) : SplitLaw (takeWGroup s) := by
  unfold takeWGroup
  split
  next q rest _ =>
    have marked : SplitLaw (markOverRange { s with converter := { s.converter with toWeigher := rest } }) :=
      splitLaw_updateLedger (s := { s with converter := { s.converter with toWeigher := rest } }) h fun _ hl => hl
    unfold weighGroup
    dsimp only
    split
    · exact h
    split
    · exact marked
    · exact h
  · exact h

theorem ownCloseLot_splitLaw (number : Nat) {s : State} (h : SplitLaw s) : SplitLaw (ownCloseLot number s).1 := by
  unfold ownCloseLot
  split
  · exact h
  split
  · exact h
  next i _ =>
    split
    · exact h
    · exact h
    next n _ _ =>
      have freed : SplitLaw (setLot i Lot.free { s with accounts := { s.accounts with
          bills := s.accounts.bills ++ [formBill n i (s.accounts.lots.get i) s], billCounter := nextBill n } }) := by
        refine splitLaw_setLot ⟨fun acc => ?_, ?_⟩ .nil
        · exact splitLaw_ledger h acc
        · intro b hb
          obtain hb | rfl := by simpa using hb
          · exact h.2 b hb
          · exact h.1 (.lot i)
      unfold issueBill
      dsimp only
      split <;> exact freed

theorem splitLaw_owner {s : State} {f : State → State × Answer} (hf : Owner f) (h : SplitLaw s) : SplitLaw (f s).1 := by
  cases hf with
  | openLot number grade length reference declared =>
    unfold ownOpenLot
    split
    · exact h
    split
    · exact h
    split
    · exact h
    · exact splitLaw_setLot h .nil
  | closeLot number => exact ownCloseLot_splitLaw number h
  | releaseBill n =>
    unfold ownReleaseBill
    split
    · exact h
    split
    · exact ⟨fun acc => splitLaw_ledger h acc, fun b hb => h.2 b (List.mem_filter.1 hb).1⟩
    · exact h
  | closeCall =>
    unfold ownCloseCall
    split
    · exact h
    · refine ⟨fun acc => ?_, h.2⟩
      cases acc with
      | lot i => exact h.1 (.lot i)
      | unassigned => exact .nil
  | _ => exact splitLaw_of_view h (by simp [splitView])

theorem bookFirst_splitLaw (n : Nat) {s : State} (h : SplitLaw s) : SplitLaw (bookFirst n s) := by
  refine ⟨fun acc => ?_, h.2⟩
  obtain e | e := bookFirst_ledger n s acc <;> rw [e]
  · exact h.1 acc
  · exact h.1 acc

theorem recoveredTo_splitLaw (p : RecoveryPoint) {s : State} (h : SplitLaw s) : SplitLaw (recoveredTo p s) := by
  have checked : SplitLaw (checkSettings s) := splitLaw_of_view h (by simp [splitView])
  have booked (n : Nat) := bookFirst_splitLaw n checked
  have held : SplitLaw (holdForPower (bookLoss (checkSettings s))) := splitLaw_of_view (booked 17) (by simp [splitView, bookLoss])
  cases p with
  | begun => exact h
  | checked => exact checked
  | booked last => exact booked _
  | held => exact held
  | clamped => exact held
  | raised => exact held

/-! ### Every step -/

theorem splitLaw_kept : Kept SplitLaw SplitLaw where
  base _ h := h
  queue _ _ h := h
  answer _ _ h := h
  tick s h := splitLaw_of_view h (by simp [splitView])
  owner s f hf _ h := splitLaw_owner hf h
  pins s c p f hc h := splitLaw_of_view h (by cases hc <;> simp [splitView])
  arrival s c p f hc hr h := by
    cases hc with
    | takeRequest st u =>
      exact takeHead_keeps (fun _ h => h) (fun _ _ h => h) (fun _ _ _ h => h)
        (fun _ _ _ h => splitLaw_of_view h (by simp [splitView])) (fun _ _ hf _ h => splitLaw_owner hf h) hr h
    | frameComplete st chars =>
      exact takeCharacters_keeps (law := SplitLaw) (fun _ _ h => splitLaw_of_view h (by simp [splitView])) chars h
    | tachPulse => exact countPulse_splitLaw h
    | wGroupArrival => exact takeWGroup_splitLaw h
    | secondsTick =>
      refine splitLaw_of_view h ?_
      simp only [splitView, id, tickSeconds_bills]
      unfold tickSeconds
      split <;> rfl
    | _ => exact splitLaw_of_view h (by simp [splitView])
  cold s h := ⟨fun acc => by cases acc with
    | lot i => exact h.1 (.lot i)
    | unassigned => exact h.1 .unassigned, h.2⟩
  reset s h := ⟨fun acc => by cases acc with
    | lot i => exact h.1 (.lot i)
    | unassigned => exact h.1 .unassigned, h.2⟩
  recover s _ h := splitLaw_of_view (recoveredTo_splitLaw .raised (s := { s with pins := { s.pins with resetN := false } }) h)
    (by simp [splitView, recover])
  abandon s p _ h := splitLaw_of_view (recoveredTo_splitLaw p h) rfl

theorem takeWGroup_balanceLaw {s : State} (h : BalanceLaw s) : BalanceLaw (takeWGroup s) := by
  unfold takeWGroup
  split
  next q rest _ =>
    have marked : BalanceLaw (markOverRange { s with converter := { s.converter with toWeigher := rest } }) :=
      balanceLaw_updateLedger (f := fun l => { l with overRange := true }) (fun _ => ⟨rfl, rfl⟩)
        (s := { s with converter := { s.converter with toWeigher := rest } }) h
    have loaded {u : State} (load : Nat) (hu : BalanceLaw u) :
        BalanceLaw { u with weigher := ({ u.weigher with input := .live }).addLoad load } := by
      unfold Weigher.addLoad
      split <;> exact hu
    unfold weighGroup
    dsimp only
    split
    · exact h
    split
    · exact loaded _ marked
    · exact loaded (u := { s with converter := { s.converter with toWeigher := rest } }) _ h
  · exact h

theorem balanceLaw_kept :
    Kept (fun s => SettingsLaw s ∧ WeigherLaw s ∧ PlanLaw s ∧ MassesFit s ∧ BalanceLaw s) BalanceLaw where
  base _ := fun ⟨_, _, _, _, h⟩ => h
  queue _ _ h := h
  answer _ _ h := h
  tick s := fun ⟨_, _, _, _, h⟩ => balanceLaw_of_stand h (by simp [BooksStand]) (.of_subset (by simp))
  owner s f hf hr := fun ⟨_, line, lawful, _, h⟩ => balanceLaw_owner hf line lawful hr h
  pins s c p f hc := fun ⟨_, _, _, _, h⟩ =>
    balanceLaw_of_stand h (by cases hc <;> simp [BooksStand]) (.of_subset (by cases hc <;> simp))
  arrival s c p f hc hr := fun ⟨settings, line, lawful, fits, h⟩ => by
    cases hc with
    | takeRequest st u =>
      exact takeHead_keeps (pre := fun s => WeigherLaw s ∧ PlanLaw s ∧ BalanceLaw s) (fun _ h => h.2.2) (fun _ _ h => h)
        (fun _ _ _ h => h)
        (fun _ _ _ h => balanceLaw_of_stand h (by simp [BooksStand]) (.of_subset (by simp)))
        (fun _ _ hf hr h => balanceLaw_owner hf h.1 h.2.1 hr h.2.2) hr ⟨line, lawful, h⟩
    | frameComplete st chars =>
      exact takeCharacters_keeps (law := BalanceLaw)
        (fun _ _ h => balanceLaw_of_stand h (by simp [BooksStand]) (.of_subset (by simp))) chars h
    | tachPulse => exact countPulse_balanceLaw settings ((weigherLaw_iff s).1 line).1 fits hr h
    | wGroupArrival => exact takeWGroup_balanceLaw h
    | encoderCount d =>
      exact balanceLaw_of_stand h (by simp [BooksStand]) (countEncoder_plan (.refl s.plan) d).namesSlots
    | secondsTick =>
      refine balanceLaw_of_stand h ⟨?_, ?_, rfl, rfl, rfl, rfl⟩ (.of_subset (by simp))
      · simp only [id, tickSeconds]
        split <;> rfl
      · simp only [id, tickSeconds]
        split <;> rfl
    | _ => exact balanceLaw_of_stand h (by simp [BooksStand]) (.of_subset (by simp))
  cold s := fun ⟨_, _, _, _, h⟩ => coldStart_balanceLaw h
  reset s := fun ⟨_, _, _, _, h⟩ => resetAsserts_balanceLaw h
  recover s hc := fun ⟨_, line, _, fits, h⟩ =>
    recover_balanceLaw ⟨h, hc, fits, massInLine_of_empty line (h.2.2.2.2 hc).1⟩
  abandon s p hc := fun ⟨_, line, _, fits, h⟩ =>
    resetAsserts_balanceLaw (recoveredTo_coldBooks p ⟨h, hc, fits, massInLine_of_empty line (h.2.2.2.2 hc).1⟩).1

/-- Settles O59. -/
theorem balanceLawIsKept : Obligations.BalanceLawIsKept :=
  ⟨fun _ _ settings weigher plan fits h ht => balanceLaw_kept.step ⟨settings, weigher, plan, fits, h⟩ ht,
    splitLaw_kept.keeps⟩

end Sys2Proof.Machine

end

section
/-! The law of the loader (R83, R109, R110, R115): feed and travel kept apart. In a running part it is three laws that each
look at one block: the gate's, the carriage's, and that of the pour over it. -/

namespace Sys2Proof.Machine

open Sys2Proof

/-! ### The law of a running part, block by block -/

/-- The gate: FEED_PERMIT follows the governor's state, which feeds only with the dust stage low, the belt running and ESTOP
released, and, where `P` is known, presence live; the belt permit follows the stage and ESTOP (R110, R132). -/
structure GateOk (P : Prop) (s : State) : Prop where
  permit : s.governor.feedPermit = true ↔ s.governor.state.feeding = true
  stage : s.governor.state.feeding = true → s.dust.stage = .clear ∨ s.dust.stage = .warn
  belt : s.governor.state.feeding = true → s.pins.beltRun = true
  estop : s.governor.state.feeding = true → s.pins.estop = false
  presence : s.governor.state.feeding = true → P
  beltPermit : s.governor.beltPermit = (s.dust.stage != .trip && !s.pins.estop)

/-- The carriage: its timers run where they are needed, PENDING is entered from rest, and the spout is over a hold only at a
referenced position (R66, R69, R70, R76). -/
structure CarriageOk (s : State) : Prop where
  timer : s.travel.travelTimer.isSome = true → s.travel.state.inMotion = true
  runOut : s.travel.runOutTimer.isSome = true → s.travel.state = .pending
  before : s.travel.state = .pending → s.travel.beforePending = .parked ∨ s.travel.beforePending = .unreferenced
  spout : s.travel.spoutOver.isSome = true → s.travel.referenced = true

/-- Motion is over an empty line or a diverter at REJECT (R83). -/
def GrainOk (s : State) : Prop :=
  s.travel.state.inMotion = true → s.weigher.lineTotal = 0 ∨ s.travel.diverter = .reject

/-- The pour: the governor is IDLE exactly while no step is ACTIVE, and an ACTIVE step keeps the carriage at rest and
referenced, the diverter at NORMAL and the settings not DEFAULTED (R69, R80, R83, R109, R111). -/
structure PourOk (s : State) : Prop where
  idle : activeHold s = none ↔ s.governor.state = .idle
  rest : activeHold s ≠ none → s.travel.state = .parked ∨ s.travel.state = .stopped
  referenced : activeHold s ≠ none → s.travel.referenced = true
  normal : activeHold s ≠ none → s.travel.diverter = .normal
  settings : activeHold s ≠ none → s.store.defaulted = false

/-- Until its cutoff an ACTIVE step has the spout over its hold and the scale NORMAL (R129, R130). -/
def SpoutOk (s : State) : Prop :=
  ∀ h, activeHold s = some h → s.governor.state ≠ .cutoff → s.travel.spoutOver = some h ∧ s.weigher.scale = .normal

/-- The three conditions of a pending swap do not hold together (R63). -/
def SwapOk (s : State) : Prop :=
  s.travel.swapPending = true → s.travel.state.inMotion = false → activeHold s = none → s.weigher.lineTotal ≠ 0

/-- What is known of the device within a command: that presence is live, that the spout is over the hold of a step being fed
(it is not within a scale fault or an encoder count), that motion is over no grain and that no swap is due (neither is within a
segment close). -/
structure Known where
  presence : Prop
  spout : Prop
  grain : Prop
  swap : Prop

/-- The laws together, so far as they are known. -/
structure Loader (k : Known) (s : State) : Prop where
  gate : GateOk k.presence s
  carriage : CarriageOk s
  pour : PourOk s
  spout : k.spout → SpoutOk s
  grain : k.grain → GrainOk s
  swap : k.swap → SwapOk s

/-- What the law of the loader says between commands. -/
def State.known (s : State) : Known :=
  { presence := s.governor.presenceLive = true, spout := True, grain := True, swap := False }

theorem activeHold_eq_none (s : State) : activeHold s = none ↔ stepActive s = false := by
  simp [activeHold, stepActive]

theorem activeHold_of_activeStep {s : State} {st : Step} (h : activeStep s.plan = some st) :
    activeHold s = some st.hold := by
  rw [activeHold, h]
  rfl

theorem feeding_ne_idle {g : GovernorState} (h : g.feeding = true) : g ≠ .idle := by
  rintro rfl
  cases h

theorem feeding_ne_cutoff {g : GovernorState} (h : g.feeding = true) : g ≠ .cutoff := by
  rintro rfl
  cases h

/-- The laws of a running part, as the law of the loader puts them. -/
theorem loader_of_loaderLaw {s : State} (hr : s.phase = .running) (h : LoaderLaw s) :
    Loader s.known s := by
  obtain ⟨⟨permit, feeds⟩, travels, running, -⟩ := h
  obtain ⟨idle, belt, timer, runOut, before, spout, active⟩ := running hr
  have feed (hf : s.governor.state.feeding = true) := feeds (permit.2 hf)
  have step : activeHold s ≠ none → ∃ st, activeStep s.plan = some st := by
    simp [activeHold, Option.ne_none_iff_exists']
  refine ⟨⟨permit, fun hf => ?_, fun hf => ?_, fun hf => ?_, fun hf => ?_, belt⟩,
    ⟨timer, runOut, before, spout⟩,
    ⟨(activeHold_eq_none s).trans idle, fun h => ?_, fun h => ?_, fun h => ?_, fun h => ?_⟩, fun _ k hk hc => ?_,
    fun _ hm => (travels hm).2.2, nofun⟩
  · exact (feed hf).2.1
  · exact (feed hf).2.2.2.1
  · exact (feed hf).2.2.2.2.2.1
  · exact (feed hf).2.2.2.2.2.2.1
  · exact (active _ (step h).choose_spec).1
  · exact (active _ (step h).choose_spec).2.1
  · exact (active _ (step h).choose_spec).2.2.1
  · exact (active _ (step h).choose_spec).2.2.2.1
  · obtain ⟨st, hst⟩ := step (by simp [hk])
    obtain rfl : st.hold = k := by simpa [activeHold_of_activeStep hst] using hk
    exact (active st hst).2.2.2.2 hc

theorem loaderLaw_of_loader {s : State} (hr : s.phase = .running) (h : Loader s.known s) :
    LoaderLaw s := by
  obtain ⟨gate, carriage, pour, spout, grain, -⟩ := h
  have free : s.travel.state.inMotion = true → activeHold s = none := by
    intro hm
    by_contra hn
    obtain e | e := pour.rest hn <;> rw [e] at hm <;> cases hm
  have active (st : Step) (hst : activeStep s.plan = some st) : activeHold s ≠ none := by
    simp [activeHold_of_activeStep hst]
  refine ⟨⟨gate.permit, fun hp => ?_⟩, fun hm => ?_, fun _ => ?_, fun hc => absurd (hr.symm.trans hc) (by decide)⟩
  · have hf := gate.permit.1 hp
    obtain ⟨k, hk⟩ := Option.ne_none_iff_exists'.1 (mt pour.idle.1 (feeding_ne_idle hf))
    obtain ⟨st, hst⟩ : ∃ st, activeStep s.plan = some st := by
      rw [activeHold, Option.map_eq_some_iff] at hk
      exact ⟨_, hk.choose_spec.1⟩
    obtain ⟨placed, scale⟩ := spout trivial _ (activeHold_of_activeStep hst) (feeding_ne_cutoff hf)
    have stage := gate.stage hf
    refine ⟨hf, stage, ⟨st, hst, placed⟩, gate.belt hf, ?_, gate.estop hf, gate.presence hf, scale,
      pour.normal (active st hst), pour.settings (active st hst)⟩
    rw [gate.beltPermit, gate.estop hf]
    obtain e | e := stage <;> rw [e] <;> rfl
  · refine ⟨(activeHold_eq_none s).1 (free hm), ?_, grain trivial hm⟩
    have := pour.idle.1 (free hm)
    cases hp : s.governor.feedPermit with
    | false => rfl
    | true => exact absurd this (feeding_ne_idle (gate.permit.1 hp))
  · exact ⟨(activeHold_eq_none s).symm.trans pour.idle, gate.beltPermit, carriage.timer, carriage.runOut, carriage.before,
      carriage.spout, fun st hst => ⟨pour.rest (active st hst), pour.referenced (active st hst),
        pour.normal (active st hst), pour.settings (active st hst),
        fun hc => spout trivial _ (activeHold_of_activeStep hst) hc⟩⟩

/-! ### Changes that the laws do not see -/

/-- From `s` to `t` the carriage, the line and the settings stay as they are, so far as the laws look at them. -/
structure Surrounds (s t : State) : Prop where
  state : t.travel.state = s.travel.state
  timer : t.travel.travelTimer = s.travel.travelTimer
  runOut : t.travel.runOutTimer = s.travel.runOutTimer
  before : t.travel.beforePending = s.travel.beforePending
  referenced : t.travel.referenced = s.travel.referenced
  spout : t.travel.spoutOver = s.travel.spoutOver
  diverter : t.travel.diverter = s.travel.diverter
  swapPending : t.travel.swapPending = s.travel.swapPending
  total : t.weigher.lineTotal = s.weigher.lineTotal
  scale : t.weigher.scale = s.weigher.scale
  defaulted : t.store.defaulted = s.store.defaulted

/-- From `g` to `g'` the governor starts no feed, and leaves neither IDLE nor CUTOFF. -/
structure Governor.Eases (g g' : Governor) : Prop where
  beltPermit : g'.beltPermit = g.beltPermit
  idle : g'.state = .idle ↔ g.state = .idle
  cutoff : g'.state ≠ .cutoff → g.state ≠ .cutoff
  feeding : g'.state.feeding = true → g.state.feeding = true
  permit : (g.feedPermit = true ↔ g.state.feeding = true) → (g'.feedPermit = true ↔ g'.state.feeding = true)

theorem Governor.Eases.of_eq {g g' : Governor} (state : g'.state = g.state) (permit : g'.feedPermit = g.feedPermit)
    (belt : g'.beltPermit = g.beltPermit) : g.Eases g' :=
  ⟨belt, by rw [state], by rw [state]; exact fun h => h, by rw [state]; exact fun h => h,
    by rw [state, permit]; exact fun h => h⟩

/-- A governor that feeds no more. -/
theorem Governor.Eases.of_shut {g g' : Governor} (belt : g'.beltPermit = g.beltPermit)
    (idle : g'.state = .idle ↔ g.state = .idle) (cutoff : g'.state ≠ .cutoff → g.state ≠ .cutoff)
    (shut : g'.state.feeding = false) (permit : g'.feedPermit = false) : g.Eases g' :=
  ⟨belt, idle, cutoff, by simp [shut], by simp [shut, permit]⟩

/-- A governor that feeds on in another feeding state. -/
theorem Governor.Eases.of_feeding {g g' : Governor} (belt : g'.beltPermit = g.beltPermit)
    (permit : g'.feedPermit = g.feedPermit) (was : g.state.feeding = true) (now : g'.state.feeding = true) : g.Eases g' :=
  ⟨belt, iff_of_false (feeding_ne_idle now) (feeding_ne_idle was), fun _ => feeding_ne_cutoff was, fun _ => was,
    fun h => by rw [permit, h, was, now]⟩

theorem Governor.under_eases (g : Governor) (ceiling : Nat) : g.Eases (g.under ceiling) := by
  by_cases h : g.state = .running ∧ g.level < ceiling
  · exact .of_feeding rfl rfl (by rw [h.1]; rfl) (by simp only [if_pos h]; rfl)
  · exact .of_eq (if_neg h) rfl rfl

section
variable {k : Known} {s : State} (h : Loader k s)
include h

/-- A change of the gate, and of what the laws do not look at. -/
theorem Loader.regate {t : State} (around : Surrounds s t) (hold : activeHold t = activeHold s) (gate : GateOk k.presence t)
    (idle : t.governor.state = .idle ↔ s.governor.state = .idle)
    (cutoff : t.governor.state ≠ .cutoff → s.governor.state ≠ .cutoff) : Loader k t := by
  obtain ⟨-, carriage, pour, spout, grain, swap⟩ := h
  obtain ⟨state, timer, runOut, before, referenced, spoutOver, diverter, swapPending, total, scale, defaulted⟩ := around
  refine ⟨gate, ⟨?_, ?_, ?_, ?_⟩, ⟨?_, ?_, ?_, ?_, ?_⟩, fun known j hj hc => ?_, fun known => ?_,
    fun known => ?_⟩
  · rw [timer, state]
    exact carriage.timer
  · rw [runOut, state]
    exact carriage.runOut
  · rw [state, before]
    exact carriage.before
  · rw [spoutOver, referenced]
    exact carriage.spout
  · rw [hold, idle]
    exact pour.idle
  · rw [hold, state]
    exact pour.rest
  · rw [hold, referenced]
    exact pour.referenced
  · rw [hold, diverter]
    exact pour.normal
  · rw [hold, defaulted]
    exact pour.settings
  · rw [spoutOver, scale]
    exact spout known j (hold ▸ hj) (cutoff hc)
  · unfold GrainOk
    rw [state, total, diverter]
    exact grain known
  · unfold SwapOk
    rw [swapPending, state, hold, total]
    exact swap known

/-- A change of the governor that starts no feed. -/
theorem Loader.govern {t : State} (around : Surrounds s t) (dust : t.dust.stage = s.dust.stage) (pins : t.pins = s.pins)
    (hold : activeHold t = activeHold s) (eases : s.governor.Eases t.governor) : Loader k t := by
  obtain ⟨permit, stage, belt, estop, presence, beltPermit⟩ := h.gate
  refine h.regate around hold ⟨eases.permit permit, ?_, ?_, ?_, fun hf => presence (eases.feeding hf), ?_⟩ eases.idle
    eases.cutoff
  · exact fun hf => dust ▸ stage (eases.feeding hf)
  · exact fun hf => pins ▸ belt (eases.feeding hf)
  · exact fun hf => pins ▸ estop (eases.feeding hf)
  · rw [eases.beltPermit, dust, pins]
    exact beltPermit

/-- A change of what the laws do not look at. -/
theorem Loader.same {t : State} (around : Surrounds s t) (dust : t.dust.stage = s.dust.stage) (pins : t.pins = s.pins)
    (hold : activeHold t = activeHold s) (state : t.governor.state = s.governor.state)
    (permit : t.governor.feedPermit = s.governor.feedPermit) (belt : t.governor.beltPermit = s.governor.beltPermit) :
    Loader k t :=
  h.govern around dust pins hold (.of_eq state permit belt)

/-- A change of the carriage alone, with no step ACTIVE. -/
theorem Loader.travels {t : State} (free : activeHold s = none) (hold : activeHold t = activeHold s)
    (governor : t.governor = s.governor) (dust : t.dust = s.dust) (pins : t.pins = s.pins) (carriage : CarriageOk t)
    (grain : k.grain → GrainOk t) (swap : k.swap → SwapOk t) : Loader k t := by
  have still : activeHold t = none := hold.trans free
  refine ⟨?_, carriage, ⟨?_, absurd still, absurd still, absurd still, absurd still⟩, fun _ j hj => ?_, grain, swap⟩
  · obtain ⟨gate, -⟩ := h
    exact ⟨by rw [governor]; exact gate.permit, by rw [governor, dust]; exact gate.stage,
      by rw [governor, pins]; exact gate.belt, by rw [governor, pins]; exact gate.estop,
      by rw [governor]; exact gate.presence, by rw [governor, dust, pins]; exact gate.beltPermit⟩
  · rw [hold, governor]
    exact h.pour.idle
  · rw [still] at hj
    cases hj

/-- In CUTOFF or IDLE the spout may be anywhere. -/
theorem Loader.of_cutoff (state : s.governor.state = .cutoff ∨ s.governor.state = .idle) :
    Loader { k with spout := True } s := by
  refine ⟨h.gate, h.carriage, h.pour, fun _ j hj hc => ?_, h.grain, h.swap⟩
  obtain e | e := state
  · exact absurd e hc
  · rw [h.pour.idle.2 e] at hj
    cases hj

theorem Loader.weaken {k' : Known} (presence : k.presence → k'.presence) (spout : k'.spout → k.spout)
    (grain : k'.grain → k.grain) (swap : k'.swap → k.swap) : Loader k' s :=
  ⟨⟨h.gate.permit, h.gate.stage, h.gate.belt, h.gate.estop, fun hf => presence (h.gate.presence hf), h.gate.beltPermit⟩,
    h.carriage, h.pour, fun known => h.spout (spout known), fun known => h.grain (grain known), fun known => h.swap (swap known)⟩

theorem Loader.free_of_inMotion (hm : s.travel.state.inMotion = true) : activeHold s = none := by
  by_contra hn
  obtain e | e := h.pour.rest hn <;> rw [e] at hm <;> cases hm

theorem Loader.free_of_pending (hm : s.travel.state = .pending) : activeHold s = none := by
  by_contra hn
  obtain e | e := h.pour.rest hn <;> rw [e] at hm <;> cases hm

end

/-! ### The ACTIVE step's hold -/

theorem activeHold_of_plan {s t : State} (h : t.plan.steps = s.plan.steps) : activeHold t = activeHold s := by
  unfold activeHold activeStep
  rw [h]

/-- What `g` reads of the first ACTIVE step of a list. -/
def firstActive {α : Type} (g : Step → α) (l : List Step) : Option α := (l.find? Step.isActive).map g

theorem activeHold_eq (s : State) : activeHold s = firstActive Step.hold s.plan.steps := rfl

section
variable {α : Type} {g : Step → α}

theorem firstActive_map {l : List Step} {f : Step → Step}
    (hf : ∀ x ∈ l, (f x).isActive = x.isActive ∧ (x.isActive = true → g (f x) = g x)) :
    firstActive g (l.map f) = firstActive g l := by
  induction l with
  | nil => rfl
  | cons x l ih =>
    obtain ⟨hx, hl⟩ := List.forall_mem_cons.1 hf
    unfold firstActive at *
    rw [List.map_cons, List.find?_cons, List.find?_cons, hx.1]
    cases ha : x.isActive with
    | true => simp [hx.2 ha]
    | false => exact ih hl

theorem firstActive_eq_none {l : List Step} (h : ∀ x ∈ l, x.isActive = false) : firstActive g l = none := by
  unfold firstActive
  rw [List.find?_eq_none.2 (by simpa using h)]
  rfl

/-- A change of the ACTIVE step that keeps it ACTIVE keeps what is read of it. -/
theorem updateActive_firstActive (p : Plan) {f : Step → Step}
    (hf : ∀ x : Step, x.isActive = true → (f x).isActive = true ∧ g (f x) = g x) :
    firstActive g (p.updateActive f).steps = firstActive g p.steps := by
  refine firstActive_map fun x _ => ?_
  cases ha : x.isActive with
  | true => simp [hf x ha]
  | false => simp [ha]

/-- A change of the ACTIVE step that ends it leaves none. -/
theorem updateActive_firstActive_none (p : Plan) {f : Step → Step}
    (hf : ∀ x : Step, x.isActive = true → (f x).isActive = false) : firstActive g (p.updateActive f).steps = none := by
  refine firstActive_eq_none fun x hx => ?_
  obtain ⟨y, -, rfl⟩ := List.mem_map.1 hx
  split
  next ha => exact hf y ha
  next ha => simpa using ha

/-- A change of the step of an id, with the ids all different. -/
theorem updateId_firstActive {p : Plan} (ids : p.steps.Pairwise (fun a b => a.id ≠ b.id)) {st : Step} (found : st ∈ p.steps)
    {f : Step → Step} (active : (f st).isActive = st.isActive) (same : st.isActive = true → g (f st) = g st) :
    firstActive g (p.updateId st.id f).steps = firstActive g p.steps := by
  refine firstActive_map fun x hx => ?_
  split
  next here =>
    obtain rfl := eq_of_id_eq ids hx found (by simpa using here)
    exact ⟨active, same⟩
  · exact ⟨rfl, fun _ => rfl⟩

theorem firstActive_insert {l k : List Step} {st : Step} (h : st.isActive = false) :
    firstActive g (l ++ [st] ++ k) = firstActive g (l ++ k) := by
  simp [firstActive, List.find?_append, h]

theorem firstActive_filter {l : List Step} {p : Step → Bool} (h : ∀ x ∈ l, x.isActive = true → p x = true) :
    firstActive g (l.filter p) = firstActive g l := by
  induction l with
  | nil => rfl
  | cons x l ih =>
    obtain ⟨hx, hl⟩ := List.forall_mem_cons.1 h
    unfold firstActive at *
    rw [List.filter_cons, List.find?_cons]
    cases ha : x.isActive with
    | true => simp [hx ha, ha]
    | false =>
      split
      · simpa [ha] using ih hl
      · exact ih hl

end

theorem complete_not_isActive (x : Step) : x.complete.isActive = false := by
  unfold Step.complete Step.isActive completionState
  cases x.cutoffReason with
  | none => rfl
  | some r => cases r <;> rfl

@[simp] theorem swapTest_activeHold (s : State) : activeHold (swapTest s) = activeHold s :=
  activeHold_of_plan (by simp)

theorem completeStep_travel_state (s : State) : (completeStep s).travel.state = s.travel.state := by
  unfold completeStep
  split
  · rfl
  · rw [swapTest_travel_state]
    simp [bumpRevision, raise]

theorem completeStep_activeHold (s : State) : activeHold (completeStep s) = none := by
  unfold completeStep
  split
  next h => rw [activeHold, h]; rfl
  next st _ =>
    rw [swapTest_activeHold, activeHold_eq, show (completionEvent st (bumpRevision { s with
      plan := s.plan.updateActive Step.complete })).plan.steps = (s.plan.updateActive Step.complete).steps by simp [bumpRevision, raise]]
    exact updateActive_firstActive_none _ fun x _ => complete_not_isActive x

/-! ### The Feed Governor -/

theorem Surrounds.of_eq {s t : State} (travel : t.travel = s.travel) (weigher : t.weigher = s.weigher)
    (store : t.store = s.store) : Surrounds s t := by
  constructor <;> simp only [travel, weigher, store]

/-- A swap taken leaves the carriage's law: a spout over a hold is at a referenced position (R63, R66). -/
theorem swapTest_carriage {s : State} (h : CarriageOk s) : CarriageOk (swapTest s) := by
  obtain ⟨-, -, e⟩ | ⟨-, e⟩ := swapTest_cases s <;> rw [e]
  · obtain ⟨timer, runOut, before, -⟩ := h
    refine ⟨timer, runOut, before, fun hs => ?_⟩
    change (if s.travel.referenced then _ else none).isSome = true at hs
    change s.travel.referenced = true
    split at hs
    · assumption
    · cases hs
  · exact h

/-- After the swap test no swap is due (R63). -/
theorem swapTest_swapOk (s : State) : SwapOk (swapTest s) := by
  obtain ⟨-, -, e⟩ | ⟨stays, e⟩ := swapTest_cases s <;> rw [e]
  · nofun
  · intro pending rest free empty
    refine stays ⟨pending, ?_⟩
    simp [swapReady, rest, (activeHold_eq_none s).1 free, empty]

/-- A carriage in motion lets no swap be taken (R63). -/
theorem swapOk_of_inMotion {s : State} (h : s.travel.state.inMotion = true) : SwapOk s := by
  intro _ rest
  rw [h] at rest
  cases rest

/-- A cutoff before the run-out test: steps 1 to 3, and the reason recorded (R118). -/
def recordedCutoff (r : CutoffReason) (s : State) : State :=
  if r = .deck then enterCutoff s else recordCutoff r (enterCutoff s)

theorem cutoff_eq (r : CutoffReason) (s : State) : cutoff r s =
    if s.governor.state = .paused ∧ runOutTest (recordedCutoff r s) = true then complete (recordedCutoff r s)
    else recordedCutoff r s := rfl

theorem recordedCutoff_governor (r : CutoffReason) (s : State) :
    (recordedCutoff r s).governor = (enterCutoff s).governor := by
  unfold recordedCutoff
  split <;> rfl

theorem recordedCutoff_state (r : CutoffReason) (s : State) : (recordedCutoff r s).governor.state = .cutoff := by
  rw [recordedCutoff_governor, enterCutoff_eq]

/-- A pause cause stops feed, and leaves neither IDLE nor CUTOFF (R123). -/
theorem pauseCause_eases (r : PauseReason) (s : State) :
    s.governor.Eases (pauseCause r s).governor ∧ (pauseCause r s).governor.state.feeding = false := by
  by_cases hf : s.governor.state.feeding = true
  · rw [pauseCause_feeding r s hf]
    exact ⟨.of_shut rfl (iff_of_false nofun (feeding_ne_idle hf)) (fun _ => feeding_ne_cutoff hf) rfl rfl, rfl⟩
  · have still : s.governor.state.feeding = false := by simpa using hf
    cases hs : s.governor.state with
    | idle =>
      rw [pauseCause_idle r s hs]
      exact ⟨.of_eq rfl rfl rfl, still⟩
    | cutoff =>
      rw [pauseCause_cutoff r s hs]
      exact ⟨.of_eq rfl rfl rfl, still⟩
    | paused =>
      rw [pauseCause_paused r s hs]
      split
      · exact ⟨.of_eq rfl rfl rfl, still⟩
      · exact ⟨.of_eq rfl rfl rfl, still⟩
    | _ => exact absurd (by rw [hs]; rfl) hf

theorem cutoff_state (r : CutoffReason) (s : State) :
    (cutoff r s).governor.state = .cutoff ∨ (cutoff r s).governor.state = .idle := by
  rw [cutoff_eq]
  split
  · exact .inr rfl
  · exact .inl (recordedCutoff_state r s)

theorem recomputeEffective_state (s : State) : (recomputeEffective s).governor.state = s.governor.state := by
  unfold recomputeEffective
  split <;> rfl

section
variable {k : Known} {s : State} (h : Loader k s)
include h

omit h in
/-- The swap test: a swap is taken only with no step ACTIVE, and none is due after it. -/
theorem swapTest_loader (h : Loader { k with swap := False } s) : Loader k (swapTest s) := by
  have carriage := swapTest_carriage h.carriage
  have due := swapTest_swapOk s
  obtain ⟨-, ready, e⟩ | ⟨-, e⟩ := swapTest_cases s
  · have free : activeHold s = none := by
      rw [activeHold_eq_none]
      simp only [swapReady, Bool.and_eq_true, Bool.not_eq_true'] at ready
      exact ready.1.2
    rw [e] at carriage ⊢
    have taken := h.travels free (t := takeSwap s) rfl rfl rfl rfl carriage h.grain nofun
    exact ⟨taken.gate, taken.carriage, taken.pour, taken.spout, taken.grain, fun _ => e ▸ due⟩
  · rw [e] at due ⊢
    exact ⟨h.gate, h.carriage, h.pour, h.spout, h.grain, fun _ => due⟩

theorem recomputeCeiling_loader : Loader k (recomputeCeiling s) := by
  rw [recomputeCeiling_under]
  exact h.govern (.of_eq rfl rfl rfl) rfl rfl rfl (Governor.under_eases _ _)

theorem recordCutoff_loader (r : CutoffReason) : Loader k (recordCutoff r s) :=
  h.same (.of_eq rfl rfl rfl) rfl rfl (updateActive_firstActive s.plan fun _ hx => ⟨hx, rfl⟩) rfl rfl rfl

theorem recomputeEffective_loader : Loader k (recomputeEffective s) := by
  unfold recomputeEffective
  split
  · exact h
  · exact h.same (.of_eq rfl rfl rfl) rfl rfl (updateActive_firstActive s.plan fun _ hx => ⟨hx, rfl⟩) rfl rfl rfl

theorem bookSegment_loader (entering : Nat) (w : Weighing) (leaving : Nat) (dest : Destination) :
    Loader k (bookSegment entering w leaving dest s) := by
  refine h.same (.of_eq rfl rfl rfl) rfl rfl ?_ rfl rfl rfl
  by_cases at' : toActiveHold dest s = true
  · rw [activeHold_eq, bookSegment, if_pos at']
    exact updateActive_firstActive s.plan fun _ hx => ⟨hx, rfl⟩
  · rw [activeHold_eq, bookSegment, if_neg at']
    rfl

/-- A step completed in CUTOFF leaves the governor IDLE and no step ACTIVE (R120). -/
theorem complete_loader (hc : s.governor.state = .cutoff) : Loader k (complete s) := by
  have none : activeHold (complete s) = none := completeStep_activeHold (adaptPreact s)
  have carriage : CarriageOk (completeStep (adaptPreact s)) := by
    have before : CarriageOk (adaptPreact s) :=
      ⟨by simpa using h.carriage.timer, by simpa using h.carriage.runOut, by simpa using h.carriage.before,
        by simpa using h.carriage.spout⟩
    unfold completeStep
    split
    · exact before
    · refine swapTest_carriage ⟨?_, ?_, ?_, ?_⟩
      · simpa [bumpRevision, raise] using before.timer
      · simpa [bumpRevision, raise] using before.runOut
      · simpa [bumpRevision, raise] using before.before
      · simpa [bumpRevision, raise] using before.spout
  have shut : s.governor.feedPermit = false := by
    have := h.gate.permit
    rw [hc] at this
    simpa [GovernorState.feeding] using this
  have permit : (complete s).governor.feedPermit = s.governor.feedPermit := by
    simp only [complete, completeStep_frame, adaptPreact]
    (repeat' split) <;> rfl
  refine ⟨⟨?_, nofun, nofun, nofun, nofun, ?_⟩, ⟨carriage.timer, carriage.runOut, carriage.before, carriage.spout⟩,
    ⟨iff_of_true none rfl, absurd none, absurd none, absurd none, absurd none⟩, fun _ j hj => ?_, fun known => ?_,
    fun known => ?_⟩
  · rw [permit, shut]
    exact iff_of_false nofun nofun
  · simpa using h.gate.beltPermit
  · rw [none] at hj
    cases hj
  · unfold GrainOk complete
    dsimp only
    rw [completeStep_travel_state]
    simpa [GrainOk] using h.grain known
  · have due : SwapOk (completeStep (adaptPreact s)) := by
      unfold completeStep
      split
      · have swap := h.swap known
        unfold SwapOk at swap ⊢
        rw [activeHold_of_plan (s := s) (t := adaptPreact s) (by simp)]
        simpa using swap
      · exact swapTest_swapOk _
    exact due

theorem enterCutoff_loader (busy : s.governor.state ≠ .idle) : Loader k (enterCutoff s) := by
  rw [enterCutoff_eq]
  exact h.govern (.of_eq rfl rfl rfl) rfl rfl rfl
    (.of_shut rfl (iff_of_false nofun busy) (fun hc => absurd rfl hc) rfl rfl)

theorem cutoff_loader (r : CutoffReason) (busy : s.governor.state ≠ .idle) : Loader k (cutoff r s) := by
  have entered := enterCutoff_loader h busy
  have recorded : Loader k (recordedCutoff r s) := by
    unfold recordedCutoff
    split
    · exact entered
    · exact recordCutoff_loader entered r
  rw [cutoff_eq]
  split
  · exact complete_loader recorded (recordedCutoff_state r s)
  · exact recorded

theorem enterDribble_loader (feeding : s.governor.state.feeding = true) : Loader k (enterDribble s) :=
  recomputeCeiling_loader (h.govern (t := { s with governor := { s.governor with state := .dribble } })
    (.of_eq rfl rfl rfl) rfl rfl rfl (.of_feeding rfl rfl feeding rfl))

theorem feedTests_loader (feeding : s.governor.state.feeding = true) : Loader k (feedTests s) := by
  unfold feedTests
  split
  · exact cutoff_loader h _ (feeding_ne_idle feeding)
  split
  · exact enterDribble_loader h feeding
  · exact h

theorem segmentClosedNotice_loader (entering : Nat) (w : Weighing) (leaving : Nat) (dest : Destination) :
    Loader k (segmentClosedNotice entering w leaving dest s) := by
  have booked := bookSegment_loader h entering w leaving dest
  unfold segmentClosedNotice
  cases hs : s.governor.state with
  | idle => exact h
  | paused => exact booked
  | cutoff =>
    dsimp only
    split
    · exact complete_loader booked hs
    · exact booked
  | ramping => exact feedTests_loader booked (by rw [show (bookSegment _ _ _ _ _).governor.state = _ from hs]; rfl)
  | running => exact feedTests_loader booked (by rw [show (bookSegment _ _ _ _ _).governor.state = _ from hs]; rfl)
  | dribble => exact feedTests_loader booked (by rw [show (bookSegment _ _ _ _ _).governor.state = _ from hs]; rfl)

theorem scaleFaultNotice_loader : Loader k (scaleFaultNotice s) := by
  have computed := recomputeEffective_loader h
  unfold scaleFaultNotice
  cases hs : s.governor.state with
  | idle => exact h
  | cutoff => exact computed.same (.of_eq rfl rfl rfl) rfl rfl rfl rfl rfl rfl
  | _ => exact cutoff_loader computed _ (by rw [recomputeEffective_state, hs]; nofun)

theorem positionLost_loader : Loader k (positionLost s) := by
  unfold positionLost
  cases hs : s.governor.state with
  | idle => exact h
  | cutoff => exact h
  | _ => exact cutoff_loader h _ (by rw [hs]; nofun)

theorem cancelNotice_loader : Loader k (cancelNotice s) := by
  unfold cancelNotice
  cases hs : s.governor.state with
  | idle => exact h
  | cutoff => exact h
  | _ => exact cutoff_loader h _ (by rw [hs]; nofun)

theorem reEvaluate_loader : Loader k (reEvaluate s) := by
  have computed := recomputeCeiling_loader (recomputeEffective_loader h)
  unfold reEvaluate
  dsimp only
  generalize recomputeCeiling (recomputeEffective s) = s1 at computed ⊢
  have feeds (feeding : s1.governor.state.feeding = true) : Loader k
      (if reachedCutoff s1 then cutoff .trim s1 else if reachedDribble s1 then enterDribble s1 else s1) := by
    split
    · exact cutoff_loader computed _ (feeding_ne_idle feeding)
    split
    · exact enterDribble_loader computed feeding
    · exact computed
  cases hs : s1.governor.state with
  | idle => exact h
  | cutoff =>
    dsimp only
    split
    · exact recordCutoff_loader computed _
    · exact computed
  | paused =>
    dsimp only
    split
    · exact cutoff_loader computed _ (by rw [hs]; nofun)
    · exact computed
  | dribble =>
    dsimp only
    split
    · exact cutoff_loader computed _ (by rw [hs]; nofun)
    split
    · exact computed
    · exact recomputeCeiling_loader (computed.govern (t := { s1 with governor := { s1.governor with state := .ramping } })
        (.of_eq rfl rfl rfl) rfl rfl rfl (.of_feeding rfl rfl (by rw [hs]; rfl) rfl))
  | ramping => exact feeds (by rw [hs]; rfl)
  | running => exact feeds (by rw [hs]; rfl)

/-- A pause cause, taken where only the input levels and the belt permit have changed, leaves the gate shut (R123). -/
theorem pauseCause_loader_of (r : PauseReason) {u : State} (around : Surrounds s u) (hold : activeHold u = activeHold s)
    (state : u.governor.state = s.governor.state) (permit : u.governor.feedPermit = s.governor.feedPermit)
    (belt : u.governor.beltPermit = (u.dust.stage != .trip && !u.pins.estop)) : Loader k (pauseCause r u) := by
  obtain ⟨eases, shut⟩ := pauseCause_eases r u
  have no {p : Prop} : (pauseCause r u).governor.state.feeding = true → p := by
    rw [shut]
    nofun
  refine h.regate ?_ ((activeHold_of_plan (by simp)).trans hold) ⟨?_, no, no, no, no, ?_⟩ ?_ ?_
  · obtain ⟨_, _, _, _, _, _, _, _, _, _, _⟩ := around
    constructor <;> simpa
  · exact eases.permit (by rw [permit, state]; exact h.gate.permit)
  · rw [eases.beltPermit, belt]
    simp
  · rw [eases.idle, state]
  · exact fun hc => state ▸ eases.cutoff hc

theorem pauseCause_loader (r : PauseReason) : Loader k (pauseCause r s) :=
  pauseCause_loader_of h r (.of_eq rfl rfl rfl) rfl rfl rfl h.gate.beltPermit

theorem rampLevel_loader : Loader k (rampLevel s) := by
  unfold rampLevel
  cases hs : s.governor.state with
  | ramping =>
    dsimp only
    split
    · exact h.govern (.of_eq rfl rfl rfl) rfl rfl rfl (.of_feeding rfl rfl (by rw [hs]; rfl) rfl)
    · exact h.same (.of_eq rfl rfl rfl) rfl rfl rfl rfl rfl rfl
  | dribble => exact h.same (.of_eq rfl rfl rfl) rfl rfl rfl rfl rfl rfl
  | _ => exact h

/-- Feed starts for a step ACTIVE in PAUSED, where everything lets it (R124). -/
theorem openGate_loader {g : GovernorState} (feeding : g.feeding = true) (ramps : g ≠ .running)
    (paused : s.governor.state = .paused) (stage : s.dust.stage = .clear ∨ s.dust.stage = .warn)
    (belt : s.pins.beltRun = true) (estop : s.pins.estop = false) (live : k.presence) : Loader k (openGate g s) := by
  rw [openGate_eq _ _ ramps]
  obtain ⟨gate, carriage, pour, spout, grain, swap⟩ := h
  refine ⟨⟨iff_of_true rfl feeding, fun _ => stage, fun _ => belt, fun _ => estop, fun _ => live, gate.beltPermit⟩,
    ⟨carriage.timer, carriage.runOut, carriage.before, carriage.spout⟩,
    ⟨?_, pour.rest, pour.referenced, pour.normal, pour.settings⟩, fun known j hj _ => ?_, grain, swap⟩
  · exact pour.idle.trans (iff_of_false (by rw [paused]; nofun) (feeding_ne_idle feeding))
  · exact spout known j hj (by rw [paused]; nofun)

theorem resumeFeed_loader (paused : s.governor.state = .paused) (stage : s.dust.stage = .clear ∨ s.dust.stage = .warn)
    (belt : s.pins.beltRun = true) (estop : s.pins.estop = false) (live : k.presence) : Loader k (resumeFeed s) := by
  have emptied : Loader k { s with governor := { s.governor with pauseSet := PauseSet.empty } } :=
    h.same (.of_eq rfl rfl rfl) rfl rfl rfl rfl rfl rfl
  unfold resumeFeed
  dsimp only
  split
  · exact recomputeCeiling_loader (cutoff_loader emptied _ (by simp [paused]))
  split
  · exact openGate_loader emptied rfl nofun paused stage belt estop live
  · exact openGate_loader emptied rfl nofun paused stage belt estop live

end

/-! ### The Travel Controller -/

theorem enterFault_travel_state (c : FaultCause) (s : State) : (enterFault c s).travel.state = .fault :=
  swapTest_travel_state _

theorem homeSet_travel_state (s : State) : (homeSet s).travel.state = .parked :=
  swapTest_travel_state _

theorem inPosition_travel_state (s : State) : (inPosition s).travel.state = .parked :=
  swapTest_travel_state _

theorem grainOk_of_rest {s : State} (h : s.travel.state.inMotion = false) : GrainOk s := by
  intro hm
  rw [h] at hm
  cases hm

section
variable {k : Known} {s : State} (h : Loader k s)
include h

theorem Loader.runOut_of_inMotion (hm : s.travel.state.inMotion = true) : s.travel.runOutTimer = none := by
  cases ht : s.travel.runOutTimer with
  | none => rfl
  | some n =>
    rw [h.carriage.runOut (by rw [ht]; rfl)] at hm
    cases hm

theorem Loader.timer_of_rest (hm : s.travel.state.inMotion = false) : s.travel.travelTimer = none := by
  cases ht : s.travel.travelTimer with
  | none => rfl
  | some n =>
    rw [h.carriage.timer (by rw [ht]; rfl)] at hm
    cases hm

section
variable (free : activeHold s = none)
include free

theorem abandonPending_loader (rest : s.travel.state.inMotion = false)
    (before : s.travel.beforePending = .parked ∨ s.travel.beforePending = .unreferenced) :
    Loader k (abandonPending s) := by
  have timer := h.timer_of_rest rest
  have settled : s.travel.beforePending.inMotion = false := by
    obtain e | e := before <;> rw [e] <;> rfl
  refine h.travels free rfl rfl rfl rfl ⟨?_, nofun, fun _ => before, h.carriage.spout⟩ (fun _ => grainOk_of_rest settled)
    fun known pending _ => h.swap known pending rest
  rw [show (abandonPending s).travel.travelTimer = none from timer]
  nofun

theorem creepOn_loader (d : Direction) : Loader k (creepOn d s) :=
  h.travels free rfl rfl rfl rfl ⟨h.carriage.timer, h.carriage.runOut, h.carriage.before, h.carriage.spout⟩ h.grain h.swap

theorem profileTest_loader : Loader k (profileTest s) := by
  unfold profileTest
  split
  · exact h
  split
  next moving =>
    have quiet := h.runOut_of_inMotion (by rw [moving.1]; rfl)
    refine h.travels free rfl rfl rfl rfl ⟨fun _ => rfl, ?_, nofun, h.carriage.spout⟩ (fun known _ => ?_)
      fun _ => swapOk_of_inMotion rfl
    · rw [show State.travel _ = _ from rfl]
      simp [quiet]
    · exact h.grain known (by rw [moving.1]; rfl)
  split
  · exact h.travels free rfl rfl rfl rfl ⟨h.carriage.timer, h.carriage.runOut, h.carriage.before, h.carriage.spout⟩ h.grain h.swap
  · exact h

section
variable (quiet : s.travel.runOutTimer = none)
include quiet

theorem enterFault_loader (c : FaultCause) : Loader k (enterFault c s) :=
  h.travels free (activeHold_of_plan (by simp)) (by simp) (by simp) (by simp)
    (swapTest_carriage ⟨nofun, by simp [raise, Travel.atRest, quiet], nofun, h.carriage.spout⟩)
    (fun _ => grainOk_of_rest (by rw [enterFault_travel_state]; rfl)) fun _ => swapTest_swapOk _

theorem homeSet_loader : Loader k (homeSet s) :=
  h.travels free (activeHold_of_plan (by simp)) (by simp) (by simp) (by simp)
    (swapTest_carriage ⟨nofun, by simp [raiseTravelDone, raise, recomputeSpout, Travel.atRest, quiet], nofun, fun _ => rfl⟩)
    (fun _ => grainOk_of_rest (by rw [homeSet_travel_state]; rfl)) fun _ => swapTest_swapOk _

theorem inPosition_loader : Loader k (inPosition s) :=
  h.travels free (activeHold_of_plan (by simp)) (by simp) (by simp) (by simp)
    (swapTest_carriage ⟨nofun, by simp [raiseTravelDone, raise, quiet], nofun, h.carriage.spout⟩)
    (fun _ => grainOk_of_rest (by rw [inPosition_travel_state]; rfl)) fun _ => swapTest_swapOk _

theorem reversal_loader (d : Direction) : Loader k (reversal d s) := by
  have counted : Loader k { s with travel := { s.travel with reversals := s.travel.reversals + 1 } } :=
    h.travels free rfl rfl rfl rfl ⟨h.carriage.timer, h.carriage.runOut, h.carriage.before, h.carriage.spout⟩ h.grain h.swap
  unfold reversal
  dsimp only
  split
  · split
    · exact enterFault_loader counted free quiet _
    · exact creepOn_loader counted free _
  · exact enterFault_loader h free quiet _

theorem stopJudgement_loader : Loader k (stopJudgement s) := by
  have stopped : Loader k { s with travel := { s.travel with direction := none, brakeRelease := false, stopping := false } } :=
    h.travels free rfl rfl rfl rfl ⟨h.carriage.timer, h.carriage.runOut, h.carriage.before, h.carriage.spout⟩ h.grain h.swap
  unfold stopJudgement
  dsimp only
  split
  · split
    · exact inPosition_loader stopped free quiet
    split
    · exact reversal_loader stopped free quiet _
    · exact creepOn_loader stopped free _
  · exact stopped

variable (go : s.weigher.lineTotal = 0 ∨ s.travel.diverter = .reject) (rest : s.travel.state.inMotion = false)
include go rest

theorem startGoTo_loader (x : Nat) : Loader k (startGoTo x s) := by
  have timer := h.timer_of_rest rest
  have aimed : Loader k { s with travel := { s.travel with target := some x } } :=
    h.travels free rfl rfl rfl rfl ⟨h.carriage.timer, h.carriage.runOut, h.carriage.before, h.carriage.spout⟩ h.grain h.swap
  unfold startGoTo
  dsimp only
  split
  · exact h.travels free rfl rfl rfl rfl
      ⟨by simp [raiseTravelDone, raise, timer], by simp [raiseTravelDone, raise, quiet], nofun, h.carriage.spout⟩
      (fun _ => grainOk_of_rest rfl) fun known pending _ => h.swap known pending rest
  split
  · exact enterFault_loader aimed free quiet _
  split
  · exact h.travels free rfl rfl rfl rfl ⟨fun _ => rfl, by simp [quiet], nofun, h.carriage.spout⟩ (fun _ _ => go)
      fun _ => swapOk_of_inMotion rfl
  · exact h.travels free rfl rfl rfl rfl ⟨fun _ => rfl, by simp [quiet], nofun, h.carriage.spout⟩ (fun _ _ => go)
      fun _ => swapOk_of_inMotion rfl

omit rest in
theorem startReference_loader : Loader k (startReference s) := by
  have aimed : Loader k { s with travel := { s.travel with target := none } } :=
    h.travels free rfl rfl rfl rfl ⟨h.carriage.timer, h.carriage.runOut, h.carriage.before, h.carriage.spout⟩ h.grain h.swap
  unfold startReference
  dsimp only
  split
  · exact enterFault_loader aimed free quiet _
  split
  · exact homeSet_loader aimed free quiet
  · exact h.travels free rfl rfl rfl rfl ⟨fun _ => rfl, by simp [quiet], nofun, nofun⟩ (fun _ _ => go)
      fun _ => swapOk_of_inMotion rfl

end

/-- A motion starts from rest over an empty line or a diverter at REJECT, for a hold with an entry or from PENDING (R71). -/
theorem startMotion_loader (go : s.weigher.lineTotal = 0 ∨ s.travel.diverter = .reject)
    (rest : s.travel.state.inMotion = false)
    (entry : s.travel.state = .pending ∨ ∀ j, s.travel.request = some (.goToHold j) → (s.travel.activeMap.get j).isSome = true) :
    Loader k (startMotion s) := by
  have begun : Loader k { s with travel := { s.travel with runOutTimer := none, reversals := 0, stopping := false } } :=
    h.travels free rfl rfl rfl rfl ⟨h.carriage.timer, nofun, h.carriage.before, h.carriage.spout⟩ h.grain h.swap
  unfold startMotion
  dsimp only
  split
  next j hj =>
    split
    · exact startGoTo_loader begun free rfl go rest _
    next none =>
      have pending : s.travel.state = .pending := by
        refine entry.resolve_right fun he => ?_
        simpa [none] using he j hj
      exact abandonPending_loader begun free rest (h.carriage.before pending)
  · exact startGoTo_loader begun free rfl go rest _
  · exact startReference_loader begun free rfl go
  · exact begun

end

theorem runOutExpiry_loader : Loader k (runOutExpiry s) := by
  unfold runOutExpiry
  split
  next running =>
    have pending := h.carriage.runOut running
    exact abandonPending_loader h (h.free_of_pending pending) (by rw [pending]; rfl) (h.carriage.before pending)
  · exact h

theorem travelExpiry_loader : Loader k (travelExpiry s) := by
  unfold travelExpiry
  split
  next running =>
    have moving := h.carriage.timer running
    exact enterFault_loader h (h.free_of_inMotion moving) (h.runOut_of_inMotion moving) _
  · exact h

theorem limitAsserts_loader (d : Direction) (level : Bool) : Loader k (limitAsserts d level s) := by
  unfold limitAsserts
  split
  next asserts => exact enterFault_loader h (h.free_of_inMotion asserts.2.1) (h.runOut_of_inMotion asserts.2.1) _
  · exact h

theorem homeCloses_loader (closed : Bool) : Loader k (homeCloses closed s) := by
  unfold homeCloses
  split
  next closes =>
    have moving : s.travel.state.inMotion = true := by rw [closes.2]; rfl
    exact homeSet_loader h (h.free_of_inMotion moving) (h.runOut_of_inMotion moving)
  · exact h

theorem speedPeriodEnds_loader : Loader k (speedPeriodEnds s) := by
  have forced : Loader k { s with travel := { s.travel with dutyForce := s.travel.dutyStaged } } :=
    h.same (by constructor <;> rfl) rfl rfl rfl rfl rfl rfl
  unfold speedPeriodEnds
  dsimp only
  split
  next stops =>
    have moving : s.travel.state.inMotion = true := by rw [stops.1]; rfl
    exact stopJudgement_loader forced (h.free_of_inMotion moving) (h.runOut_of_inMotion moving)
  · exact forced

theorem cancelMotion_loader (moving : s.travel.state.inMotion = true) : Loader k (cancelMotion s) := by
  have free := h.free_of_inMotion moving
  have quiet := h.runOut_of_inMotion moving
  have settled := s.travel.restState_settled
  refine h.travels free (activeHold_of_plan (by simp)) (by simp) (by simp) (by simp)
    (swapTest_carriage ⟨nofun, by simp [Travel.atRest, quiet], fun hp => ?_, h.carriage.spout⟩)
    (fun _ => grainOk_of_rest ?_) fun _ => swapTest_swapOk _
  · obtain e | e | e | e := settled <;> rw [show s.travel.restState = _ from hp] at e <;> cases e
  · rw [cancelMotion_travel_state]
    obtain e | e | e | e := settled <;> rw [e] <;> rfl

/-- ESTOP brings the carriage to rest where it is, with a step ACTIVE too (R80). -/
theorem travelStop_loader : Loader k (travelStop s) := by
  unfold travelStop
  split
  · exact h
  · have stopped : Loader { k with swap := False } { s with travel := { s.travel.atRest with
        stopping := false, travelTimer := none, runOutTimer := none, faultCause := none, request := none,
        state := .stopped } } :=
      ⟨⟨h.gate.permit, h.gate.stage, h.gate.belt, h.gate.estop, h.gate.presence, h.gate.beltPermit⟩,
        ⟨nofun, nofun, nofun, h.carriage.spout⟩,
        ⟨h.pour.idle, fun _ => .inr rfl, h.pour.referenced, h.pour.normal, h.pour.settings⟩, h.spout,
        fun _ => grainOk_of_rest rfl, nofun⟩
    dsimp only
    split
    · exact swapTest_loader (stopped.same (by constructor <;> rfl) rfl rfl rfl rfl rfl rfl)
    · exact swapTest_loader stopped

theorem stopCleared_loader : Loader k (stopCleared s) := by
  unfold stopCleared
  split
  next stopped =>
    have timer := h.timer_of_rest (by rw [stopped]; rfl)
    have quiet : ¬ s.travel.runOutTimer.isSome = true := fun hq => by
      rw [h.carriage.runOut hq] at stopped
      cases stopped
    have settled := s.travel.restState_settled
    refine swapTest_loader ⟨⟨h.gate.permit, h.gate.stage, h.gate.belt, h.gate.estop, h.gate.presence, h.gate.beltPermit⟩,
      ⟨by simp [timer], fun hq => absurd hq quiet, fun hp => ?_, h.carriage.spout⟩,
      ⟨h.pour.idle, fun ha => .inl ?_, h.pour.referenced, h.pour.normal, h.pour.settings⟩, h.spout,
      fun _ => grainOk_of_rest ?_, nofun⟩
    · obtain e | e | e | e := settled <;> rw [show s.travel.restState = _ from hp] at e <;> cases e
    · exact if_pos (h.pour.referenced ha)
    · obtain e | e | e | e := settled <;> exact (congrArg TravelState.inMotion e).trans rfl
  · exact h

end

/-! ### The Dust Monitor -/

section
variable {k : Known} {s : State} (h : Loader k s)
include h

/-- A change of the monitor that leaves its stage. -/
theorem Loader.dust {t : State} (stage : t.dust.stage = s.dust.stage) (around : Surrounds s t) (pins : t.pins = s.pins)
    (governor : t.governor = s.governor) (plan : t.plan = s.plan) : Loader k t :=
  h.same around stage pins (activeHold_of_plan (by rw [plan])) (by rw [governor]) (by rw [governor]) (by rw [governor])

/-- The stage recomputed: a stage that stops feed shuts the gate (R51, R122, R132). -/
theorem recomputeStage_loader : Loader k (recomputeStage s) := by
  obtain ⟨-, -, -, -, -, -, -, same, paused, noted, -⟩ := stageFollows_recomputeStage s
  have around : Surrounds s (recomputeStage s) := .of_eq (by simp) (by simp) (by simp)
  have hold : activeHold (recomputeStage s) = activeHold s := activeHold_of_plan (by simp)
  have pins : (recomputeStage s).pins = s.pins := by simp
  generalize recomputeStage s = t at *
  by_cases changed : t.dust.stage = s.dust.stage
  · have governor := same (not_not.2 changed)
    exact h.same around changed pins hold (by rw [governor]) (by rw [governor]) (by rw [governor])
  have belt : t.governor.beltPermit = (t.dust.stage != .trip && !t.pins.estop) := by
    rw [pins]
    by_cases stops : (t.dust.stage = .high ∨ t.dust.stage = .trip) ∧ s.governor.state.feeding = true
    · rw [paused changed stops.1 stops.2]
    · rw [noted changed stops]
  by_cases stops : (t.dust.stage = .high ∨ t.dust.stage = .trip) ∧ s.governor.state.feeding = true
  · have governor := paused changed stops.1 stops.2
    refine h.regate around hold ⟨?_, ?_, ?_, ?_, ?_, belt⟩ ?_ fun _ => feeding_ne_cutoff stops.2
    · rw [governor]
      exact iff_of_false nofun nofun
    · rw [governor]
      nofun
    · rw [governor]
      nofun
    · rw [governor]
      nofun
    · rw [governor]
      nofun
    · rw [governor]
      exact iff_of_false nofun (feeding_ne_idle stops.2)
  · have eases : ({ s.governor with beltPermit := t.governor.beltPermit } : Governor).Eases t.governor := by
      have governor := noted changed stops
      obtain ⟨-, idle, cutoff, feeding, permit⟩ := Governor.under_eases s.governor (ceilingNow t)
      refine ⟨rfl, ?_, ?_, ?_, ?_⟩ <;> rw [governor]
      · exact idle
      · exact cutoff
      · exact feeding
      · exact permit
    refine h.regate around hold ⟨eases.permit h.gate.permit, fun hf => ?_, fun hf => ?_, fun hf => ?_, fun hf => ?_, belt⟩
      eases.idle eases.cutoff
    · have low : ¬ (t.dust.stage = .high ∨ t.dust.stage = .trip) := fun hs => stops ⟨hs, eases.feeding hf⟩
      cases hs : t.dust.stage <;> simp [hs] at low ⊢
    · exact pins ▸ h.gate.belt (eases.feeding hf)
    · exact pins ▸ h.gate.estop (eases.feeding hf)
    · exact h.gate.presence (eases.feeding hf)

theorem highHoldExpires_loader : Loader k (highHoldExpires s) := by
  unfold highHoldExpires
  split
  · exact recomputeStage_loader (h.dust rfl (.of_eq rfl rfl rfl) rfl rfl rfl)
  · exact h

theorem referenceTimerExpires_loader : Loader k (referenceTimerExpires s) := by
  unfold referenceTimerExpires
  split
  · exact recomputeStage_loader (h.dust rfl (.of_eq rfl rfl rfl) rfl rfl rfl)
  · exact h

theorem dustGroup_loader (g : GroupKind) (q : Quad) : Loader k (dustGroup g q s) := by
  have taken (l : List (ChannelNo × Code)) : Loader k (takeCodes l s) := by
    rw [takeCodes_eq]
    exact h.dust (by rw [takeCodes_dust]) (.of_eq rfl rfl rfl) rfl rfl rfl
  cases g with
  | d1 =>
    rw [dustGroup_eq (.inl rfl)]
    exact recomputeStage_loader (taken _)
  | d2 =>
    rw [dustGroup_eq (.inr rfl)]
    exact recomputeStage_loader (taken _)
  | w => exact h

theorem takeDGroup_loader : Loader k (takeDGroup s) := by
  unfold takeDGroup
  split
  next g q rest _ =>
    have taken : Loader k { s with converter := { s.converter with toMonitor := rest } } :=
      h.dust rfl (.of_eq rfl rfl rfl) rfl rfl rfl
    exact dustGroup_loader taken g q
  · exact h

theorem takeFaultNotice_loader (c : Consumer) : Loader k (takeFaultNotice c s) := by
  cases c <;> unfold takeFaultNotice <;> dsimp only <;> split
  · exact h.dust rfl (by constructor <;> rfl) rfl rfl rfl
  · exact h
  · exact h.dust rfl (.of_eq rfl rfl rfl) rfl rfl rfl
  · exact h

theorem takeGoodNotice_loader (c : Consumer) : Loader k (takeGoodNotice c s) := by
  cases c <;> unfold takeGoodNotice <;> dsimp only <;> split
  · exact h.dust rfl (.of_eq rfl rfl rfl) rfl rfl rfl
  · exact h
  · exact h.dust rfl (.of_eq rfl rfl rfl) rfl rfl rfl
  · exact h

theorem foldl_applyMaskTo_loader (was now : BitVec 8) (l : List ChannelNo) :
    Loader k (l.foldl (fun s c => applyMaskTo was now c s) s) := by
  induction l generalizing s with
  | nil => exact h
  | cons c l ih =>
    have applied : Loader k (applyMaskTo was now c s) := by
      unfold applyMaskTo
      split
      · exact h
      · exact h.dust rfl (.of_eq rfl rfl rfl) rfl rfl rfl
    exact ih applied

theorem maskChanged_loader (was now : BitVec 8) : Loader k (maskChanged was now s) := by
  unfold maskChanged
  split
  · exact h
  · have restarted : Loader k { s with converter := s.converter.maskRestart } :=
      h.dust rfl (.of_eq rfl rfl rfl) rfl rfl rfl
    exact recomputeStage_loader (foldl_applyMaskTo_loader restarted _ _ _)

/-! ### The segment close -/

omit h in
theorem scaleFaultNotice_state (s : State) : (scaleFaultNotice s).governor.state = .cutoff ∨
    (scaleFaultNotice s).governor.state = .idle := by
  unfold scaleFaultNotice
  cases hs : s.governor.state with
  | idle => exact .inr hs
  | cutoff =>
    exact .inl ((recomputeEffective_state s).trans hs)
  | _ => exact cutoff_state _ _

/-- A scale fault: the step that was fed is cut off (R10, R129). -/
theorem enterScaleFault_loader : Loader k (enterScaleFault s) := by
  have unknown : Loader { k with spout := False } (raise .scaleFault { s with
      weigher := { s.weigher with scale := .scaleFault } }) :=
    ⟨⟨h.gate.permit, h.gate.stage, h.gate.belt, h.gate.estop, h.gate.presence, h.gate.beltPermit⟩,
      ⟨h.carriage.timer, h.carriage.runOut, h.carriage.before, h.carriage.spout⟩,
      ⟨h.pour.idle, h.pour.rest, h.pour.referenced, h.pour.normal, h.pour.settings⟩, nofun, h.grain, h.swap⟩
  exact ((scaleFaultNotice_loader unknown).of_cutoff (scaleFaultNotice_state _)).weaken (fun hp => hp) (fun _ => trivial)
    (fun hg => hg) fun hs => hs

theorem countUnweighed_loader : Loader k (countUnweighed s) :=
  h.same (.of_eq rfl rfl rfl) rfl rfl rfl rfl rfl rfl

theorem weighSegment_loader : Loader k (weighSegment s).state := by
  unfold weighSegment
  dsimp only
  split
  · exact ⟨⟨h.gate.permit, h.gate.stage, h.gate.belt, h.gate.estop, h.gate.presence, h.gate.beltPermit⟩,
      ⟨h.carriage.timer, h.carriage.runOut, h.carriage.before, h.carriage.spout⟩,
      ⟨h.pour.idle, h.pour.rest, h.pour.referenced, h.pour.normal, h.pour.settings⟩,
      fun known j hj hc => ⟨(h.spout known j hj hc).1, rfl⟩, h.grain, h.swap⟩
  split
  · split
    · exact h.same (by constructor <;> rfl) rfl rfl rfl rfl rfl rfl
    · exact countUnweighed_loader (enterScaleFault_loader h)
  · exact countUnweighed_loader h

/-- The line moves under the carriage: whether motion is over grain, and whether a swap is due, is open until the close ends
(R63, R83). -/
theorem moveLine_loader (mass : Nat) (how : Weighing) :
    Loader { k with grain := False, swap := False } (restartSegment (moveLine mass how s)) := by
  have travel : (moveLine mass how s).travel = s.travel := by simp
  have governor : (moveLine mass how s).governor = s.governor := by simp
  have dust : (moveLine mass how s).dust = s.dust := by simp
  have pins : (moveLine mass how s).pins = s.pins := by simp
  have store : (moveLine mass how s).store = s.store := by simp
  have scale : (moveLine mass how s).weigher.scale = s.weigher.scale := by simp
  have hold : activeHold (moveLine mass how s) = activeHold s := activeHold_of_plan (by simp)
  obtain ⟨⟨permit, stage, belt, estop, presence, beltPermit⟩, ⟨timer, runOut, before, spoutOver⟩,
    ⟨idle, rest, referenced, normal, settings⟩, spout, -, -⟩ := h
  unfold SpoutOk at spout
  rw [← travel, ← governor, ← dust, ← pins] at *
  rw [← hold, ← scale, ← store] at *
  exact ⟨⟨permit, stage, belt, estop, presence, beltPermit⟩, ⟨timer, runOut, before, spoutOver⟩,
    ⟨idle, rest, referenced, normal, settings⟩, spout, nofun, nofun⟩

omit h in
/-- The controller's own part of a close: grain under a moving carriage turns the diverter to REJECT (R70, R83). -/
theorem travelSegmentClosed_loader (h : Loader { k with grain := False, swap := False } s) :
    Loader k (travelSegmentClosed s) := by
  have tested : Loader { k with grain := False } (swapTest s) := swapTest_loader h
  unfold travelSegmentClosed
  dsimp only
  generalize swapTest s = s1 at tested ⊢
  have known (grain : GrainOk s1) : Loader k s1 := ⟨tested.gate, tested.carriage, tested.pour, tested.spout, fun _ => grain,
    tested.swap⟩
  split
  next starts =>
    have rest : s1.travel.state.inMotion = false := by rw [starts.1]; rfl
    exact startMotion_loader (known (grainOk_of_rest rest)) (tested.free_of_pending starts.1) (.inl starts.2) rest
      (.inl starts.1)
  split
  next diverts =>
    have free := tested.free_of_inMotion diverts.1
    exact ⟨⟨tested.gate.permit, tested.gate.stage, tested.gate.belt, tested.gate.estop, tested.gate.presence,
      tested.gate.beltPermit⟩,
      ⟨tested.carriage.timer, tested.carriage.runOut, tested.carriage.before, tested.carriage.spout⟩,
      ⟨tested.pour.idle, tested.pour.rest, tested.pour.referenced, absurd free, tested.pour.settings⟩, tested.spout,
      fun _ _ => .inr rfl, tested.swap⟩
  next stays =>
    refine known fun hm => ?_
    cases hd : s1.travel.diverter with
    | reject => exact .inr rfl
    | normal => exact .inl (by_contra fun hl => stays ⟨hm, hd, hl⟩)

theorem closeSegment_loader : Loader k (closeSegment s) :=
  travelSegmentClosed_loader (segmentClosedNotice_loader (moveLine_loader (weighSegment_loader h) _ _) _ _ _ _)

theorem countPulse_loader : Loader k (countPulse s) := by
  have counted : Loader k { s with weigher := { s.weigher with pulseCount := s.weigher.pulseCount + 1 } } :=
    h.same (by constructor <;> rfl) rfl rfl rfl rfl rfl rfl
  unfold countPulse
  dsimp only
  split
  · exact closeSegment_loader counted
  · exact counted

/-! ### The encoder -/

omit h in
theorem positionLost_state (s : State) : (positionLost s).governor.state = .cutoff ∨
    (positionLost s).governor.state = .idle := by
  unfold positionLost
  cases hs : s.governor.state with
  | idle => exact .inr hs
  | cutoff => exact .inl hs
  | _ => exact cutoff_state _ _

/-- A count that moves the spout away from the hold of a step being fed cuts the step off (R82, R130). -/
theorem countEncoder_loader (d : Direction) : Loader k (countEncoder d s) := by
  unfold countEncoder
  extract_lets _ counted noticed
  have moved : Loader { k with spout := False } counted := by
    refine ⟨⟨h.gate.permit, h.gate.stage, h.gate.belt, h.gate.estop, h.gate.presence, h.gate.beltPermit⟩,
      ⟨h.carriage.timer, h.carriage.runOut, h.carriage.before, fun hs => ?_⟩,
      ⟨h.pour.idle, h.pour.rest, h.pour.referenced, h.pour.normal, h.pour.settings⟩, nofun, h.grain, h.swap⟩
    change (if s.travel.referenced then _ else none).isSome = true at hs
    change s.travel.referenced = true
    split at hs
    · assumption
    · cases hs
  have known : Loader k noticed := by
    unfold noticed
    split
    next =>
      exact ((positionLost_loader moved).of_cutoff (positionLost_state _)).weaken (fun hp => hp) (fun _ => trivial)
        (fun hg => hg) fun hs => hs
    next stays =>
      refine ⟨moved.gate, moved.carriage, moved.pour, fun hk j hj hc => ?_, moved.grain, moved.swap⟩
      obtain ⟨over', scale⟩ := h.spout hk j hj hc
      refine ⟨by_contra fun hn => stays ?_, scale⟩
      unfold movedAway
      rw [show activeHold counted = some j from hj]
      simp [over', hn]
  split
  next moving =>
    refine profileTest_loader known (known.free_of_inMotion ?_)
    obtain e | e := moving <;> rw [e] <;> rfl
  · exact known

/-! ### The governor's inputs -/

theorem presenceExpiry_loader : Loader k (presenceExpiry s) := by
  have expired : Loader k { s with governor := { s.governor with presenceTimer := none, presenceLive := false } } :=
    h.same (.of_eq rfl rfl rfl) rfl rfl rfl rfl rfl rfl
  unfold presenceExpiry
  split
  · dsimp only
    split
    · exact pauseCause_loader expired _
    · exact expired
  · exact h

theorem estopAsserts_loader : Loader k (estopAsserts (setEstop true s)) :=
  travelStop_loader (pauseCause_loader_of h _ (.of_eq rfl rfl rfl) rfl rfl rfl rfl)

theorem estopReleases_loader : Loader k (estopReleases (setEstop false s)) :=
  h.regate (.of_eq rfl rfl rfl) rfl
    ⟨h.gate.permit, h.gate.stage, h.gate.belt, fun _ => rfl, h.gate.presence, rfl⟩ .rfl fun hc => hc

theorem beltRunFall_loader : Loader k (pauseCause .beltStopped (setBeltRun false s)) :=
  pauseCause_loader_of h _ (.of_eq rfl rfl rfl) rfl rfl rfl h.gate.beltPermit

theorem beltRunRise_loader : Loader k (setBeltRun true s) :=
  h.regate (.of_eq rfl rfl rfl) rfl
    ⟨h.gate.permit, h.gate.stage, fun _ => rfl, h.gate.estop, h.gate.presence, h.gate.beltPermit⟩ .rfl fun hc => hc

end

/-! ### The requests -/

theorem travelRefusal_eq_none {goTo : Bool} {s : State} (h : travelRefusal goTo s = none) :
    stepActive s = false ∧ (s.travel.state = .parked ∨ s.travel.state = .unreferenced) := by
  unfold travelRefusal at h
  split at h
  · cases h
  next still =>
    refine ⟨by simpa using still, ?_⟩
    split at h <;> simp_all

/-- What Start Step tests holds, once it does not refuse (R111). -/
theorem startRefusal_eq_none {st : Step} {s : State} (h : startRefusal st s = none) :
    s.store.defaulted = false ∧ s.pins.estop = false ∧ s.travel.state = .parked ∧ s.travel.spoutOver = some st.hold ∧
    s.travel.diverter = .normal ∧ s.pins.beltRun = true ∧ (s.dust.stage = .clear ∨ s.dust.stage = .warn) ∧
    s.weigher.scale = .normal := by
  rw [startRefusal_eq] at h
  have passed := forall_of_firstOf_none h
  simp only [surroundingTests, List.forall_mem_cons, Bool.or_eq_false_iff, decide_eq_false_iff_not, not_not,
    Bool.not_eq_false'] at passed
  obtain ⟨-, defaulted, ⟨estop, -⟩, parked, spout, diverter, -, belt, stage, -, scale, -⟩ := passed
  refine ⟨defaulted, estop, parked, spout, ?_, belt, ?_, ?_⟩
  · cases hd : s.travel.diverter with
    | normal => rfl
    | reject => exact absurd hd diverter
  · cases hd : s.dust.stage <;> simp [hd] at stage ⊢
  · cases hd : s.weigher.scale with
    | normal => rfl
    | scaleFault => exact absurd hd scale

section
variable {k : Known} {s : State} (h : Loader k s)
include h

theorem Loader.free_of_state (parked : s.travel.state ≠ .parked) (stopped : s.travel.state ≠ .stopped) :
    activeHold s = none :=
  by_contra fun hn => (h.pour.rest hn).elim parked stopped

/-- A change that leaves every block that the laws look at. -/
theorem Loader.frame {t : State} (dust : t.dust = s.dust) (pins : t.pins = s.pins) (travel : t.travel = s.travel)
    (scale : t.weigher.scale = s.weigher.scale) (total : t.weigher.lineTotal = s.weigher.lineTotal)
    (store : t.store.defaulted = s.store.defaulted) (governor : t.governor = s.governor)
    (plan : t.plan.steps = s.plan.steps) : Loader k t :=
  h.same (by constructor <;> simp only [travel, scale, total, store]) (by rw [dust]) pins (activeHold_of_plan plan)
    (by rw [governor]) (by rw [governor]) (by rw [governor])

/-! #### POUR -/

theorem startPour_loader (lawful : PlanLaw s) {st : Step} (current : currentStep s.plan = some st)
    (idle : s.governor.state = .idle) (refusal : startRefusal st s = none) (live : k.presence) (eff : Nat) :
    Loader k (startPour st eff s) := by
  obtain ⟨defaulted, estop, parked, spout, diverter, belt, stage, scale⟩ := startRefusal_eq_none refusal
  have free := h.pour.idle.2 idle
  have still := (activeHold_eq_none s).1 free
  have found := mem_of_currentStep current
  have hold : activeHold (startPour st eff s) = some st.hold := by
    rw [startPour_eq lawful found still]
    exact congrArg (Option.map Step.hold) (find_active_updateId s.plan.steps (fun x => { x with
      state := .active, holdReason := none, cutoffReason := none, effective := some eff }) st lawful.ids found
      (not_isActive_of_stepActive still) rfl)
  have busy : activeHold (startPour st eff s) ≠ none := by simp [hold]
  refine ⟨?_, ?_, ⟨iff_of_false busy ?_, fun _ => ?_, fun _ => ?_, fun _ => ?_, fun _ => ?_⟩, fun _ j hj _ => ?_, ?_,
    fun _ _ _ free => absurd free busy⟩
  all_goals rw [startPour_eq lawful found still] at *
  · exact ⟨iff_of_true rfl rfl, fun _ => stage, fun _ => belt, fun _ => estop, fun _ => live, h.gate.beltPermit⟩
  · exact ⟨h.carriage.timer, h.carriage.runOut, h.carriage.before, h.carriage.spout⟩
  · nofun
  · exact .inl parked
  · exact h.carriage.spout (by rw [spout]; rfl)
  · exact diverter
  · exact defaulted
  · obtain rfl : st.hold = j := Option.some.inj (hold.symm.trans hj)
    exact ⟨spout, scale⟩
  · exact h.grain

theorem heldAtStart_loader (idle : s.governor.state = .idle) (id eff : Nat) (r : HoldReason) :
    Loader k (heldAtStart id eff r s) := by
  have still := (activeHold_eq_none s).1 (h.pour.idle.2 idle)
  rw [heldAtStart_eq]
  refine h.same (.of_eq rfl rfl rfl) rfl rfl (firstActive_map fun x hx => ?_) rfl rfl rfl
  have notActive := not_isActive_of_stepActive still x hx
  rw [notActive]
  split
  · exact ⟨rfl, nofun⟩
  · exact ⟨notActive, nofun⟩

theorem ownStartStep_loader (lawful : PlanLaw s) (live : k.presence) (revision : Nat) :
    Loader k (ownStartStep revision s).1 := by
  unfold ownStartStep
  split
  · exact h
  next passed =>
    have idle : s.governor.state = .idle := by
      simpa using forall_of_firstOf_none passed (s.governor.state != .idle, answerOnly .busy) (by simp)
    split
    · exact h
    next st current =>
      split
      · exact h
      next refusal =>
        unfold judgedStart
        dsimp only
        split
        · exact startPour_loader h lawful current idle refusal live _
        · exact h
        · exact heldAtStart_loader h idle _ _ _

theorem ownResume_loader (live : k.presence) : Loader k (ownResume s).1 := by
  unfold ownResume
  split
  · exact h
  next passed =>
    have tests := forall_of_firstOf_none passed
    simp only [List.forall_mem_cons, Bool.or_eq_false_iff, bne_eq_false_iff_eq, beq_eq_false_iff_ne,
      Bool.not_eq_false'] at tests
    obtain ⟨-, -, paused, ⟨-, estop⟩, ⟨high, trip⟩, -, belt, -⟩ := tests
    refine resumeFeed_loader h paused ?_ belt estop live
    cases hd : s.dust.stage <;> simp [hd] at high trip ⊢

theorem ownStopStep_loader : Loader k (ownStopStep s).1 := by
  unfold ownStopStep
  split
  · exact h
  cases hs : s.governor.state with
  | idle => exact h
  | cutoff => exact h
  | _ => exact cutoff_loader h _ (by rw [hs]; nofun)

theorem ownSetFeedLevel_loader (level : Nat) : Loader k (ownSetFeedLevel level s).1 := by
  have requested : Loader k { s with governor := { s.governor with requested := level } } :=
    h.same (.of_eq rfl rfl rfl) rfl rfl rfl rfl rfl rfl
  unfold ownSetFeedLevel
  split
  · exact recomputeCeiling_loader requested
  · exact h

theorem ownAcknowledgeTrip_loader : Loader k (ownAcknowledgeTrip s).1 := by
  rw [ownAcknowledgeTrip_eq]
  split
  · exact h
  split
  · exact h
  split
  · exact h
  split
  · exact recomputeStage_loader (h.dust rfl (.of_eq rfl rfl rfl) rfl rfl rfl)
  · exact h

theorem ownClearStop_loader : Loader k (ownClearStop s).1 := by
  have released : Loader k { s with governor := { s.governor with
      estopLatch := false, pauseSet := { s.governor.pauseSet with estop := false } } } :=
    h.same (.of_eq rfl rfl rfl) rfl rfl rfl rfl rfl rfl
  unfold ownClearStop
  split
  · exact h
  · exact stopCleared_loader released

/-! #### TRAVEL -/

theorem acceptTravel_loader (r : TravelRequest) (free : stepActive s = false)
    (rest : s.travel.state = .parked ∨ s.travel.state = .unreferenced)
    (entry : ∀ j, r = .goToHold j → (s.travel.activeMap.get j).isSome = true) : Loader k (acceptTravel r s).1 := by
  have none := (activeHold_eq_none s).2 free
  have still : s.travel.state.inMotion = false := by
    obtain e | e := rest <;> rw [e] <;> rfl
  have asked : Loader k { s with travel := { s.travel with request := some r } } :=
    h.same (by constructor <;> rfl) rfl rfl rfl rfl rfl rfl
  have timer := h.timer_of_rest still
  unfold acceptTravel
  dsimp only
  split
  next go => exact startMotion_loader asked none go still (.inr fun j hj => entry j (Option.some.inj hj))
  · exact asked.travels none rfl rfl rfl rfl
      ⟨by simp [waitPending, timer], fun _ => rfl, fun _ => rest, h.carriage.spout⟩ (fun _ => grainOk_of_rest rfl)
      fun known pending _ => h.swap known pending still

theorem ownGoToHold_loader (hold : Nat) : Loader k (ownGoToHold hold s).1 := by
  unfold ownGoToHold
  split
  · exact h
  split
  · exact h
  next passed =>
    obtain ⟨free, rest⟩ := travelRefusal_eq_none passed
    split
    · exact h
    next found =>
      refine acceptTravel_loader h _ free rest fun j hj => ?_
      cases hj
      simpa [Option.isSome_iff_ne_none] using found

theorem ownGoToPosition_loader (x : Nat) : Loader k (ownGoToPosition x s).1 := by
  unfold ownGoToPosition
  split
  · exact h
  split
  · exact h
  next passed =>
    obtain ⟨free, rest⟩ := travelRefusal_eq_none passed
    exact acceptTravel_loader h _ free rest nofun

theorem ownReferenceTravel_loader : Loader k (ownReferenceTravel s).1 := by
  unfold ownReferenceTravel
  split
  · exact h
  next passed =>
    obtain ⟨free, rest⟩ := travelRefusal_eq_none passed
    exact acceptTravel_loader h _ free rest nofun

theorem ownCancelTravel_loader : Loader k (ownCancelTravel s).1 := by
  unfold ownCancelTravel
  cases hs : s.travel.state with
  | moving => exact cancelMotion_loader h (by rw [hs]; rfl)
  | creeping => exact cancelMotion_loader h (by rw [hs]; rfl)
  | referencing => exact cancelMotion_loader h (by rw [hs]; rfl)
  | pending =>
    have timer := h.timer_of_rest (by rw [hs]; rfl)
    have before := h.carriage.before hs
    refine h.travels (h.free_of_pending hs) rfl rfl rfl rfl ⟨by simp [timer], nofun, fun _ => before, h.carriage.spout⟩
      (fun _ => grainOk_of_rest ?_) fun known pending _ => h.swap known pending (by rw [hs]; rfl)
    obtain e | e := before <;> exact (congrArg TravelState.inMotion e).trans rfl
  | _ => exact h

theorem ownClearTravelFault_loader : Loader k (ownClearTravelFault s).1 := by
  unfold ownClearTravelFault
  split
  next faulted =>
    have timer := h.timer_of_rest (by rw [faulted]; rfl)
    have quiet : ¬ s.travel.runOutTimer.isSome = true := fun hq => by
      rw [h.carriage.runOut hq] at faulted
      cases faulted
    have settled := s.travel.restState_settled
    refine h.travels (h.free_of_state (by rw [faulted]; nofun) (by rw [faulted]; nofun)) rfl rfl rfl rfl
      ⟨by simp [timer], fun hq => absurd hq quiet, fun hp => ?_, h.carriage.spout⟩ (fun _ => grainOk_of_rest ?_)
      fun known pending _ => h.swap known pending (by rw [faulted]; rfl)
    · obtain e | e | e | e := settled <;> rw [show s.travel.restState = _ from hp] at e <;> cases e
    · obtain e | e | e | e := settled <;> exact (congrArg TravelState.inMotion e).trans rfl
  · exact h

theorem ownSetDiverter_loader (value : Nat) : Loader k (ownSetDiverter value s).1 := by
  unfold ownSetDiverter
  split
  · exact h
  next v _ =>
    split
    · exact h
    next still =>
      have free := (activeHold_eq_none s).2 (by simpa using still)
      split
      · exact h
      next clear =>
        have diverted : Loader k { s with travel := { s.travel with diverter := v } } := by
          refine h.travels free rfl rfl rfl rfl
            ⟨h.carriage.timer, h.carriage.runOut, h.carriage.before, h.carriage.spout⟩ (fun _ hm => ?_) h.swap
          cases v with
          | reject => exact .inr rfl
          | normal => exact .inl (by_contra fun hl => clear ⟨rfl, hm, hl⟩)
        unfold divert
        dsimp only
        split
        next waits => exact startMotion_loader diverted free (.inr waits.1) (by rw [waits.2]; rfl) (.inl waits.2)
        · exact diverted

/-! #### HOLD POUR and PLAN -/

theorem ownHoldPour_loader : Loader k (ownHoldPour s).1 := by
  have held : Loader k { s with governor := { s.governor with deckHold := true } } :=
    h.same (.of_eq rfl rfl rfl) rfl rfl rfl rfl rfl rfl
  unfold ownHoldPour
  split
  · exact h
  · exact pauseCause_loader held _

theorem ownOpenCall_loader (id : Nat) (band : Option Nat) : Loader k (ownOpenCall id band s).1 := by
  unfold ownOpenCall
  split
  · exact h
  split
  · exact h
  · exact h.same (.of_eq rfl rfl rfl) rfl rfl rfl rfl rfl rfl

theorem ownCloseCall_loader : Loader k (ownCloseCall s).1 := by
  unfold ownCloseCall
  split
  · exact h
  next passed =>
    have free : activeHold s = none := by
      have quiet := forall_of_firstOf_none passed (planBusy s.plan, answerOnly .busy) (by simp)
      refine firstActive_eq_none fun x hx => ?_
      simp only [planBusy, List.any_eq_false, Bool.or_eq_true, not_or] at quiet
      simpa [Step.isActive] using (quiet x hx).1
    exact h.travels free free.symm rfl rfl rfl ⟨h.carriage.timer, h.carriage.runOut, h.carriage.before, nofun⟩ h.grain nofun

theorem ownInsertStep_loader (position hold slot target maxLevel : Nat) :
    Loader k (ownInsertStep position hold slot target maxLevel s).1 := by
  unfold ownInsertStep
  split
  · refine h.same (.of_eq rfl rfl rfl) rfl rfl ?_ rfl rfl rfl
    exact (firstActive_insert rfl).trans (by rw [List.take_append_drop]; rfl)
  · exact h
  · exact h

/-- The plan changed at one step that stays ACTIVE or stays what it was, and the revision moved. -/
theorem updateId_loader (lawful : PlanLaw s) {st : Step} (found : st ∈ s.plan.steps) {f : Step → Step}
    (active : (f st).isActive = st.isActive) (hold : (f st).hold = st.hold) :
    Loader k { s with plan := s.plan.updateId st.id f } :=
  h.same (.of_eq rfl rfl rfl) rfl rfl (updateId_firstActive lawful.ids found active fun _ => hold) rfl rfl rfl

theorem bumpRevision_loader : Loader k (bumpRevision s) := h.same (.of_eq rfl rfl rfl) rfl rfl rfl rfl rfl rfl

theorem raise_loader (e : Event) : Loader k (raise e s) := h.same (.of_eq rfl rfl rfl) rfl rfl rfl rfl rfl rfl

theorem ownModifyStep_loader (lawful : PlanLaw s) (id target level : Nat) : Loader k (ownModifyStep id target level s).1 := by
  unfold ownModifyStep
  split
  · exact h
  split
  · exact h
  split
  · exact h
  next st found =>
    split
    · have written := updateId_loader h lawful (stepOf_some found).1 (f := fun x => x.modify target level) rfl rfl
      unfold modifyPlan
      extract_lets s1 s2
      have moved : Loader k s2 := by
        unfold s2
        split
        · exact written
        · exact bumpRevision_loader written
      change Loader k (if st.state = .active then reEvaluate s2 else s2)
      split
      · exact reEvaluate_loader moved
      · exact moved
    · exact h

theorem ownDeleteStep_loader (lawful : PlanLaw s) (id : Nat) : Loader k (ownDeleteStep id s).1 := by
  unfold ownDeleteStep
  split
  · exact h
  split
  · exact h
  next st found =>
    obtain ⟨mem, rfl⟩ := stepOf_some found
    split
    next waits =>
      refine h.same (.of_eq rfl rfl rfl) rfl rfl (firstActive_filter fun x hx ha => ?_) rfl rfl rfl
      refine bne_iff_ne.2 fun same => ?_
      obtain rfl := eq_of_id_eq lawful.ids hx mem same
      rw [(x.isActive_iff).1 ha] at waits
      cases waits
    · exact h

theorem ownCancelStep_loader (lawful : PlanLaw s) (id : Nat) : Loader k (ownCancelStep id s).1 := by
  unfold ownCancelStep
  split
  · exact h
  split
  · exact h
  next st found =>
    obtain ⟨mem, rfl⟩ := stepOf_some found
    have waiting (notActive : st.isActive = false) : Loader k (cancelWaiting st s) :=
      raise_loader (bumpRevision_loader (updateId_loader h lawful mem (notActive.symm ▸ rfl) rfl)) _
    split
    · exact h
    · exact h
    · change Loader k (cancelActive st s)
      unfold cancelActive
      split
      · exact h
      · exact cancelNotice_loader (recordCutoff_loader h _)
    next notDone notCancelled notActive =>
      exact waiting (by simpa [Step.isActive] using notActive)

theorem ownCloseStepShort_loader (lawful : PlanLaw s) (id : Nat) : Loader k (ownCloseStepShort id s).1 := by
  unfold ownCloseStepShort
  split
  · exact h
  split
  · exact h
  next st found =>
    obtain ⟨mem, rfl⟩ := stepOf_some found
    split
    next held =>
      exact raise_loader (bumpRevision_loader (updateId_loader h lawful mem (by simp [Step.isActive, held]) rfl)) _
    · exact h

theorem ownReleaseHold_loader (lawful : PlanLaw s) (id : Nat) : Loader k (ownReleaseHold id s).1 := by
  unfold ownReleaseHold
  split
  · exact h
  split
  · exact h
  next st found =>
    obtain ⟨mem, rfl⟩ := stepOf_some found
    split
    · split
      · exact bumpRevision_loader (updateId_loader h lawful mem rfl rfl)
      · exact h
    · exact h

theorem ownSetTrimBand_loader (band : Nat) : Loader k (ownSetTrimBand band s).1 := by
  have banded : Loader k (bumpRevision { s with plan := { s.plan with trimBand := band } }) :=
    h.same (.of_eq rfl rfl rfl) rfl rfl rfl rfl rfl rfl
  unfold ownSetTrimBand
  split
  · exact h
  split
  · exact h
  split
  · exact h
  · dsimp only
    split
    · exact reEvaluate_loader banded
    · exact banded

theorem ownRequestSwap_loader : Loader k (ownRequestSwap s).1 := by
  have asked : Loader { k with swap := False } { s with travel := { s.travel with swapPending := true } } :=
    ⟨⟨h.gate.permit, h.gate.stage, h.gate.belt, h.gate.estop, h.gate.presence, h.gate.beltPermit⟩,
      ⟨h.carriage.timer, h.carriage.runOut, h.carriage.before, h.carriage.spout⟩,
      ⟨h.pour.idle, h.pour.rest, h.pour.referenced, h.pour.normal, h.pour.settings⟩, h.spout, h.grain, nofun⟩
  unfold ownRequestSwap
  split
  · exact h
  · exact swapTest_loader asked

theorem ownCancelSwap_loader : Loader k (ownCancelSwap s).1 := by
  unfold ownCancelSwap
  split
  · exact h
  · exact ⟨⟨h.gate.permit, h.gate.stage, h.gate.belt, h.gate.estop, h.gate.presence, h.gate.beltPermit⟩,
      ⟨h.carriage.timer, h.carriage.runOut, h.carriage.before, h.carriage.spout⟩,
      ⟨h.pour.idle, h.pour.rest, h.pour.referenced, h.pour.normal, h.pour.settings⟩, h.spout, h.grain, nofun⟩

/-! #### SETTINGS -/

theorem storeSetting_loader (key : SettingKey) (v : Nat) : Loader k (storeSetting key v s) := by
  unfold storeSetting
  split
  · exact h.same (.of_eq rfl rfl rfl) rfl rfl rfl rfl rfl rfl
  · exact h.same (by constructor <;> rfl) rfl rfl rfl rfl rfl rfl

/-- A pour margin with no step ACTIVE moves the spout-over hold (R66, R67). -/
theorem recomputeSpout_loader (free : stepActive s = false) : Loader k (recomputeSpout s) := by
  refine h.travels ((activeHold_eq_none s).2 free) rfl rfl rfl rfl
    ⟨h.carriage.timer, h.carriage.runOut, h.carriage.before, fun hs => ?_⟩ h.grain h.swap
  change (if s.travel.referenced then _ else none).isSome = true at hs
  change s.travel.referenced = true
  split at hs
  · assumption
  · cases hs

theorem applySetting_loader (was : BitVec 8) (v : Nat) (key : SettingKey)
    (clear : key = .lineLength → s.weigher.lineTotal = 0) (free : key = .pourMargin → stepActive s = false) :
    Loader k (applySetting was v s key) := by
  have channel (c : ChannelNo) (ch : Channel) : Loader k (setChannel c ch s) :=
    h.dust rfl (.of_eq rfl rfl rfl) rfl rfl rfl
  unfold applySetting
  split
  · refine h.same ?_ rfl rfl rfl rfl rfl rfl
    constructor <;> simp [rebuildLine, clear rfl]
  · exact maskChanged_loader h _ _
  · exact channel _ _
  · exact channel _ _
  · exact channel _ _
  · exact channel _ _
  · exact channel _ _
  · split
    · exact highHoldExpires_loader h
    · exact h
  · exact recomputeSpout_loader h (free rfl)
  · split
    · exact travelExpiry_loader h
    · exact h
  · split
    · exact runOutExpiry_loader h
    · exact h
  · exact recomputeCeiling_loader h
  · exact recomputeCeiling_loader h
  · exact h.same (.of_eq rfl rfl rfl) rfl rfl rfl rfl rfl rfl
  · split
    · exact presenceExpiry_loader h
    · exact h
  · exact h.same (.of_eq rfl rfl rfl) rfl rfl rfl rfl rfl rfl
  · exact h

theorem ownWriteSetting_loader (identifier value : Nat) : Loader k (ownWriteSetting identifier value s).1 := by
  unfold ownWriteSetting
  split
  · exact h
  next key _ =>
    split
    · exact h
    split
    · exact h
    next passed =>
      refine applySetting_loader (storeSetting_loader h _ _) _ _ _ ?_ ?_
      · rintro rfl
        have quiet := forall_of_firstOf_none passed _ List.mem_cons_self
        simp only [Bool.or_eq_false_iff, bne_eq_false_iff_eq] at quiet
        exact quiet.1
      · rintro rfl
        have quiet := forall_of_firstOf_none passed _ List.mem_cons_self
        simp only [Bool.or_eq_false_iff] at quiet
        exact quiet.1

theorem ownAcceptSettings_loader : Loader k (ownAcceptSettings s).1 :=
  ⟨⟨h.gate.permit, h.gate.stage, h.gate.belt, h.gate.estop, h.gate.presence, h.gate.beltPermit⟩,
    ⟨h.carriage.timer, h.carriage.runOut, h.carriage.before, h.carriage.spout⟩,
    ⟨h.pour.idle, h.pour.rest, h.pour.referenced, h.pour.normal, fun _ => rfl⟩, h.spout, h.grain, h.swap⟩

theorem setCalUnlock_loader (level : Bool) : Loader k (setCalUnlock level s) :=
  h.regate (.of_eq rfl rfl rfl) rfl
    ⟨h.gate.permit, h.gate.stage, h.gate.belt, h.gate.estop, h.gate.presence, h.gate.beltPermit⟩ .rfl fun hc => hc

theorem ownWriteHatchEntry_loader (page hold present fore aft : Nat) (lever : Int) (limit : Nat) :
    Loader k (ownWriteHatchEntry page hold present fore aft lever limit s).1 := by
  unfold ownWriteHatchEntry
  split
  · exact h
  split
  · split
    · exact h
    · exact h.same (by constructor <;> rfl) rfl rfl rfl rfl rfl rfl
  · exact h

/-- Every owner keeps the laws; Start Step and Resume where presence is live. -/
theorem owner_loader (lawful : PlanLaw s) (live : k.presence) {f : State → State × Answer} (hf : Owner f) :
    Loader k (f s).1 := by
  cases hf with
  | startStep => exact ownStartStep_loader h lawful live _
  | resume => exact ownResume_loader h live
  | stopStep => exact ownStopStep_loader h
  | setFeedLevel => exact ownSetFeedLevel_loader h _
  | presenceFrame => exact h.same (.of_eq rfl rfl rfl) rfl rfl rfl rfl rfl rfl
  | acknowledgeTrip => exact ownAcknowledgeTrip_loader h
  | clearStop => exact ownClearStop_loader h
  | goToHold => exact ownGoToHold_loader h _
  | goToPosition => exact ownGoToPosition_loader h _
  | referenceTravel => exact ownReferenceTravel_loader h
  | cancelTravel => exact ownCancelTravel_loader h
  | clearTravelFault => exact ownClearTravelFault_loader h
  | setDiverter => exact ownSetDiverter_loader h _
  | holdPour => exact ownHoldPour_loader h
  | releasePour => exact h.same (.of_eq rfl rfl rfl) rfl rfl rfl rfl rfl rfl
  | openCall => exact ownOpenCall_loader h _ _
  | closeCall => exact ownCloseCall_loader h
  | insertStep => exact ownInsertStep_loader h _ _ _ _ _
  | modifyStep => exact ownModifyStep_loader h lawful _ _ _
  | deleteStep => exact ownDeleteStep_loader h lawful _
  | cancelStep => exact ownCancelStep_loader h lawful _
  | closeStepShort => exact ownCloseStepShort_loader h lawful _
  | releaseHold => exact ownReleaseHold_loader h lawful _
  | setTrimBand => exact ownSetTrimBand_loader h _
  | requestSwap => exact ownRequestSwap_loader h
  | cancelSwap => exact ownCancelSwap_loader h
  | writeSetting => exact ownWriteSetting_loader h _ _
  | acceptSettings => exact ownAcceptSettings_loader h
  | writeHatchEntry => exact ownWriteHatchEntry_loader h _ _ _ _ _ _ _
  | calibrationRequest z sp b unlock =>
    have read := setCalUnlock_loader h unlock
    unfold calibrationRequest
    split
    · exact read.frame (by simp) (by simp) (by simp) (by simp) (by simp) (by simp) (by simp) (by simp)
    · exact read
  | _ => exact h.frame (by simp) (by simp) (by simp) (by simp) (by simp) (by simp) (by simp) (by simp)

end

/-! ### Presence

A request other than Start Step and Resume starts no feed, so that presence is live after it where it was before. -/

/-- What is known where presence is live as far as feed was on in `s`. -/
def State.feeds (s : State) : Known :=
  { presence := s.governor.state.feeding = true, spout := True, grain := True, swap := False }

theorem loader_feeds {k : Known} {s : State} (h : Loader k s) (known : k.spout ∧ k.grain) : Loader s.feeds s :=
  ⟨⟨h.gate.permit, h.gate.stage, h.gate.belt, h.gate.estop, fun hf => hf, h.gate.beltPermit⟩, h.carriage, h.pour,
    fun _ => h.spout known.1, fun _ => h.grain known.2, nofun⟩

/-- A Start Step or a Resume. -/
def startsFeed (c : Instr) : Prop := (∃ r, c = .startStep r) ∨ c = .resume

section
variable {s : State} (h : Loader s.feeds s) (lawful : PlanLaw s)
include h lawful

/-- A request that is neither starts no feed. -/
theorem request_feeding {c : Instr} {st : Station} {f : State → State × Answer} (hc : IsRequest c st f)
    (quiet : ¬ startsFeed c) : (f s).1.governor.state.feeding = true → s.governor.state.feeding = true := by
  cases hc with
  | startStep r => exact absurd (.inl ⟨r, rfl⟩) quiet
  | resume => exact absurd (.inr rfl) quiet
  | stopStep => exact (ownStopStep_loader h).gate.presence
  | setFeedLevel => exact (ownSetFeedLevel_loader h _).gate.presence
  | presence => exact fun hf => hf
  | acknowledgeTrip => exact (ownAcknowledgeTrip_loader h).gate.presence
  | clearStop => exact (ownClearStop_loader h).gate.presence
  | holdPour => exact (ownHoldPour_loader h).gate.presence
  | releasePour => exact fun hf => hf
  | modifyStep => exact (ownModifyStep_loader h lawful _ _ _).gate.presence
  | cancelStep => exact (ownCancelStep_loader h lawful _).gate.presence
  | setTrimBand => exact (ownSetTrimBand_loader h _).gate.presence
  | writeSetting => exact (ownWriteSetting_loader h _ _).gate.presence
  | writeCalibration =>
    unfold calibrationRequest
    split <;> simp
  | _ => simp

/-- Nor does such a request handed over by a port. -/
theorem handOver_feeding {r : Request} (quiet : r ≠ .startStep ∧ r ≠ .resume) (st : Station) (b : List Byte) :
    (handOver r st b s).1.governor.state.feeding = true → s.governor.state.feeding = true := by
  cases r with
  | startStep => exact absurd rfl quiet.1
  | resume => exact absurd rfl quiet.2
  | stopStep => exact (ownStopStep_loader h).gate.presence
  | setFeedLevel => exact (ownSetFeedLevel_loader h _).gate.presence
  | acknowledgeTrip => exact (ownAcknowledgeTrip_loader h).gate.presence
  | clearStop => exact (ownClearStop_loader h).gate.presence
  | holdPour => exact (ownHoldPour_loader h).gate.presence
  | releasePour => exact fun hf => hf
  | modifyStep => exact (ownModifyStep_loader h lawful _ _ _).gate.presence
  | cancelStep => exact (ownCancelStep_loader h lawful _).gate.presence
  | setTrimBand => exact (ownSetTrimBand_loader h _).gate.presence
  | writeSetting => exact (ownWriteSetting_loader h _ _).gate.presence
  | _ => simp [handOver]

end

/-- Presence that expires stops the feed (R123, R126). -/
theorem presenceExpiry_live {s : State} (feeding : (presenceExpiry s).governor.state.feeding = true)
    (h : s.governor.presenceLive = true) : (presenceExpiry s).governor.presenceLive = true := by
  unfold presenceExpiry at feeding ⊢
  split at feeding
  · dsimp only at feeding
    split at feeding
    · rw [(pauseCause_eases _ _).2] at feeding
      cases feeding
    next still => exact absurd feeding still
  next stopped =>
    rw [if_neg stopped]
    exact h

theorem applySetting_live (was : BitVec 8) (v : Nat) {s : State} (key : SettingKey)
    (feeding : (applySetting was v s key).governor.state.feeding = true) (h : s.governor.presenceLive = true) :
    (applySetting was v s key).governor.presenceLive = true := by
  cases key with
  | presenceWindow =>
    dsimp only [applySetting] at feeding ⊢
    split
    next reached =>
      rw [if_pos reached] at feeding
      exact presenceExpiry_live feeding h
    · exact h
  | channel c field => cases field <;> exact h
  | highHoldTime | travelTimeLimit | runOutLimit =>
    dsimp only [applySetting]
    split <;> simpa using h
  | mask | warnFeedLevel | dribbleLevel => simpa [applySetting] using h
  | _ => exact h

theorem ownWriteSetting_live {s : State} (identifier value : Nat)
    (feeding : (ownWriteSetting identifier value s).1.governor.state.feeding = true)
    (h : s.governor.presenceLive = true) : (ownWriteSetting identifier value s).1.governor.presenceLive = true := by
  obtain e | ⟨key, -, -, -, e⟩ := ownWriteSetting_cases identifier value s <;> rw [e] at feeding ⊢
  · exact h
  · exact applySetting_live _ _ _ feeding (by simpa using h)

/-- A request leaves presence live as far as feed is on. -/
theorem owner_presenceLive {s : State} {f : State → State × Answer} (hf : Owner f)
    (feeding : (f s).1.governor.state.feeding = true) (h : s.governor.presenceLive = true) :
    (f s).1.governor.presenceLive = true := by
  cases hf with
  | presenceFrame => rfl
  | writeSetting => exact ownWriteSetting_live _ _ feeding h
  | calibrationRequest =>
    unfold calibrationRequest
    split <;> simp [h]
  | _ => simp [h]

/-- An owner that starts no feed, or starts it with presence live, keeps the laws with what they say of presence. -/
theorem owner_known {s : State} (h : Loader s.known s) (lawful : PlanLaw s) {f : State → State × Answer} (hf : Owner f)
    (starts : (f s).1.governor.state.feeding = true → s.governor.state.feeding = true ∨ s.governor.presenceLive = true) :
    Loader (f s).1.known (f s).1 := by
  have all : Loader { s.known with presence := True } s :=
    h.weaken (fun _ => trivial) (fun hk => hk) (fun hk => hk) fun hk => hk
  have kept := owner_loader all lawful trivial hf
  refine ⟨⟨kept.gate.permit, kept.gate.stage, kept.gate.belt, kept.gate.estop, fun feeding => ?_, kept.gate.beltPermit⟩,
    kept.carriage, kept.pour, kept.spout, kept.grain, kept.swap⟩
  exact owner_presenceLive hf feeding ((starts feeding).elim h.gate.presence fun live => live)

/-! ### Every step -/

/-- A character leaves the gate: a frame complete at the CAB port makes presence live, and no more (R126, R160). -/
theorem takeCharacter_gate (st : Station) (s : State) (b : Byte) :
    (takeCharacter st s b).governor.state = s.governor.state ∧
    (takeCharacter st s b).governor.feedPermit = s.governor.feedPermit ∧
    (takeCharacter st s b).governor.beltPermit = s.governor.beltPermit ∧
    (s.governor.presenceLive = true → (takeCharacter st s b).governor.presenceLive = true) := by
  have complete (frame : List Byte) : (completeFrame st frame s).governor.state = s.governor.state ∧
      (completeFrame st frame s).governor.feedPermit = s.governor.feedPermit ∧
      (completeFrame st frame s).governor.beltPermit = s.governor.beltPermit ∧
      (s.governor.presenceLive = true → (completeFrame st frame s).governor.presenceLive = true) := by
    unfold completeFrame
    dsimp only
    split
    · exact ⟨rfl, rfl, rfl, fun _ => rfl⟩
    · exact ⟨rfl, rfl, rfl, fun h => h⟩
  have same {p : Port} : (setPort st p s).governor.state = s.governor.state ∧
      (setPort st p s).governor.feedPermit = s.governor.feedPermit ∧
      (setPort st p s).governor.beltPermit = s.governor.beltPermit ∧
      (s.governor.presenceLive = true → (setPort st p s).governor.presenceLive = true) := ⟨rfl, rfl, rfl, fun h => h⟩
  unfold takeCharacter
  dsimp only
  split
  · exact ⟨rfl, rfl, rfl, fun h => h⟩
  · exact same
  · split
    · unfold judgeHeader
      dsimp only
      split
      · split
        · exact complete _
        · exact same
      · exact same
    · exact same
  · split <;> exact same
  · split
    · exact complete _
    · exact same

theorem takeCharacter_loader {k : Known} {s : State} (h : Loader k s) (st : Station) (b : Byte) :
    Loader k (takeCharacter st s b) := by
  obtain ⟨state, permit, belt, -⟩ := takeCharacter_gate st s b
  exact h.same (.of_eq (by simp) (by simp) (by simp)) (by simp) (by simp) (activeHold_of_plan (by simp)) state permit belt

/-- An arrival other than a take keeps the laws. -/
theorem arrival_loader {k : Known} {s : State} (h : Loader k s) {c : Instr} {p f : State → State} (hc : IsArrival c p f)
    (request : ∀ st u, c ≠ .takeRequest st u) : Loader k (f (p s)) := by
  cases hc with
  | takeRequest st u => exact absurd rfl (request st u)
  | frameComplete st chars =>
    exact takeCharacters_keeps (law := Loader k) (fun _ b h => takeCharacter_loader h st b) chars h
  | characterReceived st b => exact takeCharacter_loader h st b
  | wGroupArrival =>
    exact h.same (by constructor <;> simp) (by simp) (by simp) (activeHold_of_plan (by simp)) (by simp) (by simp) (by simp)
  | referenceFaultNotice => exact takeFaultNotice_loader h _
  | referenceGoodNotice => exact takeGoodNotice_loader h _
  | tachPulse => exact countPulse_loader h
  | dGroupArrival => exact takeDGroup_loader h
  | highHoldExpiry => exact highHoldExpires_loader h
  | referenceTimerExpiry => exact referenceTimerExpires_loader h
  | encoderCount => exact countEncoder_loader h _
  | travelSpeedPeriodEnd => exact speedPeriodEnds_loader h
  | homeCloses closed =>
    exact homeCloses_loader (s := setHome closed s) (h.regate (.of_eq rfl rfl rfl) rfl
      ⟨h.gate.permit, h.gate.stage, h.gate.belt, h.gate.estop, h.gate.presence, h.gate.beltPermit⟩ .rfl fun hc => hc) _
  | limitSwitchAsserted d level =>
    refine limitAsserts_loader (s := setLimit d level s) ?_ d level
    cases d <;> exact h.regate (.of_eq rfl rfl rfl) rfl
      ⟨h.gate.permit, h.gate.stage, h.gate.belt, h.gate.estop, h.gate.presence, h.gate.beltPermit⟩ .rfl fun hc => hc
  | travelTimerExpiry => exact travelExpiry_loader h
  | runOutTimerExpiry => exact runOutExpiry_loader h
  | estopAsserted => exact estopAsserts_loader h
  | estopReleased => exact estopReleases_loader h
  | beltRunFall => exact beltRunFall_loader h
  | beltRunRise => exact beltRunRise_loader h
  | governorPeriodExpiry =>
    exact (rampLevel_loader h).same (.of_eq rfl rfl rfl) rfl rfl rfl rfl rfl rfl
  | presenceTimerExpiry => exact presenceExpiry_loader h
  | refOkFall =>
    exact h.regate (.of_eq (by simp) (by simp) (by simp)) (activeHold_of_plan (by simp)) ⟨by simpa using h.gate.permit,
      by simpa using h.gate.stage, by simpa [setRefOk] using h.gate.belt, by simpa [setRefOk] using h.gate.estop,
      by simpa using h.gate.presence, by simpa [setRefOk] using h.gate.beltPermit⟩ (by simp) (by simp)
  | refOkRise =>
    exact h.regate (.of_eq (by simp) (by simp) (by simp)) (activeHold_of_plan (by simp)) ⟨by simpa using h.gate.permit,
      by simpa using h.gate.stage, by simpa [setRefOk] using h.gate.belt, by simpa [setRefOk] using h.gate.estop,
      by simpa using h.gate.presence, by simpa [setRefOk] using h.gate.beltPermit⟩ (by simp) (by simp)
  | conversionComplete code =>
    exact h.frame (by simp) (by simp) (by simp) (by simp) (by simp) (by simp) (by simp) (by simp)
  | feedRatePeriodEnd => exact h.same (.of_eq rfl rfl rfl) rfl rfl rfl rfl rfl rfl
  | _ => exact h.frame rfl rfl rfl rfl rfl rfl rfl rfl

theorem arrival_presenceLive {s : State} {c : Instr} {p f : State → State} (hc : IsArrival c p f)
    (request : ∀ st u, c ≠ .takeRequest st u) (feeding : (f (p s)).governor.state.feeding = true)
    (h : s.governor.presenceLive = true) : (f (p s)).governor.presenceLive = true := by
  cases hc with
  | takeRequest st u => exact absurd rfl (request st u)
  | frameComplete st chars =>
    exact takeCharacters_keeps (law := fun t => t.governor.presenceLive = true)
      (fun t b h => (takeCharacter_gate st t b).2.2.2 h) chars h
  | characterReceived st b => exact (takeCharacter_gate st s b).2.2.2 h
  | presenceTimerExpiry => exact presenceExpiry_live feeding h
  | feedRatePeriodEnd => exact h
  | _ => simpa using h

theorem owner_phase {s : State} {f : State → State × Answer} (hf : Owner f) : (f s).1.phase = s.phase := by
  cases hf <;> simp

theorem arrival_phase {s : State} {c : Instr} {p f : State → State} (hc : IsArrival c p f) :
    (f (p s)).phase = s.phase := by
  cases hc with
  | frameComplete st chars =>
    exact takeCharacters_keeps (law := fun t => t.phase = s.phase) (fun t b h => by simpa using h) chars rfl
  | _ => simp

/-- A cold start meets the law whatever came before it. -/
theorem coldStart_loaderLaw (s : State) : LoaderLaw (coldStart s) :=
  ⟨⟨⟨nofun, nofun⟩, nofun⟩, nofun, nofun, fun _ => ⟨rfl, rfl, rfl, rfl, rfl, rfl, rfl, rfl⟩⟩

theorem loaderLaw_of_cold {s : State} (hc : s.phase = .cold) (h : ColdLaw s) : LoaderLaw s := by
  obtain ⟨idle, permit, rest, -⟩ := id h
  refine ⟨⟨?_, ?_⟩, ?_, fun hr => absurd (hr.symm.trans hc) (by decide), fun _ => h⟩
  · rw [permit, idle]
    exact iff_of_false nofun nofun
  · rw [permit]
    nofun
  · unfold TravelLaw
    rw [rest]
    nofun

/-- Cold-start recovery leaves no step ACTIVE (R108). -/
theorem holdForPower_activeHold (s : State) : activeHold (holdForPower s) = none := by
  unfold holdForPower
  split
  next h =>
    rw [activeHold, h]
    rfl
  · rw [swapTest_activeHold]
    exact updateActive_firstActive_none s.plan fun _ _ => rfl

/-- The end of recovery: the carriage at rest, STOPPED under ESTOP, the gate shut, and the belt permit read (R86, R136). -/
theorem completeRecovery_loader {s : State} (h : ColdLaw s) (free : activeHold s = none) :
    Loader (completeRecovery s).known (completeRecovery s) := by
  obtain ⟨idle, permit, rest, timer, runOut, spout, -⟩ := h
  have none : activeHold (completeRecovery s) = none := (activeHold_of_plan (by simp)).trans free
  have state : (completeRecovery s).travel.state = .unreferenced ∨ (completeRecovery s).travel.state = .stopped := by
    change (readEstop (startConverter s)).travel.state = _ ∨ (readEstop (startConverter s)).travel.state = _
    unfold readEstop
    split
    · exact .inr rfl
    · exact .inl (by simpa using rest)
  have still : (completeRecovery s).travel.state.inMotion = false := by
    obtain e | e := state <;> rw [e] <;> rfl
  have off : (completeRecovery s).governor.state = .idle ∧ (completeRecovery s).governor.feedPermit = false ∧
      (completeRecovery s).travel.travelTimer = .none ∧ (completeRecovery s).travel.runOutTimer = .none ∧
      (completeRecovery s).travel.spoutOver = .none ∧ (completeRecovery s).governor.beltPermit =
        ((completeRecovery s).dust.stage != .trip && !(completeRecovery s).pins.estop) := by
    unfold completeRecovery startClocks setBeltPermit readEstop startConverter
    dsimp only
    (repeat' split) <;> exact ⟨idle, permit, timer, runOut, spout, rfl⟩
  obtain ⟨idle, permit, timer, runOut, spout, belt⟩ := off
  refine ⟨⟨?_, ?_, ?_, ?_, ?_, belt⟩, ⟨by rw [timer]; nofun, by rw [runOut]; nofun, fun hp => ?_, by rw [spout]; nofun⟩,
    ⟨iff_of_true none idle, absurd none, absurd none, absurd none, absurd none⟩, fun _ j hj => ?_,
    fun _ => grainOk_of_rest still, nofun⟩
  · rw [permit, idle]
    exact iff_of_false nofun nofun
  · rw [idle]
    nofun
  · rw [idle]
    nofun
  · rw [idle]
    nofun
  · rw [idle]
    nofun
  · obtain e | e := state <;> rw [e] at hp <;> cases hp
  · rw [none] at hj
    cases hj

/-- The steps of recovery before its end leave the governor, the carriage and the monitor at cold start. -/
theorem recoveredTo_coldLaw (p : RecoveryPoint) {s : State} (h : ColdLaw s) : ColdLaw (recoveredTo p s) := by
  obtain ⟨idle, permit, rest, timer, runOut, spout, dust, pending⟩ := h
  have checked : ColdLaw (checkSettings s) := ⟨by simpa, by simpa, by simpa, by simpa, by simpa, by simpa, by simpa, by simpa⟩
  have held (n : Nat) : ColdLaw (holdForPower (bookFirst n (checkSettings s))) := by
    have booked : ColdLaw (bookFirst n (checkSettings s)) := checked
    unfold holdForPower
    split
    · exact booked
    next st _ =>
      rw [swapTest_of_not_pending (s := raise (.stepHeld st.id .power) (bumpRevision { bookFirst n (checkSettings s) with
        plan := (bookFirst n (checkSettings s)).plan.updateActive Step.heldForPower })) booked.2.2.2.2.2.2.2]
      exact booked
  cases p with
  | begun => exact ⟨idle, permit, rest, timer, runOut, spout, dust, pending⟩
  | checked => exact checked
  | booked last => exact checked
  | held => exact held 17
  | clamped => exact held 17
  | raised => exact held 17

theorem recover_loader {s : State} (h : ColdLaw s) : Loader (recover s).known (recover s) := by
  refine completeRecovery_loader (recoveredTo_coldLaw .raised (s := { s with pins := { s.pins with resetN := false } }) h) ?_
  exact (activeHold_of_plan rfl).trans
    (holdForPower_activeHold (bookLoss (checkSettings { s with pins := { s.pins with resetN := false } })))

/-- A take keeps the laws: the entry handed over starts feed only on the CAB port, where presence is live. -/
theorem takeHead_loader {s : State} (h : Loader s.known s) (lawful : PlanLaw s) (st : Station) (u : Bool)
    (live : st = .cab → s.governor.presenceLive = true) : Loader (takeHead st u s).known (takeHead st u s) := by
  have read : Loader (setCalUnlock u s).known (setCalUnlock u s) := setCalUnlock_loader h u
  have replied {t : State} (ht : Loader t.known t) (e : QueueEntry) (a : Answer) :
      Loader (sendReply st e a t).known (sendReply st e a t) :=
    ht.frame rfl rfl rfl rfl rfl rfl rfl rfl
  obtain e | ⟨e, a, t, e', rfl | rfl | ⟨r, b, allowed, rfl⟩⟩ := takeHead_cases st u s
  · rwa [e]
  · rw [e']
    exact replied read e a
  · rw [e']
    exact replied (raise_loader read _) e a
  · rw [e']
    refine replied (owner_known read lawful (owner_handOver r st b) fun feeding => ?_) e a
    by_cases cab : st = .cab
    · exact .inr (live cab)
    · have quiet : r ≠ .startStep ∧ r ≠ .resume := by
        constructor <;> rintro rfl <;> cases st <;> simp [Request.cls, RequestClass.allowed] at allowed cab
      exact .inl (handOver_feeding (loader_feeds read ⟨trivial, trivial⟩) lawful quiet st b feeding)

/-- A command of a running part keeps the law of the loader. -/
theorem exec_loader {s t : State} {c : Instr} (hr : s.phase = .running) (lawful : PlanLaw s) (h : Loader s.known s)
    (live : startsFeed c ∨ (∃ u, c = .takeRequest .cab u) → s.governor.presenceLive = true) (ht : exec c s = .next t) :
    LoaderLaw t := by
  obtain ⟨st, f, hc⟩ | ⟨p, f, hc⟩ | rfl | rfl | ⟨a, rfl⟩ := command_kinds c
  · have hf := owner_of_request hc
    obtain rfl := Host.Outcome.next.inj ((exec_request_of_running hc hr).symm.trans ht)
    have law := loaderLaw_of_loader ((owner_phase hf).trans hr) (owner_known h lawful hf fun feeding => by
      by_cases starts : startsFeed c
      · exact .inr (live (.inl starts))
      · exact .inl (request_feeding (loader_feeds h ⟨trivial, trivial⟩) lawful hc starts feeding))
    exact law
  · obtain rfl := Host.Outcome.next.inj ((exec_arrival_of_running hc hr).symm.trans ht)
    refine loaderLaw_of_loader ((arrival_phase hc).trans hr) ?_
    by_cases take : ∃ st u, c = .takeRequest st u
    · obtain ⟨st, u, rfl⟩ := take
      cases hc
      exact takeHead_loader h lawful st u fun cab => live (.inr ⟨u, cab ▸ rfl⟩)
    · have request : ∀ st u, c ≠ .takeRequest st u := fun st u e => take ⟨st, u, e⟩
      have kept := arrival_loader h hc request
      exact ⟨⟨kept.gate.permit, kept.gate.stage, kept.gate.belt, kept.gate.estop,
        fun feeding => arrival_presenceLive hc request feeding (kept.gate.presence feeding), kept.gate.beltPermit⟩,
        kept.carriage, kept.pour, kept.spout, kept.grain, kept.swap⟩
  · obtain rfl := Host.Outcome.next.inj ht
    exact coldStart_loaderLaw s
  · obtain rfl := Host.Outcome.next.inj ht
    exact coldStart_loaderLaw s
  · obtain rfl := Host.Outcome.next.inj ht
    rw [if_pos ((isRunning_iff s).2 hr)]
    exact loaderLaw_of_loader hr h

/-- A command of a part held at cold start keeps the law of the loader. -/
theorem exec_cold_loaderLaw {s t : State} {c : Instr} (hp : s.phase = .cold) (h : ColdLaw s) (ht : exec c s = .next t) :
    LoaderLaw t := by
  by_cases on : c = .powerOn
  · subst on
    obtain rfl := Host.Outcome.next.inj ht
    exact coldStart_loaderLaw s
  by_cases reset : c = .resetNAsserted
  · subst reset
    obtain rfl := Host.Outcome.next.inj ht
    exact coldStart_loaderLaw s
  by_cases recovery : ∃ a, c = .coldStartRecovery a
  · obtain ⟨a, rfl⟩ := recovery
    obtain rfl := Host.Outcome.next.inj ht
    rw [if_neg (fun hr => by rw [(isRunning_iff s).1 hr] at hp; cases hp)]
    cases a with
    | none => exact loaderLaw_of_loader rfl (recover_loader h)
    | some p => exact coldStart_loaderLaw _
  · obtain ⟨x, e⟩ := exec_of_cold hp on reset fun a e => recovery ⟨a, e⟩
    obtain rfl := Host.Outcome.next.inj (e.symm.trans ht)
    exact loaderLaw_of_cold hp h

theorem tick_loader {s : State} (hr : s.phase = .running) (h : Loader s.known s) : Loader (tick s).known (tick s) := by
  have isSome (n : Nat) (t : Option Nat) : (advance n t).isSome = t.isSome := by cases t <;> rfl
  rw [tick, if_pos ((isRunning_iff s).2 hr)]
  exact ⟨⟨h.gate.permit, h.gate.stage, h.gate.belt, h.gate.estop, h.gate.presence, h.gate.beltPermit⟩,
    ⟨fun ht => h.carriage.timer (by simpa [isSome] using ht), fun ht => h.carriage.runOut (by simpa [isSome] using ht),
      h.carriage.before, h.carriage.spout⟩,
    ⟨h.pour.idle, h.pour.rest, h.pour.referenced, h.pour.normal, h.pour.settings⟩, h.spout, h.grain, h.swap⟩

theorem step_loaderLaw {s t : State} (lawful : PlanLaw s) (h : LoaderLaw s)
    (live : ∀ c ∈ s.pending.head?, startsFeed c ∨ (∃ u, c = .takeRequest .cab u) → s.governor.presenceLive = true)
    (ht : step s = .next t) : LoaderLaw t := by
  unfold step at ht
  split at ht
  next c rest hq =>
    have hl : LoaderLaw { s with pending := rest } := h
    cases hp : s.phase with
    | cold => exact exec_cold_loaderLaw (s := { s with pending := rest }) hp (hl.2.2.2 hp) ht
    | running => exact exec_loader (s := { s with pending := rest }) hp lawful (loader_of_loaderLaw hp hl) (live c (by rw [hq]; rfl)) ht
  next =>
    obtain rfl := Host.Outcome.next.inj ht
    cases hp : s.phase with
    | cold =>
      rw [tick_of_cold hp]
      exact h
    | running =>
      refine loaderLaw_of_loader ?_ (tick_loader hp (loader_of_loaderLaw hp h))
      simpa using hp

/-! ### The plan law -/

theorem owner_planLaw {s : State} (lawful : PlanLaw s) (still : s.governor.state = .idle → stepActive s = false)
    {f : State → State × Answer} (hf : Owner f) : PlanLaw (f s).1 := by
  obtain e | ⟨_, rfl⟩ | ⟨_, _, rfl⟩ | rfl | ⟨_, _, _, _, _, rfl⟩ | ⟨_, rfl⟩ := owner_plan lawful hf
  · exact e.lawful lawful
  · exact ownStartStep_lawful _ lawful still
  · exact ownOpenCall_lawful _ _ lawful
  · exact ownCloseCall_lawful lawful
  · exact ownInsertStep_lawful _ _ _ _ _ lawful
  · exact ownDeleteStep_lawful _ lawful

theorem recoveredTo_plan (p : RecoveryPoint) {s : State} (lawful : PlanLaw s) : PlanLaw (recoveredTo p s) := by
  have same {t u : State} (h : PlanLaw t) (e : u.plan = t.plan) : PlanLaw u := by
    unfold PlanLaw
    rw [e]
    exact h
  have booked (n : Nat) : PlanLaw (bookFirst n (checkSettings s)) := same lawful (by simp)
  have held : PlanLaw (holdForPower (bookFirst 17 (checkSettings s))) :=
    (holdForPower_plan (.refl (bookFirst 17 (checkSettings s)).plan)).lawful (booked 17)
  cases p with
  | begun => exact lawful
  | checked => exact same lawful (by simp [recoveredTo])
  | booked last => exact booked _
  | held => exact held
  | clamped => exact held
  | raised => exact held

theorem planLaw_kept : Kept (fun s => PlanLaw s ∧ LoaderLaw s) PlanLaw where
  base _ h := h.1
  queue _ _ h := h
  answer _ _ h := h
  tick s h := by
    rw [PlanLaw, show (tick s).plan = s.plan by simp]
    exact h.1
  owner s f hf hr h := owner_planLaw h.1 ((h.2.2.2.1 hr).1.2) hf
  pins s c p f hc h := by
    obtain ⟨x, e⟩ := pins_only hc s
    rw [e]
    exact h.1
  arrival s c p f hc hr h := by
    cases hc with
    | takeRequest st u =>
      refine takeHead_keeps (pre := fun s => PlanLaw s ∧ LoaderLaw s) (fun _ h => h.1) (fun _ _ h => h)
        (fun _ _ _ h => h) (fun _ _ _ h => h) (fun s f hf hr h => ?_) hr h
      exact owner_planLaw h.1 ((h.2.2.2.1 hr).1.2) hf
    | frameComplete st chars =>
      exact takeCharacters_keeps (law := PlanLaw) (fun t b h => by
        rw [PlanLaw, show (takeCharacter st t b).plan = t.plan by simp]
        exact h) chars h.1
    | tachPulse => exact (countPulse_plan (.refl s.plan)).lawful h.1
    | encoderCount d => exact (countEncoder_plan (.refl s.plan) d).lawful h.1
    | _ => exact (PlanFollows.of_eq (.refl s.plan) (by simp)).lawful h.1
  cold _ h := h.1
  reset _ h := h.1
  recover s hp h := by
    have held := recoveredTo_plan .raised (s := { s with pins := { s.pins with resetN := false } }) h.1
    have same (u : State) : (completeRecovery u).plan = u.plan := by simp
    rw [PlanLaw, recover, same]
    exact held
  abandon s p hp h := recoveredTo_plan p h.1

/-- Settles O55: each block's law in a running part, and cold start's in a part held there. -/
theorem planAndLoaderLawsAreKept : Obligations.PlanAndLoaderLawsAreKept := by
  intro s t lawful h live ht
  refine ⟨planLaw_kept.step ⟨lawful, h⟩ ht, step_loaderLaw lawful h (fun c hc starts => ?_) ht⟩
  refine live c hc ?_
  obtain (start | resume) | take := starts
  · exact .inl start
  · exact .inr (.inl resume)
  · exact .inr (.inr take)

end Sys2Proof.Machine

end

section
/-! The law of the page swap (R63): no swap stays pending whose three conditions hold together. It is part of what the laws
of the loader's blocks say between commands. -/

namespace Sys2Proof.Machine

open Sys2Proof

/-- Everything but presence. -/
def Known.settled : Known := { presence := True, spout := True, grain := True, swap := True }

theorem swapOk_iff (s : State) : SwapOk s ↔ (s.travel.swapPending = true → swapReady s = false) := by
  unfold SwapOk swapReady
  simp only [activeHold_eq_none, Bool.and_eq_false_imp, Bool.and_eq_true, Bool.not_eq_true', beq_eq_false_iff_ne]
  exact ⟨fun h p ⟨a, b⟩ => h p a b, fun h p a b => h p ⟨a, b⟩⟩

/-- What a running part's laws say with the law of the swap. -/
theorem loader_settled {s : State} (hr : s.phase = .running) (loader : LoaderLaw s) (h : SwapLaw s) :
    Loader Known.settled s := by
  have known := loader_of_loaderLaw hr loader
  exact ⟨⟨known.gate.permit, known.gate.stage, known.gate.belt, known.gate.estop, fun _ => trivial, known.gate.beltPermit⟩,
    known.carriage, known.pour, known.spout, known.grain, fun _ => (swapOk_iff s).2 h.1⟩

theorem swapLaw_of_loader {s : State} (hr : s.phase = .running) (h : Loader Known.settled s) : SwapLaw s :=
  ⟨(swapOk_iff s).1 (h.swap trivial), fun hc => absurd (hr.symm.trans hc) (by decide)⟩

theorem swapLaw_of_not_pending {s : State} (h : s.travel.swapPending = false) : SwapLaw s :=
  ⟨by rw [h]; nofun, fun _ => h⟩

theorem swapLaw_kept : Kept (fun s => PlanLaw s ∧ LoaderLaw s ∧ SwapLaw s) SwapLaw where
  base _ h := h.2.2
  queue _ _ h := h
  answer _ _ h := h
  tick s := fun ⟨_, _, h⟩ => by
    unfold tick
    split <;> exact h
  owner s f hf hr := fun ⟨lawful, loader, h⟩ =>
    swapLaw_of_loader ((owner_phase hf).trans hr) (owner_loader (loader_settled hr loader h) lawful trivial hf)
  pins s c p f hc := fun ⟨_, _, h⟩ => by
    obtain ⟨x, e⟩ := pins_only hc s
    rw [e]
    exact h
  arrival s c p f hc hr := fun ⟨lawful, loader, h⟩ => by
    refine swapLaw_of_loader ((arrival_phase hc).trans hr) ?_
    have settled := loader_settled hr loader h
    by_cases take : ∃ st u, c = .takeRequest st u
    · obtain ⟨st, u, rfl⟩ := take
      cases hc
      exact takeHead_keeps (pre := fun s => PlanLaw s ∧ Loader Known.settled s) (law := Loader Known.settled)
        (fun _ h => h.2) (fun _ u h => ⟨h.1, setCalUnlock_loader h.2 u⟩) (fun _ _ _ h => raise_loader h _)
        (fun _ _ _ h => h.frame rfl rfl rfl rfl rfl rfl rfl rfl)
        (fun _ _ hf _ h => owner_loader h.2 h.1 trivial hf) hr ⟨lawful, settled⟩
    · exact arrival_loader settled hc fun st u e => take ⟨st, u, e⟩
  cold s _ := swapLaw_of_not_pending rfl
  reset s _ := swapLaw_of_not_pending rfl
  recover s hp := fun ⟨_, loader, _⟩ => by
    have cold := recoveredTo_coldLaw .raised (s := { s with pins := { s.pins with resetN := false } }) (loader.2.2.2 hp)
    refine swapLaw_of_not_pending ?_
    have same (u : State) : (completeRecovery u).travel.swapPending = u.travel.swapPending := by
      change (readEstop (startConverter u)).travel.swapPending = _
      unfold readEstop
      split <;> simp
    rw [recover, same]
    exact cold.2.2.2.2.2.2.2
  abandon s p _ _ := swapLaw_of_not_pending rfl

/-- Settles O57. -/
theorem swapLawIsKept : Obligations.SwapLawIsKept :=
  fun _ _ lawful loader h ht => swapLaw_kept.step ⟨lawful, loader, h⟩ ht

end Sys2Proof.Machine

end

section
/-! The law of the feed level (R110, R115, R116): what each operation of the governor, and each change of the ceiling's
terms, makes of the commanded level. -/

namespace Sys2Proof.Machine

open Sys2Proof

/-! ### The law, and what it looks at -/

/-- The level as it stands before the ceiling is recomputed: 0 with feed off, and its duty the one staged. -/
structure Staged (g : Governor) : Prop where
  off : g.state.feeding = false → g.level = 0
  duty : g.dutyStaged = (g.level * 255 + 50) / 100

theorem Staged.of_shut {g : Governor} (level : g.level = 0) (duty : g.dutyStaged = 0) : Staged g :=
  ⟨fun _ => level, by rw [duty, level]⟩

theorem LevelLaw.staged {s : State} (h : LevelLaw s) : Staged s.governor := ⟨h.1, h.2.2.2⟩

/-- Outside the feeding states the ceiling does not matter. -/
theorem levelLaw_of_still {s : State} (h : Staged s.governor) (still : s.governor.state.feeding = false) : LevelLaw s := by
  refine ⟨h.off, fun hf => ?_, fun hr => ?_, h.duty⟩
  · rw [still] at hf
    cases hf
  · rw [hr] at still
    cases still

/-- The governors of `s` and `t` agree in what the law looks at. -/
structure Governor.SameLevel (g g' : Governor) : Prop where
  state : g'.state = g.state
  level : g'.level = g.level
  ceiling : g'.ceiling = g.ceiling
  duty : g'.dutyStaged = g.dutyStaged

theorem LevelLaw.congr {s t : State} (h : LevelLaw s) (same : s.governor.SameLevel t.governor)
    (terms : s.governor.state.feeding = true → ceilingNow t = ceilingNow s) : LevelLaw t := by
  obtain ⟨off, under, running, duty⟩ := h
  obtain ⟨state, level, ceiling, staged⟩ := same
  refine ⟨?_, fun hf => ?_, ?_, ?_⟩
  · rw [state, level]
    exact off
  · rw [state] at hf
    rw [level, ceiling, terms hf]
    exact under hf
  · rw [state, level, ceiling]
    exact running
  · rw [staged, level]
    exact duty

/-- The terms of the ceiling stand (R115). -/
theorem LevelLaw.terms {s t : State} (h : LevelLaw s) (same : s.governor.SameLevel t.governor)
    (requested : t.governor.requested = s.governor.requested) (maximum : activeMaximum t = activeMaximum s)
    (stage : t.dust.stage = s.dust.stage) (warn : t.store.settings.warnFeedLevel = s.store.settings.warnFeedLevel)
    (dribble : t.store.settings.dribbleLevel = s.store.settings.dribbleLevel) : LevelLaw t := by
  refine h.congr same fun _ => ?_
  unfold ceilingNow
  simp only [maximum, requested, stage, warn, dribble, same.state]

theorem LevelLaw.same {s t : State} (h : LevelLaw s) (same : s.governor.SameLevel t.governor)
    (requested : t.governor.requested = s.governor.requested) (maximum : activeMaximum t = activeMaximum s)
    (stage : t.dust.stage = s.dust.stage) (settings : t.store.settings = s.store.settings) : LevelLaw t :=
  h.terms same requested maximum stage (by rw [settings]) (by rw [settings])

theorem LevelLaw.frame {s t : State} (h : LevelLaw s) (governor : t.governor = s.governor) (plan : t.plan = s.plan)
    (stage : t.dust.stage = s.dust.stage) (settings : t.store.settings = s.store.settings) : LevelLaw t :=
  h.same (by rw [governor]; exact ⟨rfl, rfl, rfl, rfl⟩) (by rw [governor]) (activeMaximum_congr plan) stage settings

/-- A recomputed ceiling brings the level under it (R115). -/
theorem recomputeCeiling_level {s : State} (h : Staged s.governor) : LevelLaw (recomputeCeiling s) := by
  have ceiling : ceilingNow { s with governor := s.governor.under (ceilingNow s) } = ceilingNow s :=
    ceilingNow_congr rfl rfl rfl rfl (under_dribble _ _)
  have feeding : (s.governor.under (ceilingNow s)).state.feeding = s.governor.state.feeding := by
    by_cases hr : s.governor.state = .running ∧ s.governor.level < ceilingNow s
    · simp [hr, GovernorState.feeding]
    · simp [hr]
  rw [recomputeCeiling_under]
  refine ⟨fun hf => ?_, fun _ => ⟨Nat.min_le_right _ _, ceiling.symm⟩, fun hr => ?_, ?_⟩
  · change min s.governor.level (ceilingNow s) = 0
    rw [h.off (feeding ▸ hf), Nat.zero_min]
  · change min s.governor.level (ceilingNow s) = ceilingNow s
    refine Nat.min_eq_right (Nat.le_of_not_lt fun low => ?_)
    change (if s.governor.state = .running ∧ s.governor.level < ceilingNow s then GovernorState.ramping
      else s.governor.state) = .running at hr
    split at hr
    · cases hr
    next no => exact no ⟨hr, low⟩
  · change (if ceilingNow s < s.governor.level then (ceilingNow s * 255 + 50) / 100 else s.governor.dutyStaged) =
      (min s.governor.level (ceilingNow s) * 255 + 50) / 100
    split
    next high => rw [Nat.min_eq_right (Nat.le_of_lt high)]
    next low => rw [Nat.min_eq_left (Nat.le_of_not_lt low), h.duty]

/-! ### The maximum level of the ACTIVE step -/

theorem activeMaximum_eq (s : State) : activeMaximum s = (firstActive Step.maxLevel s.plan.steps).join := by
  unfold activeMaximum firstActive activeStep
  cases s.plan.steps.find? Step.isActive <;> rfl

theorem activeMaximum_of_steps {s t : State}
    (h : firstActive Step.maxLevel t.plan.steps = firstActive Step.maxLevel s.plan.steps) :
    activeMaximum t = activeMaximum s := by
  rw [activeMaximum_eq, activeMaximum_eq, h]

/-- A change of the ACTIVE step's record that keeps its state and its maximum. -/
theorem LevelLaw.plan {s t : State} (h : LevelLaw s)
    (steps : firstActive Step.maxLevel t.plan.steps = firstActive Step.maxLevel s.plan.steps)
    (same : s.governor.SameLevel t.governor) (requested : t.governor.requested = s.governor.requested)
    (stage : t.dust.stage = s.dust.stage) (settings : t.store.settings = s.store.settings) : LevelLaw t :=
  h.same same requested (activeMaximum_of_steps steps) stage settings

/-! ### The governor's operations -/

/-- An adapted preact is all that the governor changes before it completes a step (R121). -/
theorem adaptPreact_governor (s : State) : (adaptPreact s).governor =
    { s.governor with preact := (adaptPreact s).governor.preact } := by
  unfold adaptPreact
  split
  · split <;> rfl
  · rfl

theorem complete_governor (s : State) : (complete s).governor =
    { s.governor with preact := (adaptPreact s).governor.preact, effective := none, state := .idle } := by
  unfold complete
  dsimp only
  rw [(completeStep_frame (adaptPreact s)).2.2.2.2.2.2.1, adaptPreact_governor]

theorem complete_level {s : State} (h : Staged s.governor) (shut : s.governor.state.feeding = false) :
    LevelLaw (complete s) := by
  refine levelLaw_of_still ?_ (by rw [complete_governor]; rfl)
  rw [complete_governor]
  exact ⟨fun _ => h.off shut, h.duty⟩

/-- A cutoff leaves the level at 0, whatever it was (R118). -/
theorem cutoff_level (r : CutoffReason) (s : State) : LevelLaw (cutoff r s) := by
  have staged : Staged (recordedCutoff r s).governor := by
    rw [recordedCutoff_governor, enterCutoff_eq]
    exact (.of_shut rfl rfl)
  have shut : (recordedCutoff r s).governor.state.feeding = false := by rw [recordedCutoff_state]; rfl
  rw [cutoff_eq]
  split
  · exact complete_level staged shut
  · exact levelLaw_of_still staged shut

theorem pauseCause_staged (r : PauseReason) {s : State} (h : Staged s.governor) : Staged (pauseCause r s).governor := by
  by_cases hf : s.governor.state.feeding = true
  · rw [pauseCause_feeding r s hf]
    exact (.of_shut rfl rfl)
  · cases hs : s.governor.state with
    | idle => rwa [pauseCause_idle r s hs]
    | cutoff =>
      rw [pauseCause_cutoff r s hs]
      exact ⟨h.off, h.duty⟩
    | paused =>
      rw [pauseCause_paused r s hs]
      split
      · exact h
      · exact ⟨h.off, h.duty⟩
    | _ => exact absurd (by rw [hs]; rfl) hf

theorem pauseCause_level (r : PauseReason) {s : State} (h : Staged s.governor) : LevelLaw (pauseCause r s) :=
  levelLaw_of_still (pauseCause_staged r h) (pauseCause_eases r s).2

theorem openGate_level (g : GovernorState) (s : State) : LevelLaw (openGate g s) :=
  recomputeCeiling_level (.of_shut rfl rfl)

theorem enterDribble_level {s : State} (h : Staged s.governor) : LevelLaw (enterDribble s) :=
  recomputeCeiling_level ⟨nofun, h.duty⟩

/-- Every stage notice recomputes the ceiling (R122). -/
theorem stageNotice_level {s : State} (h : Staged s.governor) : LevelLaw (stageNotice s) := by
  have paused : Staged (if s.dust.stage = .high ∨ s.dust.stage = .trip then pauseCause .dust s else s).governor := by
    split
    · exact pauseCause_staged _ h
    · exact h
  exact (recomputeCeiling_level paused).same ⟨rfl, rfl, rfl, rfl⟩ rfl rfl rfl rfl

theorem recordCutoff_level (r : CutoffReason) {s : State} (h : LevelLaw s) : LevelLaw (recordCutoff r s) :=
  h.plan (updateActive_firstActive s.plan fun _ hx => ⟨hx, rfl⟩) ⟨rfl, rfl, rfl, rfl⟩ rfl rfl rfl

theorem recomputeEffective_staged {s : State} (h : Staged s.governor) : Staged (recomputeEffective s).governor := by
  unfold recomputeEffective
  split
  · exact h
  · exact ⟨h.off, h.duty⟩

theorem recomputeEffective_level {s : State} (h : LevelLaw s) : LevelLaw (recomputeEffective s) := by
  unfold recomputeEffective
  split
  · exact h
  · exact h.plan (updateActive_firstActive s.plan fun _ hx => ⟨hx, rfl⟩) ⟨rfl, rfl, rfl, rfl⟩ rfl rfl rfl

/-- The notice of a changed plan recomputes the ceiling first (R128). -/
theorem reEvaluate_level {s : State} (h : Staged s.governor) : LevelLaw (reEvaluate s) := by
  have computed := recomputeCeiling_level (recomputeEffective_staged h)
  have idle : (recomputeCeiling (recomputeEffective s)).governor.state = .idle → s.governor.state = .idle := by
    intro hi
    rw [recomputeCeiling_under] at hi
    exact (recomputeEffective_state s) ▸ (Governor.under_eases _ _).idle.1 hi
  unfold reEvaluate
  dsimp only
  generalize recomputeCeiling (recomputeEffective s) = s1 at computed idle ⊢
  cases hs : s1.governor.state with
  | idle => exact levelLaw_of_still h (by rw [idle hs]; rfl)
  | cutoff =>
    dsimp only
    split
    · exact recordCutoff_level _ computed
    · exact computed
  | paused =>
    dsimp only
    split
    · exact cutoff_level _ _
    · exact computed
  | dribble =>
    dsimp only
    split
    · exact cutoff_level _ _
    split
    · exact computed
    · exact recomputeCeiling_level ⟨nofun, computed.staged.duty⟩
  | ramping | running =>
    dsimp only
    split
    · exact cutoff_level _ _
    split
    · exact enterDribble_level computed.staged
    · exact computed

section
variable {s : State} (h : LevelLaw s)
include h

theorem bookSegment_level (entering : Nat) (w : Weighing) (leaving : Nat) (dest : Destination) :
    LevelLaw (bookSegment entering w leaving dest s) := by
  refine h.plan ?_ ⟨rfl, rfl, rfl, rfl⟩ rfl rfl rfl
  by_cases placed : toActiveHold dest s = true
  · rw [bookSegment, if_pos placed]
    exact updateActive_firstActive s.plan fun _ hx => ⟨hx, rfl⟩
  · rw [bookSegment, if_neg placed]

theorem feedTests_level : LevelLaw (feedTests s) := by
  unfold feedTests
  split
  · exact cutoff_level _ _
  split
  · exact enterDribble_level h.staged
  · exact h

theorem segmentClosedNotice_level (entering : Nat) (w : Weighing) (leaving : Nat) (dest : Destination) :
    LevelLaw (segmentClosedNotice entering w leaving dest s) := by
  have booked := bookSegment_level h entering w leaving dest
  have state : (bookSegment entering w leaving dest s).governor.state = s.governor.state := rfl
  unfold segmentClosedNotice
  cases hs : s.governor.state with
  | idle => exact h
  | paused => exact booked
  | cutoff =>
    dsimp only
    split
    · exact complete_level booked.staged (by rw [state, hs]; rfl)
    · exact booked
  | ramping | running | dribble => exact feedTests_level booked

theorem scaleFaultNotice_level : LevelLaw (scaleFaultNotice s) := by
  unfold scaleFaultNotice
  cases hs : s.governor.state with
  | idle => exact h
  | cutoff => exact (recomputeEffective_level h).same ⟨rfl, rfl, rfl, rfl⟩ rfl rfl rfl rfl
  | _ => exact cutoff_level _ _

theorem positionLost_level : LevelLaw (positionLost s) := by
  unfold positionLost
  cases hs : s.governor.state with
  | idle => exact h
  | cutoff => exact h
  | _ => exact cutoff_level _ _

theorem cancelNotice_level : LevelLaw (cancelNotice s) := by
  unfold cancelNotice
  cases hs : s.governor.state with
  | idle => exact h
  | cutoff => exact h
  | _ => exact cutoff_level _ _

theorem presenceExpiry_level : LevelLaw (presenceExpiry s) := by
  unfold presenceExpiry
  split
  · dsimp only
    split
    · exact pauseCause_level _ ⟨h.staged.off, h.staged.duty⟩
    · exact h.same ⟨rfl, rfl, rfl, rfl⟩ rfl rfl rfl rfl
  · exact h

/-- A ramp step: the level rises within the ceiling, and RAMPING at the ceiling becomes RUNNING (R116). -/
theorem rampLevel_level : LevelLaw (rampLevel s) := by
  have within : rampedLevel s ≤ s.governor.ceiling := Nat.min_le_right _ _
  unfold rampLevel
  cases hs : s.governor.state with
  | ramping =>
    have ceiling := (h.2.1 (by rw [hs]; rfl)).2
    dsimp only
    split
    next reached =>
      refine ⟨nofun, fun _ => ⟨within, ?_⟩, fun _ => reached, rfl⟩
      refine ceiling.trans (ceilingNow_congr (t := s) rfl rfl rfl rfl ?_)
      rw [hs]
      exact iff_of_false nofun nofun
    next =>
      refine ⟨fun hf => ?_, fun _ => ⟨within, ceiling⟩, fun hr => ?_, rfl⟩
      · rw [show (setLevel (rampedLevel s) s).governor.state = .ramping from hs] at hf
        cases hf
      · rw [show (setLevel (rampedLevel s) s).governor.state = .ramping from hs] at hr
        cases hr
  | dribble =>
    have ceiling := (h.2.1 (by rw [hs]; rfl)).2
    refine ⟨fun hf => ?_, fun _ => ⟨within, ceiling⟩, fun hr => ?_, rfl⟩
    · rw [show (setLevel (rampedLevel s) s).governor.state = .dribble from hs] at hf
      cases hf
    · rw [show (setLevel (rampedLevel s) s).governor.state = .dribble from hs] at hr
      cases hr
  | _ => exact h

/-! ### The other blocks -/

theorem recomputeStage_level {t : State} (governor : t.governor = s.governor) (plan : t.plan = s.plan)
    (stage : t.dust.stage = s.dust.stage) (warn : t.store.settings.warnFeedLevel = s.store.settings.warnFeedLevel)
    (dribble : t.store.settings.dribbleLevel = s.store.settings.dribbleLevel) : LevelLaw (recomputeStage t) := by
  by_cases changed : (t.dust.recompute t.store.settings.mask).stage = t.dust.stage
  · rw [recomputeStage_of_same changed]
    exact h.terms (governor ▸ ⟨rfl, rfl, rfl, rfl⟩) (by rw [← governor]) (activeMaximum_congr plan) (changed.trans stage)
      warn dribble
  · rw [recomputeStage_of_changed changed]
    have staged : Staged t.governor := governor ▸ h.staged
    exact (stageNotice_level (s := { t with dust := t.dust.recompute t.store.settings.mask }) staged).frame rfl rfl rfl rfl

theorem weighSegment_level : LevelLaw (weighSegment s).state := by
  unfold weighSegment
  dsimp only
  split
  · exact h.frame rfl rfl rfl rfl
  split
  · split
    · exact h.frame rfl rfl rfl rfl
    · exact (scaleFaultNotice_level (h.frame (t := raise .scaleFault { s with
        weigher := { s.weigher with scale := .scaleFault } }) rfl rfl rfl rfl)).frame rfl rfl rfl rfl
  · exact h.frame rfl rfl rfl rfl

theorem travelSegmentClosed_level : LevelLaw (travelSegmentClosed s) := h.frame (by simp) (by simp) (by simp) (by simp)

theorem closeSegment_level : LevelLaw (closeSegment s) := by
  have moved := (weighSegment_level h).frame
    (t := restartSegment (moveLine (weighSegment s).mass (weighSegment s).how (weighSegment s).state)) (by simp) (by simp)
    (by simp) (by simp)
  exact travelSegmentClosed_level (segmentClosedNotice_level moved _ _ _ _)

theorem countPulse_level : LevelLaw (countPulse s) := by
  have counted : LevelLaw { s with weigher := { s.weigher with pulseCount := s.weigher.pulseCount + 1 } } :=
    h.frame rfl rfl rfl rfl
  unfold countPulse
  dsimp only
  split
  · exact closeSegment_level counted
  · exact counted

theorem countEncoder_level (d : Direction) : LevelLaw (countEncoder d s) := by
  unfold countEncoder
  extract_lets _ counted noticed
  have known : LevelLaw noticed := by
    have moved : LevelLaw counted := h.frame rfl rfl rfl rfl
    unfold noticed
    split
    · exact positionLost_level moved
    · exact moved
  split
  · exact known.frame (by simp) (by simp) (by simp) (by simp)
  · exact known

theorem highHoldExpires_level : LevelLaw (highHoldExpires s) := by
  unfold highHoldExpires
  split
  · exact recomputeStage_level h rfl rfl rfl rfl rfl
  · exact h

theorem referenceTimerExpires_level : LevelLaw (referenceTimerExpires s) := by
  unfold referenceTimerExpires
  split
  · exact recomputeStage_level h rfl rfl rfl rfl rfl
  · exact h

theorem takeDGroup_level : LevelLaw (takeDGroup s) := by
  unfold takeDGroup
  split
  next g q rest _ =>
    have taken : LevelLaw { s with converter := { s.converter with toMonitor := rest } } := h.frame rfl rfl rfl rfl
    generalize { s with converter := { s.converter with toMonitor := rest } } = t at taken ⊢
    have grouped (l : List (ChannelNo × Code)) : LevelLaw (recomputeStage (takeCodes l t)) :=
      recomputeStage_level taken (by rw [takeCodes_eq]) (by rw [takeCodes_eq]) (by rw [takeCodes_dust])
        (by rw [takeCodes_eq]) (by rw [takeCodes_eq])
    cases g with
    | d1 =>
      rw [dustGroup_eq (.inl rfl)]
      exact grouped _
    | d2 =>
      rw [dustGroup_eq (.inr rfl)]
      exact grouped _
    | w => exact taken
  · exact h

/-! ### The requests -/

theorem ownStartStep_level (revision : Nat) : LevelLaw (ownStartStep revision s).1 := by
  unfold ownStartStep
  split
  · exact h
  next passed =>
    have idle : s.governor.state = .idle := by
      simpa using forall_of_firstOf_none passed (s.governor.state != .idle, answerOnly .busy) (by simp)
    split
    · exact h
    split
    · exact h
    · unfold judgedStart
      dsimp only
      split
      · exact openGate_level _ _
      · exact h
      · exact levelLaw_of_still h.staged (by rw [heldAtStart_eq, idle]; rfl)

theorem ownResume_level : LevelLaw (ownResume s).1 := by
  unfold ownResume
  split
  · exact h
  · unfold resumeFeed
    dsimp only
    split
    · exact recomputeCeiling_level (cutoff_level _ _).staged
    split <;> exact openGate_level _ _

theorem ownStopStep_level : LevelLaw (ownStopStep s).1 := by
  unfold ownStopStep
  split
  · exact h
  cases hs : s.governor.state with
  | idle => exact h
  | cutoff => exact h
  | _ => exact cutoff_level _ _

theorem ownSetFeedLevel_level (level : Nat) : LevelLaw (ownSetFeedLevel level s).1 := by
  unfold ownSetFeedLevel
  split
  · exact recomputeCeiling_level ⟨h.staged.off, h.staged.duty⟩
  · exact h

theorem ownAcknowledgeTrip_level : LevelLaw (ownAcknowledgeTrip s).1 := by
  rw [ownAcknowledgeTrip_eq]
  split
  · exact h
  split
  · exact h
  split
  · exact h
  split
  · exact recomputeStage_level h rfl rfl rfl rfl rfl
  · exact h

theorem ownClearStop_level : LevelLaw (ownClearStop s).1 := by
  have released : LevelLaw { s with governor := { s.governor with
      estopLatch := false, pauseSet := { s.governor.pauseSet with estop := false } } } :=
    h.same ⟨rfl, rfl, rfl, rfl⟩ rfl rfl rfl rfl
  unfold ownClearStop
  split
  · exact h
  · exact released.frame (by simp) (by simp) (by simp) (by simp)

theorem travelStop_level : LevelLaw (travelStop s) := h.frame (by simp) (by simp) (by simp) (by simp)

theorem ownHoldPour_level : LevelLaw (ownHoldPour s).1 := by
  unfold ownHoldPour
  split
  · exact h
  · exact pauseCause_level _ ⟨h.staged.off, h.staged.duty⟩

theorem ownOpenCall_level (id : Nat) (band : Option Nat) : LevelLaw (ownOpenCall id band s).1 := by
  unfold ownOpenCall
  split
  · exact h
  split
  · exact h
  · exact h.plan rfl ⟨rfl, rfl, rfl, rfl⟩ rfl rfl rfl

theorem ownCloseCall_level : LevelLaw (ownCloseCall s).1 := by
  unfold ownCloseCall
  split
  · exact h
  next passed =>
    have none : firstActive Step.maxLevel s.plan.steps = none := by
      have quiet := forall_of_firstOf_none passed (planBusy s.plan, answerOnly .busy) (by simp)
      refine firstActive_eq_none fun x hx => ?_
      simp only [planBusy, List.any_eq_false, Bool.or_eq_true, not_or] at quiet
      simpa [Step.isActive] using (quiet x hx).1
    exact h.plan none.symm ⟨rfl, rfl, rfl, rfl⟩ rfl rfl rfl

theorem ownInsertStep_level (position hold slot target maxLevel : Nat) :
    LevelLaw (ownInsertStep position hold slot target maxLevel s).1 := by
  unfold ownInsertStep
  split
  · exact h.plan ((firstActive_insert rfl).trans (by rw [List.take_append_drop])) ⟨rfl, rfl, rfl, rfl⟩ rfl rfl rfl
  · exact h
  · exact h

theorem ownModifyStep_level (lawful : PlanLaw s) (id target level : Nat) : LevelLaw (ownModifyStep id target level s).1 := by
  unfold ownModifyStep
  split
  · exact h
  split
  · exact h
  split
  · exact h
  next st found =>
    split
    · unfold modifyPlan
      extract_lets s1 s2
      have governor : s2.governor = s.governor := by
        unfold s2
        split <;> rfl
      have steps : s2.plan.steps = (s.plan.updateId st.id (fun x => x.modify target level)).steps := by
        unfold s2
        split <;> rfl
      have rest : s2.dust = s.dust ∧ s2.store = s.store := by
        unfold s2
        split <;> exact ⟨rfl, rfl⟩
      change LevelLaw (if st.state = .active then reEvaluate s2 else s2)
      split
      · exact reEvaluate_level (governor ▸ h.staged)
      next waits =>
        have notActive : ¬ st.isActive = true := fun ha => waits ((st.isActive_iff).1 ha)
        refine h.plan ?_ (governor ▸ ⟨rfl, rfl, rfl, rfl⟩) (by rw [governor]) (by rw [rest.1]) (by rw [rest.2])
        rw [steps]
        exact updateId_firstActive lawful.ids (stepOf_some found).1 rfl fun ha => absurd ha notActive
    · exact h

theorem ownDeleteStep_level (lawful : PlanLaw s) (id : Nat) : LevelLaw (ownDeleteStep id s).1 := by
  unfold ownDeleteStep
  split
  · exact h
  split
  · exact h
  next st found =>
    obtain ⟨mem, rfl⟩ := stepOf_some found
    split
    next waits =>
      refine h.plan (firstActive_filter fun x hx ha => ?_) ⟨rfl, rfl, rfl, rfl⟩ rfl rfl rfl
      refine bne_iff_ne.2 fun same => ?_
      obtain rfl := eq_of_id_eq lawful.ids hx mem same
      rw [(x.isActive_iff).1 ha] at waits
      cases waits
    · exact h

theorem ownCancelStep_level (lawful : PlanLaw s) (id : Nat) : LevelLaw (ownCancelStep id s).1 := by
  unfold ownCancelStep
  split
  · exact h
  split
  · exact h
  next st found =>
    obtain ⟨mem, rfl⟩ := stepOf_some found
    split
    · exact h
    · exact h
    · change LevelLaw (cancelActive st s)
      unfold cancelActive
      split
      · exact h
      · exact cancelNotice_level (recordCutoff_level _ h)
    next notActive =>
      have waits : st.isActive = false := by simpa [Step.isActive] using notActive
      exact h.plan (updateId_firstActive lawful.ids mem (waits.symm ▸ rfl) fun _ => rfl) ⟨rfl, rfl, rfl, rfl⟩ rfl rfl rfl

theorem ownCloseStepShort_level (lawful : PlanLaw s) (id : Nat) : LevelLaw (ownCloseStepShort id s).1 := by
  unfold ownCloseStepShort
  split
  · exact h
  split
  · exact h
  next st found =>
    obtain ⟨mem, rfl⟩ := stepOf_some found
    split
    next held =>
      exact h.plan (updateId_firstActive lawful.ids mem (by simp [Step.isActive, held]) fun _ => rfl) ⟨rfl, rfl, rfl, rfl⟩ rfl
        rfl rfl
    · exact h

theorem ownReleaseHold_level (lawful : PlanLaw s) (id : Nat) : LevelLaw (ownReleaseHold id s).1 := by
  unfold ownReleaseHold
  split
  · exact h
  split
  · exact h
  next st found =>
    obtain ⟨mem, rfl⟩ := stepOf_some found
    split
    · split
      · exact h.plan (updateId_firstActive lawful.ids mem rfl fun _ => rfl) ⟨rfl, rfl, rfl, rfl⟩ rfl rfl rfl
      · exact h
    · exact h

theorem ownSetTrimBand_level (band : Nat) : LevelLaw (ownSetTrimBand band s).1 := by
  have banded : LevelLaw (bumpRevision { s with plan := { s.plan with trimBand := band } }) :=
    h.plan rfl ⟨rfl, rfl, rfl, rfl⟩ rfl rfl rfl
  unfold ownSetTrimBand
  split
  · exact h
  split
  · exact h
  split
  · exact h
  · dsimp only
    split
    · exact reEvaluate_level banded.staged
    · exact banded

/-! ### The settings -/

omit h in
/-- A setting other than the two levels leaves the terms of the ceiling. -/
theorem writeRecord_levels (x : Settings) (v : Nat) {key : SettingKey} (warn : key ≠ .warnFeedLevel)
    (dribble : key ≠ .dribbleLevel) : (writeRecord x v key).warnFeedLevel = x.warnFeedLevel ∧
    (writeRecord x v key).dribbleLevel = x.dribbleLevel := by
  cases key with
  | warnFeedLevel => exact absurd rfl warn
  | dribbleLevel => exact absurd rfl dribble
  | channel c field => cases field <;> exact ⟨rfl, rfl⟩
  | _ => exact ⟨rfl, rfl⟩

theorem storeSetting_staged (v : Nat) (key : SettingKey) : Staged (storeSetting key v s).governor := by
  unfold storeSetting
  split <;> exact ⟨h.staged.off, h.staged.duty⟩

theorem storeSetting_level (v : Nat) {key : SettingKey} (warn : key ≠ .warnFeedLevel) (dribble : key ≠ .dribbleLevel) :
    LevelLaw (storeSetting key v s) := by
  obtain ⟨warns, dribbles⟩ := writeRecord_levels s.store.settings v warn dribble
  unfold storeSetting
  split
  · exact h.same ⟨rfl, rfl, rfl, rfl⟩ rfl rfl rfl rfl
  · exact h.terms ⟨rfl, rfl, rfl, rfl⟩ rfl rfl rfl warns dribbles

theorem maskChanged_level (was now : BitVec 8) : LevelLaw (maskChanged was now s) := by
  unfold maskChanged
  split
  · exact h
  · have applied (l : List ChannelNo) (t : State) :
        (l.foldl (fun s c => applyMaskTo was now c s) t).governor = t.governor ∧
        (l.foldl (fun s c => applyMaskTo was now c s) t).plan = t.plan ∧
        (l.foldl (fun s c => applyMaskTo was now c s) t).dust.stage = t.dust.stage ∧
        (l.foldl (fun s c => applyMaskTo was now c s) t).store = t.store := by
      induction l generalizing t with
      | nil => exact ⟨rfl, rfl, rfl, rfl⟩
      | cons c l ih =>
        obtain ⟨governor, plan, stage, store⟩ := ih (applyMaskTo was now c t)
        rw [List.foldl_cons, governor, plan, stage, store]
        unfold applyMaskTo
        split <;> exact ⟨rfl, rfl, rfl, rfl⟩
    obtain ⟨governor, plan, stage, store⟩ := applied allChannels { s with converter := s.converter.maskRestart }
    exact recomputeStage_level h governor plan stage (by rw [store]) (by rw [store])

theorem applySetting_level (was : BitVec 8) (v : Nat) (key : SettingKey) : LevelLaw (applySetting was v s key) := by
  cases key with
  | mask => exact maskChanged_level h _ _
  | channel c field => cases field <;> exact h.frame rfl rfl rfl rfl
  | highHoldTime =>
    dsimp only [applySetting]
    split
    · exact highHoldExpires_level h
    · exact h
  | presenceWindow =>
    dsimp only [applySetting]
    split
    · exact presenceExpiry_level h
    · exact h
  | travelTimeLimit | runOutLimit =>
    dsimp only [applySetting]
    split
    · exact h.frame (by simp) (by simp) (by simp) (by simp)
    · exact h
  | warnFeedLevel | dribbleLevel => exact recomputeCeiling_level h.staged
  | preactMax | preact => exact h.same ⟨rfl, rfl, rfl, rfl⟩ rfl rfl rfl rfl
  | _ => exact h.frame rfl rfl rfl rfl

theorem ownWriteSetting_level (identifier value : Nat) : LevelLaw (ownWriteSetting identifier value s).1 := by
  obtain e | ⟨key, -, -, -, e⟩ := ownWriteSetting_cases identifier value s <;> rw [e]
  · exact h
  · by_cases warn : key = .warnFeedLevel
    · subst warn
      exact recomputeCeiling_level (storeSetting_staged h _ _)
    by_cases dribble : key = .dribbleLevel
    · subst dribble
      exact recomputeCeiling_level (storeSetting_staged h _ _)
    · exact applySetting_level (storeSetting_level h _ warn dribble) _ _ _

theorem ownWriteCalibration_level (z sp b : Nat) : LevelLaw (ownWriteCalibration z sp b s).1 := by
  unfold ownWriteCalibration
  split
  · exact h
  split
  · exact h
  · exact h.terms ⟨rfl, rfl, rfl, rfl⟩ rfl rfl rfl rfl rfl

/-! ### Every step -/

theorem owner_level (lawful : PlanLaw s) {f : State → State × Answer} (hf : Owner f) : LevelLaw (f s).1 := by
  cases hf with
  | startStep => exact ownStartStep_level h _
  | resume => exact ownResume_level h
  | stopStep => exact ownStopStep_level h
  | setFeedLevel => exact ownSetFeedLevel_level h _
  | presenceFrame => exact h.same ⟨rfl, rfl, rfl, rfl⟩ rfl rfl rfl rfl
  | acknowledgeTrip => exact ownAcknowledgeTrip_level h
  | clearStop => exact ownClearStop_level h
  | holdPour => exact ownHoldPour_level h
  | releasePour => exact h.same ⟨rfl, rfl, rfl, rfl⟩ rfl rfl rfl rfl
  | openCall => exact ownOpenCall_level h _ _
  | closeCall => exact ownCloseCall_level h
  | insertStep => exact ownInsertStep_level h _ _ _ _ _
  | modifyStep => exact ownModifyStep_level h lawful _ _ _
  | deleteStep => exact ownDeleteStep_level h lawful _
  | cancelStep => exact ownCancelStep_level h lawful _
  | closeStepShort => exact ownCloseStepShort_level h lawful _
  | releaseHold => exact ownReleaseHold_level h lawful _
  | setTrimBand => exact ownSetTrimBand_level h _
  | writeSetting => exact ownWriteSetting_level h _ _
  | writeCalibration => exact ownWriteCalibration_level h _ _ _
  | calibrationRequest z sp b unlock =>
    have read : LevelLaw (setCalUnlock unlock s) := h
    unfold calibrationRequest
    split
    · exact ownWriteCalibration_level read _ _ _
    · exact read
  | _ => exact h.frame (by simp) (by simp) (by simp) (by simp)

theorem takeCharacter_level (st : Station) (b : Byte) : LevelLaw (takeCharacter st s b) := by
  have complete (frame : List Byte) : LevelLaw (completeFrame st frame s) := by
    unfold completeFrame
    dsimp only
    split
    · exact h.same ⟨rfl, rfl, rfl, rfl⟩ rfl rfl rfl rfl
    · exact h
  unfold takeCharacter
  dsimp only
  split
  · exact h
  · exact h
  · split
    · unfold judgeHeader
      dsimp only
      split
      · split
        · exact complete _
        · exact h
      · exact h
    · exact h
  · split <;> exact h
  · split
    · exact complete _
    · exact h

end

theorem readEstop_governor (s : State) : ∃ latch, (readEstop s).governor = { s.governor with estopLatch := latch } := by
  unfold readEstop
  split
  · exact ⟨true, rfl⟩
  · exact ⟨s.governor.estopLatch, rfl⟩

/-- Recovery clamps the preact, reads ESTOP and the stage, and starts the period; the governor stays IDLE (R136, R176). -/
theorem recover_governor (s : State) : ∃ preact latch belt, (recover s).governor = { s.governor with
    preact := preact, estopLatch := latch, beltPermit := belt, period := some 0 } := by
  obtain ⟨latch, e⟩ := readEstop_governor (startConverter (recoveredTo .raised
    { s with pins := { s.pins with resetN := false } }))
  refine ⟨(recoveredTo .raised { s with pins := { s.pins with resetN := false } }).governor.preact, latch,
    (recover s).governor.beltPermit, ?_⟩
  have before : (recoveredTo .raised { s with pins := { s.pins with resetN := false } }).governor = { s.governor with
      preact := (recoveredTo .raised { s with pins := { s.pins with resetN := false } }).governor.preact } := by
    simp [recoveredTo, clampPreact, raise]
  have started (u : State) : (startConverter u).governor = u.governor := by simp
  have finished (u : State) : (completeRecovery u).governor = { (readEstop (startConverter u)).governor with
    beltPermit := (completeRecovery u).governor.beltPermit, period := some 0 } := rfl
  unfold recover
  rw [finished, e, started, before]

theorem recover_level {s : State} (h : Staged s.governor) (idle : s.governor.state = .idle) : LevelLaw (recover s) := by
  obtain ⟨_, _, _, e⟩ := recover_governor s
  refine levelLaw_of_still ?_ (by rw [e, idle]; rfl)
  rw [e]
  exact ⟨h.off, h.duty⟩

theorem levelLaw_kept : Kept (fun s => PlanLaw s ∧ LoaderLaw s ∧ LevelLaw s) LevelLaw where
  base _ h := h.2.2
  queue _ _ h := h
  answer _ _ h := h
  tick s := fun ⟨_, _, h⟩ => by
    unfold tick
    split
    · exact h.same ⟨rfl, rfl, rfl, rfl⟩ rfl rfl rfl rfl
    · exact h
  owner s f hf _ := fun ⟨lawful, _, h⟩ => owner_level h lawful hf
  pins s c p f hc := fun ⟨_, _, h⟩ => by
    obtain ⟨x, e⟩ := pins_only hc s
    rw [e]
    exact h
  arrival s c p f hc hr := fun ⟨lawful, loader, h⟩ => by
    cases hc with
    | takeRequest st u =>
      exact takeHead_keeps (pre := fun s => PlanLaw s ∧ LevelLaw s) (fun _ h => h.2) (fun _ _ h => h) (fun _ _ _ h => h)
        (fun _ _ _ h => h) (fun _ _ hf _ h => owner_level h.2 h.1 hf) hr ⟨lawful, h⟩
    | frameComplete st chars =>
      exact takeCharacters_keeps (law := LevelLaw) (fun _ b h => takeCharacter_level h st b) chars h
    | characterReceived st b => exact takeCharacter_level h st b
    | tachPulse => exact countPulse_level h
    | dGroupArrival => exact takeDGroup_level h
    | highHoldExpiry => exact highHoldExpires_level h
    | referenceTimerExpiry => exact referenceTimerExpires_level h
    | encoderCount d => exact countEncoder_level h d
    | estopAsserted =>
      have paused : LevelLaw (pauseCause .estop (raise (.estop false) { setBeltPermit (setEstop true s) with
          governor := { (setBeltPermit (setEstop true s)).governor with estopLatch := true } })) :=
        pauseCause_level _ ⟨h.staged.off, h.staged.duty⟩
      exact travelStop_level paused
    | estopReleased => exact h.same ⟨rfl, rfl, rfl, rfl⟩ rfl rfl rfl rfl
    | beltRunFall => exact pauseCause_level _ ⟨h.staged.off, h.staged.duty⟩
    | governorPeriodExpiry => exact (rampLevel_level h).same ⟨rfl, rfl, rfl, rfl⟩ rfl rfl rfl rfl
    | feedRatePeriodEnd => exact h.same ⟨rfl, rfl, rfl, rfl⟩ rfl rfl rfl rfl
    | presenceTimerExpiry => exact presenceExpiry_level h
    | referenceFaultNotice c =>
      cases c <;> simp only [takeFaultNotice] <;> split
      all_goals exact h.frame rfl rfl rfl rfl
    | referenceGoodNotice c =>
      cases c <;> simp only [takeGoodNotice] <;> split
      all_goals exact h.frame rfl rfl rfl rfl
    | _ => exact h.frame (by simp) (by simp) (by simp) (by simp)
  cold s _ := levelLaw_of_still (.of_shut rfl rfl) rfl
  reset s _ := levelLaw_of_still (.of_shut rfl rfl) rfl
  recover s hp := fun ⟨_, loader, h⟩ => by
    have cold := loader.2.2.2 hp
    exact recover_level h.staged cold.1
  abandon s p _ _ := levelLaw_of_still (.of_shut rfl rfl) rfl

/-- Settles O56. -/
theorem levelLawIsKept : Obligations.LevelLawIsKept :=
  fun _ _ lawful loader h ht => levelLaw_kept.step ⟨lawful, loader, h⟩ ht

end Sys2Proof.Machine

end

section
/-! A pour step by step: what a cutoff and a completion make of the state, said once, and the POUR and HOLD POUR requests and
the governor's inputs that are settled with it. -/

namespace Sys2Proof.Machine

open Sys2Proof

/-! ### The effective target (R112) -/

/-- A floor division is the number that its two bounds enclose. -/
theorem ediv_eq_of_bounds {a d m : Int} (positive : 0 < d) (low : d * m ≤ a) (high : a < d * (m + 1)) : a / d = m :=
  Int.le_antisymm (Int.lt_add_one_iff.1 ((Int.ediv_lt_iff_lt_mul positive).2 (by linarith)))
    ((Int.le_ediv_iff_mul_le positive).2 (by linarith))

theorem holdRoom_eq {s : State} {h : Hold} {e : Hatch} (he : s.travel.activeMap.get h = some e) :
    holdRoom s h = (max 0 ((e.limit : Int) * 1000000 - s.accounts.credited.get h)).toNat := by
  simp only [holdRoom, he, gramsPerTonne]
  omega

theorem leverOn_eq {page : HatchPage} {h : Hold} {e : Hatch} (he : page.get h = some e) : leverOn page h = e.lever := by
  simp [leverOn, he]

theorem toNat_eq_max (m : Int) : m.toNat = (max 0 m).toNat := by omega

theorem trimAllowance_fore {lever m moment : Int} {band : Nat} (positive : 0 < lever)
    (low : lever * m ≤ (band : Int) * 10000000 - moment) (high : (band : Int) * 10000000 - moment < lever * (m + 1)) :
    trimAllowance band moment lever = (max 0 m).toNat := by
  rw [trimAllowance, if_pos positive, ← toNat_eq_max]
  exact congrArg Int.toNat (ediv_eq_of_bounds positive low high)

theorem trimAllowance_aft {lever m moment : Int} {band : Nat} (negative : lever < 0)
    (low : -lever * m ≤ (band : Int) * 10000000 + moment) (high : (band : Int) * 10000000 + moment < -lever * (m + 1)) :
    trimAllowance band moment lever = (max 0 m).toNat := by
  rw [trimAllowance, if_neg negative.not_gt, ← toNat_eq_max]
  exact congrArg Int.toNat (ediv_eq_of_bounds (neg_pos.2 negative) low high)

theorem effectiveTarget_of_no_lever {s : State} {st : Step} (h : leverOn s.travel.activeMap st.hold = 0) :
    effectiveTarget s st = min st.target (st.placed + holdRoom s st.hold) := by
  simp [effectiveTarget, targetTerms, TargetTerms.least, h]

theorem effectiveTarget_of_lever {s : State} {st : Step} (h : leverOn s.travel.activeMap st.hold ≠ 0) :
    effectiveTarget s st = min (min st.target (st.placed + holdRoom s st.hold))
      (st.placed + trimAllowance s.plan.trimBand s.accounts.moment (leverOn s.travel.activeMap st.hold)) := by
  simp [effectiveTarget, targetTerms, TargetTerms.least, h]

/-- Settles O12: the trim term is formed for a lever that is not 0 only, and is then the floor that the bounds enclose. -/
theorem effectiveTargetIsTheLeastTerm : Obligations.EffectiveTargetIsTheLeastTerm := by
  intro s st e he
  have lever := leverOn_eq he
  refine ⟨fun h => ?_, fun h m low high => ?_, fun h m low high => ?_⟩
  · rw [effectiveTarget_of_no_lever (lever.trans h), holdRoom_eq he]
  · rw [effectiveTarget_of_lever (lever ▸ h.ne'), holdRoom_eq he, lever, trimAllowance_fore h low high]
  · rw [effectiveTarget_of_lever (lever ▸ h.ne), holdRoom_eq he, lever, trimAllowance_aft h low high]

/-! ### A cutoff and a completion (R118, R120) -/

/-- The run-out test: the line is empty and the tail count has reached E (R119). -/
abbrev RunOut (s : State) : Prop := s.weigher.lineTotal = 0 ∧ s.store.settings.tailSegments ≤ s.governor.tail

theorem runOutTest_iff (s : State) : runOutTest s = true ↔ RunOut s := by
  simp [runOutTest, RunOut]

/-- The governor after a cutoff from a feeding state or from PAUSED (R118). -/
abbrev Governor.cutOff (g : Governor) (ceiling : Nat) : Governor :=
  { g with
    state := .cutoff, feedPermit := false, level := 0, dutyStaged := 0
    tail := if g.state.feeding then 0 else g.tail
    pauseSet := PauseSet.empty, ceiling := ceiling }

theorem Governor.cutOff_of_feeding {g : Governor} (feeding : g.state.feeding = true) (ceiling : Nat) :
    g.cutOff ceiling = { g with
      state := .cutoff, feedPermit := false, level := 0, dutyStaged := 0, tail := 0
      pauseSet := PauseSet.empty, ceiling := ceiling } := by
  simp [Governor.cutOff, feeding]

/-- A cutoff from PAUSED leaves the tail count and the ceiling as they stand. -/
theorem cutOff_of_paused {s : State} (paused : s.governor.state = .paused) :
    s.governor.cutOff (ceilingLeft s) = { s.governor with
      state := .cutoff, feedPermit := false, level := 0, dutyStaged := 0, pauseSet := PauseSet.empty } := by
  simp [Governor.cutOff, ceilingLeft, paused, GovernorState.feeding]

/-- A cutoff in progress: the governor in CUTOFF, and the reason in the ACTIVE step's record with the new revision (R106,
R118). -/
theorem recordedCutoff_eq {r : CutoffReason} (hr : r ≠ .deck) (s : State) : recordedCutoff r s = { s with
    governor := s.governor.cutOff (ceilingLeft s)
    plan := { s.plan with
      revision := (s.plan.revision + 1) % 65536
      steps := s.plan.steps.map (fun x => if x.state = .active then { x with cutoffReason := some r } else x) }
    events := s.events.raise (.planChanged ((s.plan.revision + 1) % 65536)) } := by
  rw [recordedCutoff, if_neg hr, recordCutoff_eq, enterCutoff_eq]
  simp [Step.isActive]

theorem recordedCutoff_deck (s : State) :
    recordedCutoff .deck s = { s with governor := s.governor.cutOff (ceilingLeft s) } := by
  rw [recordedCutoff, if_pos rfl, enterCutoff_eq]

/-- The run-out test does not look at what a cutoff from PAUSED changes. -/
theorem runOut_recordedCutoff (r : CutoffReason) {s : State} (paused : s.governor.state = .paused) :
    RunOut (recordedCutoff r s) ↔ RunOut s := by
  have shut : (recordedCutoff r s).governor.tail = s.governor.tail := by
    rw [recordedCutoff_governor, enterCutoff_eq, paused]
    rfl
  have weigher : (recordedCutoff r s).weigher = s.weigher ∧ (recordedCutoff r s).store = s.store := by
    by_cases hr : r = .deck
    · subst hr
      rw [recordedCutoff_deck]
      exact ⟨rfl, rfl⟩
    · rw [recordedCutoff_eq hr]
      exact ⟨rfl, rfl⟩
  rw [RunOut, RunOut, shut, weigher.1, weigher.2]

/-- A cutoff that does not complete the step. -/
theorem cutoff_of_running_on (r : CutoffReason) {s : State} (h : ¬ (s.governor.state = .paused ∧ RunOut s)) :
    cutoff r s = recordedCutoff r s := by
  rw [cutoff_eq, if_neg]
  rintro ⟨paused, done⟩
  exact h ⟨paused, (runOut_recordedCutoff r paused).1 ((runOutTest_iff _).1 done)⟩

theorem cutoff_of_feeding (r : CutoffReason) {s : State} (h : s.governor.state.feeding = true) :
    cutoff r s = recordedCutoff r s :=
  cutoff_of_running_on r fun both => by rw [both.1] at h; cases h

/-- A cutoff from PAUSED with the run-out test already holding completes the step at once (R118). -/
theorem cutoff_of_runOut (r : CutoffReason) {s : State} (paused : s.governor.state = .paused) (done : RunOut s) :
    cutoff r s = complete (recordedCutoff r s) := by
  rw [cutoff_eq, if_pos ⟨paused, (runOutTest_iff _).2 ((runOut_recordedCutoff r paused).2 done)⟩]

theorem adaptPreact_eq (s : State) :
    adaptPreact s = { s with governor := { s.governor with preact := (adaptPreact s).governor.preact } } := by
  unfold adaptPreact
  split
  · split <;> rfl
  · rfl

/-- The preact stands unless a clean finish on target adapts it (R120, R121). -/
theorem adaptPreact_preact_of_other {s : State} {st : Step} (active : activeStep s.plan = some st)
    (other : ¬ (st.cutoffReason = some .target ∧ s.governor.clean = true)) :
    (adaptPreact s).governor.preact = s.governor.preact := by
  rw [adaptPreact, active]
  dsimp only
  rw [if_neg other]

theorem adaptPreact_preact_of_target {s : State} {st : Step} (active : activeStep s.plan = some st)
    (target : st.cutoffReason = some .target) :
    (adaptPreact s).governor.preact = if s.governor.clean = true then
        (min (max 0 ((s.governor.preact : Int) + ((st.placed : Int) - s.governor.effective.getD 0).tdiv 4))
          (s.store.settings.preactMax * 100000 : Nat)).toNat
      else s.governor.preact := by
  rw [adaptPreact, active]
  dsimp only
  simp only [target, true_and]
  split
  · simp only [adaptedPreact, preactMaxGrams, gramsPerTenth, effectiveHeld]
    omega
  · rfl

/-- The completion of the ACTIVE step `st`: its record, the revision, PLAN_CHANGED and then the step's event, the governor IDLE,
and the swap test as the step has left ACTIVE (R96, R106, R120). -/
theorem complete_eq {s : State} {st : Step} (active : activeStep s.plan = some st) :
    complete s = swapTest (completionEvent st { s with
      plan := { s.plan with
        revision := (s.plan.revision + 1) % 65536
        steps := s.plan.steps.map (fun x => if x.state = .active then x.complete else x) }
      events := s.events.raise (.planChanged ((s.plan.revision + 1) % 65536))
      governor := { s.governor with
        state := .idle, effective := none, preact := (adaptPreact s).governor.preact } }) := by
  have plan : (adaptPreact s).plan = s.plan := by rw [adaptPreact_eq]
  have event (t : State) (g : Governor) :
      completionEvent st { t with governor := g } = { completionEvent st t with governor := g } := by
    unfold completionEvent
    split <;> rfl
  have gov (t : State) : (completionEvent st t).governor = t.governor := by
    unfold completionEvent
    split <;> rfl
  have swap (t : State) : (swapTest t).governor = t.governor := by simp
  rw [complete, completeStep, plan, active]
  dsimp only
  rw [← swapTest_governor, ← event, swap, gov, bumpRevision_eq, adaptPreact_eq s]
  simp [Plan.updateActive, Step.isActive]

/-- The ACTIVE step once its cutoff reason is recorded. -/
theorem activeStep_recorded {s : State} {st : Step} {r : CutoffReason} (active : activeStep s.plan = some st)
    (hr : r ≠ .deck) : activeStep (recordedCutoff r s).plan = some { st with cutoffReason := some r } := by
  have kept := activeStep_updateActive s.plan (fun x => { x with cutoffReason := some r }) st active (fun _ h => h)
  simp only [Plan.updateActive, Step.isActive_iff] at kept
  rw [recordedCutoff_eq hr]
  exact kept

/-- A step's record over a completion right after its cutoff reason was recorded. -/
theorem complete_of_recorded (r : CutoffReason) (x : Step) :
    (if (if x.state = .active then { x with cutoffReason := some r } else x).state = .active then
        (if x.state = .active then { x with cutoffReason := some r } else x).complete
      else (if x.state = .active then { x with cutoffReason := some r } else x)) =
      if x.state = .active then { x with cutoffReason := some r }.complete else x := by
  by_cases h : x.state = .active <;> simp [h]

/-- A cutoff from PAUSED that completes the ACTIVE step `st` at once (R118, R120). -/
theorem cutoff_completed {s : State} {st : Step} {r : CutoffReason} (hr : r ≠ .deck) (paused : s.governor.state = .paused)
    (done : RunOut s) (active : activeStep s.plan = some st) :
    cutoff r s = swapTest (completionEvent { st with cutoffReason := some r } { s with
      plan := { s.plan with
        revision := ((s.plan.revision + 1) % 65536 + 1) % 65536
        steps := s.plan.steps.map (fun x =>
          if x.state = .active then { x with cutoffReason := some r }.complete else x) }
      events := (s.events.raise (.planChanged ((s.plan.revision + 1) % 65536))).raise
        (.planChanged (((s.plan.revision + 1) % 65536 + 1) % 65536))
      governor := { s.governor with
        state := .idle, feedPermit := false, level := 0, dutyStaged := 0, effective := none
        pauseSet := PauseSet.empty, preact := (adaptPreact (recordedCutoff r s)).governor.preact } }) := by
  rw [cutoff_of_runOut r paused done, complete_eq (activeStep_recorded active hr)]
  generalize (adaptPreact (recordedCutoff r s)).governor.preact = preact
  rw [recordedCutoff_eq hr]
  simp [paused, GovernorState.feeding, ceilingLeft, Function.comp_def, complete_of_recorded]

/-- The completion for a reason that holds the step: the preact stands (R106, R120). -/
theorem cutoff_held {s : State} {st : Step} {r : CutoffReason} {q : HoldReason} (held : completionState (some r) = (.held, some q))
    (paused : s.governor.state = .paused) (done : RunOut s) (active : activeStep s.plan = some st) :
    cutoff r s = swapTest { s with
      plan := { s.plan with
        revision := ((s.plan.revision + 1) % 65536 + 1) % 65536
        steps := s.plan.steps.map (fun x =>
          if x.state = .active then { x with state := .held, holdReason := some q, cutoffReason := none } else x) }
      events := ((s.events.raise (.planChanged ((s.plan.revision + 1) % 65536))).raise
        (.planChanged (((s.plan.revision + 1) % 65536 + 1) % 65536))).raise (.stepHeld st.id q)
      governor := { s.governor with
        state := .idle, feedPermit := false, level := 0, dutyStaged := 0, effective := none
        pauseSet := PauseSet.empty } } := by
  have hr : r ≠ .deck := by rintro rfl; cases held
  have stands : (adaptPreact (recordedCutoff r s)).governor.preact = s.governor.preact := by
    rw [adaptPreact_preact_of_other (activeStep_recorded active hr) (by rintro ⟨e, -⟩; cases e; cases held),
      recordedCutoff_eq hr]
  rw [cutoff_completed hr paused done active, stands]
  simp only [completionEvent, Step.complete, held]
  rfl

end Sys2Proof.Machine
end

section
/-! Stop Step, Resume, Set Feed Level, the pauses, the releases, the periods and the clock (sections 6.2 to 6.7, 7.7). -/

namespace Sys2Proof.Machine

open Sys2Proof

/-! ### Stop Step (R125) -/

theorem ownStopStep_cuts {s : State} (call : s.plan.callOpen = true)
    (pouring : s.governor.state.feeding = true ∨ s.governor.state = .paused) :
    ownStopStep s = (cutoff .operator s, answerOk [(cutoff .operator s).governor.state.number]) := by
  unfold ownStopStep
  cases hs : s.governor.state <;> simp_all [GovernorState.feeding]

/-- Settles O14: a cutoff for OPERATOR, that from PAUSED completes the step at once when the run-out test already holds. -/
theorem stopStepCutsOff : Obligations.StopStepCutsOff := by
  intro s hr
  have run := exec_request_of_running .stopStep hr
  refine ⟨fun call => ?_, fun call idle => ?_, fun call cut => ?_, fun call pouring => ?_,
    fun st call paused clear tail active => ?_⟩
  · rw [run, ownStopStep, call]
    rfl
  · rw [run, ownStopStep, call, idle]
    rfl
  · rw [run, ownStopStep, call, cut]
    rfl
  · have goesOn : ¬ (s.governor.state = .paused ∧ RunOut s) := by
      rintro ⟨paused, done⟩
      obtain feeding | ⟨-, notDone⟩ := pouring
      · rw [paused] at feeding
        cases feeding
      · exact notDone done
    rw [run, ownStopStep_cuts call (pouring.imp_right And.left), cutoff_of_running_on _ goesOn,
      recordedCutoff_eq (by decide)]
    rfl
  · rw [run, ownStopStep_cuts call (.inr paused), cutoff_held rfl paused ⟨clear, tail⟩ active]
    rw [← swapTest_answer]
    simp
    rfl

/-! ### Resume (R124) -/

/-- The tests of Resume in their order, as the claims write them (R124). -/
theorem resumeRefusal_eq (s : State) : resumeRefusal s = firstOf
    [(!s.plan.callOpen, answerNotReady .noCall),
     (decide (s.governor.state = .idle), answerNotReady .noActiveStep),
     (decide (s.governor.state ≠ .paused), answerOnly .busy),
     (s.governor.pauseSet.estop || s.pins.estop, answerNotReady .estop),
     (decide (s.dust.stage = .high ∨ s.dust.stage = .trip), answerNotReady .dust),
     (s.governor.deckHold, answerNotReady .deckHold),
     (!s.pins.beltRun, answerNotReady .beltNotRunning)] := by
  simp [resumeRefusal, firstOf]

/-- PAUSED with the pause set emptied, from where an accepted Resume goes on (R124). -/
def unpaused (s : State) : State := { s with governor := { s.governor with pauseSet := PauseSet.empty } }

theorem resumeFeed_eq (s : State) : resumeFeed s =
    if reachedCutoff (unpaused s) then recomputeCeiling (cutoff .target (unpaused s))
    else if reachedDribble (unpaused s) then openGate .dribble (unpaused s) else openGate .ramping (unpaused s) := rfl

theorem reachedCutoff_iff {s : State} {st : Step} (active : activeStep s.plan = some st) :
    reachedCutoff s = true ↔
      s.governor.effective.getD 0 ≤ st.placed + s.weigher.lineTotal + s.governor.preact := by
  simp [reachedCutoff, effectiveHeld, committed, activePlaced, active]

theorem reachedDribble_iff {s : State} {st : Step} (active : activeStep s.plan = some st) :
    reachedDribble s = true ↔ s.governor.effective.getD 0 ≤
      st.placed + s.weigher.lineTotal + s.governor.preact + s.store.settings.dribbleBand * 100000 := by
  simp [reachedDribble, effectiveHeld, committed, activePlaced, active, dribbleGrams, gramsPerTenth]

theorem activeMaximum_of_active {s : State} {st : Step} (active : activeStep s.plan = some st) :
    activeMaximum s = st.maxLevel := by
  rw [activeMaximum, active]

/-- Feed opened in RAMPING for the ACTIVE step (R115, R124). -/
theorem openGate_ramping {s : State} {st : Step} (active : activeStep s.plan = some st) :
    openGate .ramping s = { s with governor := { s.governor with
      state := .ramping, feedPermit := true, level := 0, dutyStaged := 0, ceiling := feedCeiling s st.maxLevel } } := by
  rw [openGate_eq _ _ (by decide), ceilingNow_of_not_dribble _ (by simp)]
  simp [activeMaximum, active, feedCeiling]

/-- Feed opened in DRIBBLE for the ACTIVE step (R115, R124). -/
theorem openGate_dribble {s : State} {st : Step} (active : activeStep s.plan = some st) :
    openGate .dribble s = { s with governor := { s.governor with
      state := .dribble, feedPermit := true, level := 0, dutyStaged := 0
      ceiling := min (feedCeiling s st.maxLevel) s.store.settings.dribbleLevel } } := by
  rw [openGate_eq _ _ (by decide), ceilingNow_of_dribble _ rfl]
  simp [activeMaximum, active, feedCeiling]

/-- No step is ACTIVE once the ACTIVE ones have completed, whatever reason is recorded on the way. -/
theorem activeMaximum_completed {s : State} {steps₀ : List Step} {g : Step → Step} (h : ∀ x : Step, x.state = .active → (g x).isActive = false)
    (steps : s.plan.steps = steps₀.map (fun x => if x.state = .active then g x else x)) : activeMaximum s = none := by
  have none : activeStep s.plan = none := by
    rw [activeStep, steps, List.find?_eq_none]
    intro x hx
    obtain ⟨y, -, rfl⟩ := List.mem_map.1 hx
    by_cases hy : y.state = .active
    · simp [hy, h y hy]
    · simp [hy, Step.isActive]
  rw [activeMaximum, none]

/-- The swap test does not look at the ceiling's terms, nor the ceiling at what a swap changes. -/
theorem recomputeCeiling_swapTest (s : State) : recomputeCeiling (swapTest s) = swapTest (recomputeCeiling s) := by
  have now : ceilingNow (swapTest s) = ceilingNow s := by
    obtain ⟨-, -, e⟩ | ⟨-, e⟩ := swapTest_cases s <;> rw [e]
    rfl
  have governor : (swapTest s).governor = s.governor := by simp
  rw [recomputeCeiling_under, recomputeCeiling_under s, now, governor]
  exact (swapTest_governor s _).symm

/-- Resume's cutoff on target, with the run-out test not holding. -/
theorem resume_cutoff {s : State} {st : Step} (paused : s.governor.state = .paused) (active : activeStep s.plan = some st)
    (goesOn : ¬ RunOut s) : recomputeCeiling (cutoff .target (unpaused s)) = { s with
      plan := { s.plan with
        revision := (s.plan.revision + 1) % 65536
        steps := s.plan.steps.map (fun x => if x.state = .active then { x with cutoffReason := some .target } else x) }
      events := s.events.raise (.planChanged ((s.plan.revision + 1) % 65536))
      governor := { s.governor with
        state := .cutoff, feedPermit := false, level := 0, dutyStaged := 0, pauseSet := PauseSet.empty
        ceiling := feedCeiling s st.maxLevel } } := by
  have recorded := cutoff_of_running_on .target (s := unpaused s) fun both => goesOn both.2
  have maximum := activeMaximum_of_active (activeStep_recorded (s := unpaused s) (r := .target) active (by decide))
  rw [recorded, recomputeCeiling_of_level_zero _ (by rw [recordedCutoff_eq (by decide)])
      (by rw [recordedCutoff_eq (by decide)]; simp), ceilingNow_of_not_dribble _ (by rw [recordedCutoff_eq (by decide)]; simp),
    maximum, recordedCutoff_eq (by decide)]
  simp [unpaused, paused, GovernorState.feeding, feedCeiling]

/-- Resume's cutoff on target that completes the step at once, and adapts the preact when the pour was clean. -/
theorem resume_completes {s : State} {st : Step} (paused : s.governor.state = .paused) (active : activeStep s.plan = some st)
    (done : RunOut s) : recomputeCeiling (cutoff .target (unpaused s)) = swapTest { s with
      plan := { s.plan with
        revision := ((s.plan.revision + 1) % 65536 + 1) % 65536
        steps := s.plan.steps.map (fun x => if x.state = .active then
          { x with state := .done, holdReason := none, cutoffReason := none, effective := none } else x) }
      events := ((s.events.raise (.planChanged ((s.plan.revision + 1) % 65536))).raise
        (.planChanged (((s.plan.revision + 1) % 65536 + 1) % 65536))).raise (.stepDone st.id .none st.placed)
      governor := { s.governor with
        state := .idle, feedPermit := false, level := 0, dutyStaged := 0, pauseSet := PauseSet.empty, effective := none
        ceiling := feedCeiling s none
        preact := if s.governor.clean then
            (min (max 0 ((s.governor.preact : Int) + ((st.placed : Int) - s.governor.effective.getD 0).tdiv 4))
              (s.store.settings.preactMax * 100000 : Nat)).toNat
          else s.governor.preact } } := by
  have adapted := adaptPreact_preact_of_target (activeStep_recorded (s := unpaused s) (r := .target) active (by decide)) rfl
  rw [cutoff_completed (s := unpaused s) (r := .target) (by decide) paused done active, adapted]
  simp only [recordedCutoff_eq (r := .target) (by decide), completionEvent, Step.complete, completionState]
  rw [recomputeCeiling_swapTest, recomputeCeiling_of_level_zero _ rfl (by simp [raise]),
    ceilingNow_of_not_dribble _ (by simp [raise]), activeMaximum_completed (g := fun x =>
      { x with state := .done, holdReason := none, cutoffReason := none, effective := none }) (fun _ _ => rfl) rfl]
  rfl

/-- With nothing that guards the pause left, Resume is taken. -/
theorem resumeRefusal_eq_none {s : State} (call : s.plan.callOpen = true) (paused : s.governor.state = .paused)
    (set : s.governor.pauseSet.estop = false) (estop : s.pins.estop = false)
    (dust : s.dust.stage = .clear ∨ s.dust.stage = .warn) (deck : s.governor.deckHold = false) (belt : s.pins.beltRun = true) :
    resumeRefusal s = none := by
  have quiet : ¬ (s.dust.stage = .high ∨ s.dust.stage = .trip) := by
    obtain e | e := dust <;> simp [e]
  rw [resumeRefusal_eq]
  exact firstOf_eq_none (by simpa [call, paused, set, estop, deck, belt] using quiet)

/-- Settles O15: a refusal is the first test that applies; otherwise the committed mass decides between cutoff, dribble and
ramp. -/
theorem resumeFollowsTheCommittedMass : Obligations.ResumeFollowsTheCommittedMass := by
  refine ⟨fun s a hr h => ?_, fun s st hr call paused active set estop dust deck belt => ?_⟩
  · have refused : resumeRefusal s = some a := (resumeRefusal_eq s).trans (firstOf_of_firstTest h)
    rw [exec_request_of_running .resume hr, ownResume, refused]
  have run : exec .resume s = .next { resumeFeed s with
      answer := some (.cab, answerOk [(resumeFeed s).governor.state.number]) } := by
    rw [exec_request_of_running .resume hr, ownResume, resumeRefusal_eq_none call paused set estop dust deck belt]
  have reached := reachedCutoff_iff (s := unpaused s) active
  have near := reachedDribble_iff (s := unpaused s) active
  rw [run, resumeFeed_eq]
  refine ⟨fun far => ?_, fun short close => ?_, fun met goesOn => ?_, fun met clear tail => ?_⟩
  · have far' : s.governor.effective.getD 0 > st.placed + s.weigher.lineTotal + s.governor.preact +
      s.store.settings.dribbleBand * 100000 := far
    rw [if_neg (fun h => by have := reached.1 h; simp only [unpaused] at this; omega),
      if_neg (fun h => by have := near.1 h; simp only [unpaused] at this; omega), openGate_ramping (s := unpaused s) active]
    rfl
  · rw [if_neg (fun h => (reached.1 h).not_gt short), if_pos (near.2 close), openGate_dribble (s := unpaused s) active]
    rfl
  · rw [if_pos (reached.2 met), resume_cutoff paused active goesOn]
    rfl
  · rw [if_pos (reached.2 met), resume_completes paused active ⟨clear, tail⟩, ← swapTest_answer]
    simp
    rfl

/-! ### Set Feed Level (R115) -/

/-- Settles O16: the level requested is a term of the ceiling, which is recomputed. -/
theorem setFeedLevelBoundsTheLevel : Obligations.SetFeedLevelBoundsTheLevel := by
  intro level s hr
  refine ⟨fun out => ?_, fun low high => ?_⟩
  · rw [exec_request_of_running (.setFeedLevel level) hr, ownSetFeedLevel, if_neg out]
    rfl
  · intro s0 ceiling
    have now : ceiling = ceilingNow s0 := by
      by_cases dribble : s.governor.state = .dribble
      · exact (if_pos dribble).trans (ceilingNow_of_dribble s0 dribble).symm
      · exact (if_neg dribble).trans (ceilingNow_of_not_dribble s0 dribble).symm
    rw [exec_request_of_running (.setFeedLevel level) hr, ownSetFeedLevel, if_pos ⟨low, high⟩, recomputeCeiling_under, now]

/-! ### The pauses (R123, R126, R127) -/

/-- A pause cause does not look at the answer kept. -/
theorem pauseCause_answer (r : PauseReason) (s : State) (a : Option (Station × Answer)) :
    pauseCause r { s with answer := a } = { pauseCause r s with answer := a } := by
  cases hs : s.governor.state with
  | idle =>
    rw [pauseCause_idle r s hs]
    exact pauseCause_idle r { s with answer := a } hs
  | cutoff =>
    rw [pauseCause_cutoff r s hs]
    exact pauseCause_cutoff r { s with answer := a } hs
  | paused =>
    rw [pauseCause_paused r s hs]
    refine (pauseCause_paused r { s with answer := a } hs).trans ?_
    dsimp only
    split <;> rfl
  | ramping | running | dribble =>
    have feeding : s.governor.state.feeding = true := by rw [hs]; rfl
    rw [pauseCause_feeding r s feeding]
    exact pauseCause_feeding r { s with answer := a } feeding

/-- The outcomes of a command that comes down to a pause cause, on a state that its input or request has changed away from
what R123 looks at. -/
theorem exec_pauseCause {c : Instr} {r : PauseReason} {s s0 : State} (run : exec c s = .next (pauseCause r s0))
    (state : s0.governor.state = s.governor.state) (set : s0.governor.pauseSet = s.governor.pauseSet)
    (ceiling : ceilingLeft s0 = ceilingLeft s) (events : s0.events = s.events) :
    (s.governor.state.feeding = true → exec c s = .next { s0 with
      governor := s0.governor.pausedFor r (ceilingLeft s), events := s.events.raise (.feedPaused r) }) ∧
    (s.governor.state = .paused → s.governor.pauseSet.has r = false → exec c s = .next { s0 with
      governor := { s0.governor with pauseSet := s.governor.pauseSet.add r }
      events := s.events.raise (.feedPaused r) }) ∧
    (s.governor.state = .paused → s.governor.pauseSet.has r = true → exec c s = .next s0) ∧
    (s.governor.state = .cutoff → exec c s = .next { s0 with governor := { s0.governor with clean := false } }) ∧
    (s.governor.state = .idle → exec c s = .next s0) := by
  rw [run, ← state, ← set, ← ceiling, ← events]
  refine ⟨fun feeding => ?_, fun paused new => ?_, fun paused old => ?_, fun cut => ?_, fun idle => ?_⟩
  · rw [pauseCause_feeding r s0 feeding]
  · rw [pauseCause_paused r s0 paused, if_neg (by simp [new])]
  · rw [pauseCause_paused r s0 paused, if_pos old]
  · rw [pauseCause_cutoff r s0 cut]
  · rw [pauseCause_idle r s0 idle]

/-- Settles O17: each cause comes down to the pause of R123, on the state that its input or request has set first. -/
theorem pauseCausesStopTheFeed : Obligations.PauseCausesStopTheFeed := by
  rintro s s0 c r hr (⟨rfl, rfl, rfl⟩ | ⟨rfl, rfl, free, rfl⟩ | ⟨rfl, rfl, timer, feeding, rfl⟩)
  · exact exec_pauseCause (exec_arrival_of_running .beltRunFall hr) rfl rfl rfl rfl
  · refine exec_pauseCause ?_ rfl rfl rfl rfl
    rw [exec_request_of_running .holdPour hr, ownHoldPour, if_neg (by simp [free])]
    exact congrArg Host.Outcome.next (pauseCause_answer _ _ _).symm
  · refine exec_pauseCause ?_ rfl rfl rfl rfl
    rw [exec_arrival_of_running .presenceTimerExpiry hr, presenceExpiry]
    simp [timer, feeding]

/-! ### The releases (R80, R123, R126, R127, R132, R133) -/

theorem exec_beltRunRise {s : State} (hr : s.phase = .running) :
    exec .beltRunRise s = .next { s with pins := { s.pins with beltRun := true } } :=
  exec_arrival_of_running .beltRunRise hr

/-- A carriage let out of STOPPED takes no swap, when none was due before: STOPPED and the states at rest are alike to the
swap test (R63, R80). -/
theorem stopCleared_eq {s : State} (none : s.travel.swapPending = true → swapReady s = false) :
    stopCleared s = { s with travel := { s.travel with
      state := if s.travel.state = .stopped then (if s.travel.referenced then .parked else .unreferenced)
        else s.travel.state } } := by
  unfold stopCleared
  split
  next stopped =>
    have atRest : s.travel.restState.inMotion = s.travel.state.inMotion := by
      rw [stopped, Travel.restState]
      split <;> rfl
    have alike : swapReady { s with travel := { s.travel with state := s.travel.restState } } = swapReady s := by
      unfold swapReady
      rw [← atRest]
      rfl
    obtain ⟨pending, ready, -⟩ | ⟨-, e⟩ := swapTest_cases { s with travel := { s.travel with state := s.travel.restState } }
    · exact absurd (alike.symm.trans ready) (by simp [none pending])
    · exact e
  next other => rfl

/-- Settles O18: none of them comes to a pause, a cutoff or an open gate; Clear Stop takes no swap, as none was due. -/
theorem releasesRestartNoFeed : Obligations.ReleasesRestartNoFeed := by
  refine ⟨fun s hr => ⟨fun body => ?_, fun timer quiet => ?_, fun stopped => ?_, exec_beltRunRise hr, fun inForce => ?_, ?_⟩,
    fun s hr => ⟨?_, fun estop => ?_, fun estop swap => ?_⟩⟩
  · rw [exec_request_of_running (.presence body) hr]
    rfl
  · rw [exec_arrival_of_running .presenceTimerExpiry hr, presenceExpiry]
    simp [timer, quiet]
  · rw [exec_arrival_of_running .presenceTimerExpiry hr, presenceExpiry]
    simp [stopped]
  · rw [exec_request_of_running .holdPour hr, ownHoldPour, if_pos inForce]
    rfl
  · rw [exec_request_of_running .releasePour hr]
    rfl
  · rw [exec_arrival_of_running .estopReleased hr, estopReleases, setBeltPermit]
    simp [setEstop, raise]
  · rw [exec_request_of_running .clearStop hr, ownClearStop, if_pos estop]
    rfl
  · rw [exec_request_of_running .clearStop hr, ownClearStop, if_neg (by simp [estop]), stopCleared_eq (s := { s with governor :=
      { s.governor with estopLatch := false, pauseSet := { s.governor.pauseSet with estop := false } } }) swap.1]

/-! ### The periods and the clock (R110, R116, R152) -/

theorem rampLevel_of_ramping {s : State} (h : s.governor.state = .ramping) : rampLevel s = { s with
    governor := { s.governor with
      level := rampedLevel s, dutyStaged := duty (rampedLevel s)
      state := if rampedLevel s = s.governor.ceiling then .running else .ramping } } := by
  rw [rampLevel, h]
  dsimp only [setLevel]
  split <;> simp [h]

theorem rampLevel_of_dribble {s : State} (h : s.governor.state = .dribble) : rampLevel s = { s with
    governor := { s.governor with level := rampedLevel s, dutyStaged := duty (rampedLevel s) } } := by
  rw [rampLevel, h]
  rfl

theorem rampLevel_of_other {s : State} (ramping : s.governor.state ≠ .ramping) (dribble : s.governor.state ≠ .dribble) :
    rampLevel s = s := by
  unfold rampLevel
  split <;> simp_all

/-- Settles O19. -/
theorem periodsAndTheClock : Obligations.PeriodsAndTheClock := by
  intro s hr
  have period : exec .governorPeriodExpiry s = .next (restartPeriod (rampLevel s)) :=
    exec_arrival_of_running .governorPeriodExpiry hr
  have second : exec .secondsTick s = .next { s with accounts := tickSeconds s.accounts } :=
    exec_arrival_of_running .secondsTick hr
  refine ⟨fun ramping => ?_, fun dribble => ?_, fun ramping dribble => ?_, exec_arrival_of_running .feedRatePeriodEnd hr,
    fun low => ?_, fun full => ?_, fun seconds => exec_request_of_running (.setTime seconds) hr⟩
  · rw [period, rampLevel_of_ramping ramping]
    rfl
  · rw [period, rampLevel_of_dribble dribble]
    rfl
  · rw [period, rampLevel_of_other ramping dribble]
    rfl
  · rw [second, tickSeconds, if_pos (show s.accounts.seconds < max32 from low)]
  · rw [second, tickSeconds, if_neg (show ¬ s.accounts.seconds < max32 from full.not_gt)]

end Sys2Proof.Machine
end

section
/-! The carriage: what its requests answer and start, the encoder, the judgement of a stop, its switches and timers, and ESTOP
(sections 4.3 to 4.9, 6.9). -/

namespace Sys2Proof.Machine

open Sys2Proof

/-! ### Switches, timers and Clear Travel Fault (R70, R74, R76 to R78) -/

theorem ownClearTravelFault_of_fault {s : State} (fault : s.travel.state = .fault) : ownClearTravelFault s =
    ({ s with travel := { s.travel with
      faultCause := none, state := if s.travel.referenced then .parked else .unreferenced } }, answerOk []) := by
  rw [ownClearTravelFault, if_pos fault]
  rfl

theorem setLimit_eq (d : Direction) (level : Bool) (s : State) : setLimit d level s = { s with pins :=
    if d = .fore then { s.pins with limFore := level } else { s.pins with limAft := level } } := by
  cases d <;> rfl

/-- Settles O26: each switch and timer comes to the home position, a fault or an abandoned request, or changes its pin only. -/
theorem switchesTimersAndTheFault : Obligations.SwitchesTimersAndTheFault := by
  refine ⟨fun s hr => ⟨fun referencing => ?_, fun closed notHome => ?_, fun d level => ⟨fun hits => ?_, fun misses => ?_⟩,
    fun timer => ?_, fun stopped => ?_, fun timer => ?_, fun stopped => ?_⟩, fun s hr => ⟨fun fault => ?_, fun other => ?_⟩⟩
  · exact (exec_arrival_of_running (.homeCloses true) hr).trans (congrArg Host.Outcome.next (if_pos ⟨rfl, referencing⟩))
  · exact (exec_arrival_of_running (.homeCloses closed) hr).trans (congrArg Host.Outcome.next (if_neg notHome))
  · rw [exec_arrival_of_running (.limitSwitchAsserted d level) hr, setLimit_eq]
    exact congrArg Host.Outcome.next (if_pos hits)
  · rw [exec_arrival_of_running (.limitSwitchAsserted d level) hr, setLimit_eq]
    exact congrArg Host.Outcome.next (if_neg misses)
  · exact (exec_arrival_of_running .travelTimerExpiry hr).trans (congrArg Host.Outcome.next (if_pos timer))
  · exact (exec_arrival_of_running .travelTimerExpiry hr).trans
      (congrArg Host.Outcome.next (if_neg (by simp [stopped])))
  · exact (exec_arrival_of_running .runOutTimerExpiry hr).trans (congrArg Host.Outcome.next (if_pos timer))
  · exact (exec_arrival_of_running .runOutTimerExpiry hr).trans
      (congrArg Host.Outcome.next (if_neg (by simp [stopped])))
  · rw [exec_request_of_running .clearTravelFault hr, ownClearTravelFault_of_fault fault]
  · rw [exec_request_of_running .clearTravelFault hr, ownClearTravelFault, if_neg other]
    rfl

/-! ### The judgement of a stop (R72, R75) -/

/-- The carriage after a stop begun, with the staged duty in force, before the judgement moves it again. -/
def stopped (s : State) : State :=
  { s with travel := { s.travel with
    dutyForce := s.travel.dutyStaged, direction := none, brakeRelease := false, stopping := false } }

/-- The end of the period in which a stop was begun (R72). -/
theorem speedPeriodEnds_judged {s : State} {x : Nat} {d : Direction} (creeping : s.travel.state = .creeping)
    (stopping : s.travel.stopping = true) (target : s.travel.target = some x) (direction : s.travel.direction = some d) :
    speedPeriodEnds s = if s.travel.distance x ≤ s.store.settings.stopBand then inPosition (stopped s)
      else if s.travel.past d x then reversal d (stopped s)
      else creepOn d (stopped s) := by
  have judges : speedPeriodEnds s = stopJudgement { s with travel := { s.travel with dutyForce := s.travel.dutyStaged } } :=
    if_pos ⟨creeping, stopping⟩
  rw [judges, stopJudgement, target, direction]
  rfl

theorem past_iff (t : Travel) (d : Direction) (x : Nat) :
    t.past d x = true ↔ if d = .aft then (x : Int) < t.position else t.position < (x : Int) := by
  cases d <;> simp [Travel.past]

/-- Settles O25: in position within the stop band, past the target a reversal or HUNTING, else creeping on. -/
theorem speedPeriodEndJudgesTheStop : Obligations.SpeedPeriodEndJudgesTheStop := by
  intro s hr
  have run : exec .travelSpeedPeriodEnd s = .next (speedPeriodEnds s) := exec_arrival_of_running .travelSpeedPeriodEnd hr
  refine ⟨fun notStopping => ?_, fun x d creeping stopping target direction => ?_⟩
  · rw [run, speedPeriodEnds]
    exact congrArg Host.Outcome.next (if_neg notStopping)
  have judged := speedPeriodEnds_judged creeping stopping target direction
  have passed := past_iff s.travel d x
  intro distance past back limit
  rw [run]
  refine ⟨fun inside => ?_, fun outside over' few free => ?_, fun outside over' few blocked => ?_,
    fun outside over' many => ?_, fun outside short => ?_⟩
  · rw [judged, if_pos (show s.travel.distance x ≤ _ from inside)]
    rfl
  · rw [judged, if_neg (show ¬ s.travel.distance x ≤ _ from outside.not_ge), if_pos (passed.2 over')]
    cases d <;> exact congrArg Host.Outcome.next ((if_pos few).trans (if_neg (Bool.eq_false_iff.1 free)))
  · rw [judged, if_neg (show ¬ s.travel.distance x ≤ _ from outside.not_ge), if_pos (passed.2 over')]
    cases d <;> exact congrArg Host.Outcome.next ((if_pos few).trans (if_pos blocked))
  · rw [judged, if_neg (show ¬ s.travel.distance x ≤ _ from outside.not_ge), if_pos (passed.2 over')]
    exact congrArg Host.Outcome.next (if_neg many.not_gt)
  · rw [judged, if_neg (show ¬ s.travel.distance x ≤ _ from outside.not_ge), if_neg (mt passed.1 short)]
    rfl

/-! ### Travel requests (R69 to R71) -/

/-- The tests that the travel requests share, in their order (R69). -/
def sharedTests (goTo : Bool) (s : State) : List (Bool × Answer) :=
  [(stepActive s, answerOnly .busy),
   (s.travel.state.inMotion || decide (s.travel.state = .pending), answerOnly .busy),
   (decide (s.travel.state = .fault), answerNotReady .faulted),
   (decide (s.travel.state = .stopped), answerNotReady .stopped),
   (goTo && decide (s.travel.state = .unreferenced), answerNotReady .unreferenced)]

theorem travelRefusal_eq (goTo : Bool) (s : State) : travelRefusal goTo s = firstOf (sharedTests goTo s) := by
  unfold travelRefusal sharedTests
  cases stepActive s
  · cases hs : s.travel.state <;> cases goTo <;> rfl
  · rfl

theorem holdOf_eq_none {b : Nat} (h : ¬ (1 ≤ b ∧ b ≤ 8)) : holdOf b = none := dif_neg h

theorem holdOf_eq_some {b : Nat} {h : Hold} (hb : b = h.val + 1) : holdOf b = some h := by
  subst hb
  simp [holdOf]

/-- The tests of Go To Hold in their order (R69). -/
def goToHoldTests (b : Nat) (s : State) : List (Bool × Answer) :=
  [(decide (¬ (1 ≤ b ∧ b ≤ 8)), answerOnly .badValue)] ++ sharedTests true s ++
    [(decide (∃ h : Hold, b = h.val + 1 ∧ s.travel.activeMap.get h = none), answerOnly .notFound)]

theorem ownGoToHold_refused {b : Nat} {s : State} {a : Answer} (h : FirstTest (goToHoldTests b s) a) :
    ownGoToHold b s = (s, a) := by
  have found := firstOf_of_firstTest h
  rw [goToHoldTests, firstOf_append, firstOf_append, ← travelRefusal_eq] at found
  unfold ownGoToHold
  by_cases inRange : 1 ≤ b ∧ b ≤ 8
  · obtain ⟨k, hk⟩ : ∃ k : Hold, b = k.val + 1 := ⟨⟨b - 1, by omega⟩, by simp; omega⟩
    have absent : (∃ h : Hold, b = h.val + 1 ∧ s.travel.activeMap.get h = none) ↔ s.travel.activeMap.get k = none := by
      refine ⟨?_, fun e => ⟨k, hk, e⟩⟩
      rintro ⟨h, hb, e⟩
      rwa [show k = h from Fin.ext (by omega)]
    rw [holdOf_eq_some hk]
    simp only [inRange, firstOf, absent] at found
    cases refusal : travelRefusal true s with
    | some c => simpa [refusal] using found
    | none =>
      rw [refusal] at found
      by_cases missing : s.travel.activeMap.get k = none
      · simpa [missing] using found
      · simp [missing] at found
  · rw [holdOf_eq_none inRange]
    simpa [inRange, firstOf] using found

/-- The tests of Go To Position in their order; the last is Go To Hold's alone (R69). -/
theorem ownGoToPosition_refused {x : Nat} {s : State} {a : Answer} (h : FirstTest
    ([(decide (s.store.settings.railLength < x), answerOnly .badValue)] ++ sharedTests true s ++
      [(false, answerOnly .notFound)]) a) : ownGoToPosition x s = (s, a) := by
  have found := firstOf_of_firstTest h
  rw [firstOf_append, firstOf_append, ← travelRefusal_eq] at found
  unfold ownGoToPosition
  by_cases beyond : s.store.settings.railLength < x
  · simpa [beyond, firstOf] using found
  · cases refusal : travelRefusal true s <;> simp_all [firstOf]

theorem ownReferenceTravel_refused {s : State} {a : Answer} (h : FirstTest
    ([(false, answerOnly .badValue)] ++ sharedTests false s ++ [(false, answerOnly .notFound)]) a) :
    ownReferenceTravel s = (s, a) := by
  have found := firstOf_of_firstTest h
  rw [firstOf_append, firstOf_append, ← travelRefusal_eq] at found
  unfold ownReferenceTravel
  cases refusal : travelRefusal false s <;> simp_all [firstOf]

/-- A travel request that no test of R69 refuses. -/
inductive Accepted (s : State) : Instr → TravelRequest → Prop
  | goToHold {b : Byte} {h : Hold} (hold : b.toNat = h.val + 1) (entry : (s.travel.activeMap.get h).isSome = true) :
    Accepted s (.goToHold b) (.goToHold h)
  | goToPosition {p : BitVec 32} (onRail : p.toNat ≤ s.store.settings.railLength) :
    Accepted s (.goToPosition p) (.goToPosition p.toNat)
  | reference : Accepted s .referenceTravel .reference

theorem travelRefusal_of_parked {s : State} (free : stepActive s = false) (parked : s.travel.state = .parked)
    (goTo : Bool) : travelRefusal goTo s = none := by
  simp [travelRefusal, free, parked]

/-- An accepted travel request starts its motion at once or waits in PENDING (R70). -/
theorem exec_travel {s : State} {c : Instr} {r : TravelRequest} (hr : s.phase = .running) (h : Accepted s c r)
    (open_ : travelRefusal (decide (r ≠ .reference)) s = none) :
    exec c s = .next { (acceptTravel r s).1 with answer := some (.cab, (acceptTravel r s).2) } := by
  cases h with
  | @goToHold b k hold entry =>
    rw [exec_request_of_running (.goToHold b) hr, ownGoToHold, holdOf_eq_some hold]
    simp only [show travelRefusal true s = none from open_]
    rw [if_neg (by simpa using Option.isSome_iff_ne_none.1 entry)]
  | @goToPosition p onRail =>
    rw [exec_request_of_running (.goToPosition p) hr, ownGoToPosition, if_neg onRail.not_gt]
    simp only [show travelRefusal true s = none from open_]
  | reference =>
    rw [exec_request_of_running .referenceTravel hr, ownReferenceTravel]
    simp only [show travelRefusal false s = none from open_]

/-- A request accepted behind an empty belt, or with the diverter at REJECT (R70). -/
theorem acceptTravel_starts {s : State} (r : TravelRequest) (now : s.weigher.lineTotal = 0 ∨ s.travel.diverter = .reject) :
    acceptTravel r s = (startMotion { s with travel := { s.travel with request := some r } },
      answerOk [(startMotion { s with travel := { s.travel with request := some r } }).travel.state.number]) := by
  rw [acceptTravel]
  simp only [if_pos now]

theorem acceptTravel_waits {s : State} (r : TravelRequest) (loaded : s.weigher.lineTotal ≠ 0)
    (normal : s.travel.diverter = .normal) : acceptTravel r s = ({ s with travel := { s.travel with
      request := some r, beforePending := s.travel.state, state := .pending, runOutTimer := some 0 } }, answerOk [3]) := by
  rw [acceptTravel]
  simp only [if_neg (show ¬ (s.weigher.lineTotal = 0 ∨ s.travel.diverter = .reject) by simp [loaded, normal])]
  rfl

/-- A motion begun: no run-out timer, no reversals and no stop yet (R71). -/
def motionBegun (s : State) : State :=
  { s with travel := { s.travel with runOutTimer := none, reversals := 0, stopping := false } }

/-- The motion begun for a request taken at once. -/
abbrev begunFor (r : TravelRequest) (s : State) : State := motionBegun { s with travel := { s.travel with request := some r } }

/-- What a Go To request moves to: the middle of the hold's entry, or the position (R71). -/
inductive Aims (s : State) : TravelRequest → Nat → Prop
  | hold {h : Hold} {e : Hatch} (entry : s.travel.activeMap.get h = some e) : Aims s (.goToHold h) ((e.fore + e.aft) / 2)
  | position (x : Nat) : Aims s (.goToPosition x) x

theorem startMotion_goTo {s : State} {r : TravelRequest} {x : Nat} (request : s.travel.request = some r) (aims : Aims s r x) :
    startMotion s = startGoTo x (motionBegun s) := by
  cases aims with
  | hold entry => simp only [startMotion, motionBegun, request, entry]
  | position x => simp only [startMotion, motionBegun, request]

theorem startMotion_reference {s : State} (request : s.travel.request = some .reference) :
    startMotion s = startReference (motionBegun s) := by
  simp only [startMotion, motionBegun, request]

theorem startMotion_vanished {s : State} {h : Hold} (request : s.travel.request = some (.goToHold h))
    (absent : s.travel.activeMap.get h = none) : startMotion s = abandonPending (motionBegun s) := by
  simp only [startMotion, motionBegun, request, absent]

/-- The limit switch ahead of a Go To (R71). -/
theorem limit_toward (s : State) (x : Nat) : s.pins.limit (s.travel.toward x) =
    if s.travel.position < x then s.pins.limAft else s.pins.limFore := by
  unfold Travel.toward
  split <;> rfl

/-- A travel request that starts its motion at once: the state after it, and the answer (R70). -/
theorem exec_travel_now {s : State} {c : Instr} {r : TravelRequest} (hr : s.phase = .running) (h : Accepted s c r)
    (open_ : travelRefusal (decide (r ≠ .reference)) s = none)
    (now : s.weigher.lineTotal = 0 ∨ s.travel.diverter = .reject) :
    exec c s = .next { startMotion { s with travel := { s.travel with request := some r } } with answer := some (.cab,
      answerOk [(startMotion { s with travel := { s.travel with request := some r } }).travel.state.number]) } := by
  rw [exec_travel hr h open_, acceptTravel_starts r now]

theorem exec_travel_pending {s : State} {c : Instr} {r : TravelRequest} (hr : s.phase = .running) (h : Accepted s c r)
    (open_ : travelRefusal (decide (r ≠ .reference)) s = none) (loaded : s.weigher.lineTotal ≠ 0)
    (normal : s.travel.diverter = .normal) :
    exec c s = .next { s with
      travel := { s.travel with
        request := some r, beforePending := s.travel.state, state := .pending, runOutTimer := some 0 }
      answer := some (.cab, answerOk [3]) } := by
  rw [exec_travel hr h open_, acceptTravel_waits r loaded normal]

/-- A Go To that is accepted at once (R71). -/
theorem exec_goTo_now {s : State} {c : Instr} {r : TravelRequest} {x : Nat} (hr : s.phase = .running) (h : Accepted s c r)
    (aims : Aims s r x) (open_ : travelRefusal true s = none) (now : s.weigher.lineTotal = 0 ∨ s.travel.diverter = .reject) :
    exec c s = .next { startGoTo x (begunFor r s) with
      answer := some (.cab, answerOk [(startGoTo x (begunFor r s)).travel.state.number]) } := by
  have goTo : decide (r ≠ .reference) = true := by cases aims <;> rfl
  have aims' : Aims { s with travel := { s.travel with request := some r } } r x := by
    cases aims with
    | hold entry => exact .hold entry
    | position x => exact .position x
  rw [exec_travel_now hr h (goTo ▸ open_) now, startMotion_goTo (s := { s with
    travel := { s.travel with request := some r } }) rfl aims']

section
variable {x : Nat} {s : State}

theorem startGoTo_near (inside : s.travel.distance x ≤ s.store.settings.stopBand) :
    startGoTo x s = raiseTravelDone false { s with travel :=
      { s.travel with target := some x, state := .parked, request := none } } :=
  if_pos inside

variable (outside : ¬ s.travel.distance x ≤ s.store.settings.stopBand)
include outside

theorem startGoTo_blocked (blocked : s.pins.limit (s.travel.toward x) = true) :
    startGoTo x s = enterFault .limit { s with travel := { s.travel with target := some x } } :=
  (if_neg outside).trans (if_pos blocked)

variable (clear : s.pins.limit (s.travel.toward x) = false)
include clear

theorem startGoTo_far (far : s.store.settings.creepDistance < s.travel.distance x) :
    startGoTo x s = { s with travel := { s.travel with
      target := some x, travelTimer := some 0, direction := some (s.travel.toward x), brakeRelease := true
      dutyStaged := s.store.settings.cruiseDuty, state := .moving } } :=
  (if_neg outside).trans ((if_neg (Bool.eq_false_iff.1 clear)).trans (if_pos far))

theorem startGoTo_creeps (near : ¬ s.store.settings.creepDistance < s.travel.distance x) :
    startGoTo x s = { s with travel := { s.travel with
      target := some x, travelTimer := some 0, direction := some (s.travel.toward x), brakeRelease := true
      dutyStaged := s.store.settings.creepDuty, state := .creeping } } :=
  (if_neg outside).trans ((if_neg (Bool.eq_false_iff.1 clear)).trans (if_neg near))

end

section
variable {s : State}

theorem startReference_blocked (blocked : s.pins.limAft = true) :
    startReference s = enterFault .limit { s with travel := { s.travel with target := none } } :=
  if_pos blocked

variable (clear : s.pins.limAft = false)
include clear

theorem startReference_home (home : s.pins.home = true) :
    startReference s = homeSet { s with travel := { s.travel with target := none } } :=
  (if_neg (Bool.eq_false_iff.1 clear)).trans (if_pos home)

theorem startReference_runs (away : s.pins.home = false) :
    startReference s = { s with travel := { s.travel with
      target := none, travelTimer := some 0, direction := some .aft, brakeRelease := true, referenced := false
      spoutOver := none, dutyStaged := s.store.settings.creepDuty, state := .referencing } } :=
  (if_neg (Bool.eq_false_iff.1 clear)).trans (if_neg (Bool.eq_false_iff.1 away))

end

/-- A request answered with the state that the carriage is in after the swap test. -/
theorem swapTest_answered (s : State) :
    { swapTest s with answer := some (.cab, answerOk [(swapTest s).travel.state.number]) } =
      swapTest { s with answer := some (.cab, answerOk [s.travel.state.number]) } := by
  rw [swapTest_travel_state]
  exact (swapTest_answer s _).symm

/-- Settles O21: a refusal is the first test of R69 that applies; an accepted request starts its motion in one of the ways
of R71. -/
theorem travelRequestsStartTheirMotion : Obligations.TravelRequestsStartTheirMotion := by
  refine ⟨fun s a hr => ⟨fun b first => ?_, fun p first => ?_, fun first => ?_⟩, fun s c r x hr free parked now kinds => ?_,
    fun s hr free atRest now => ?_⟩
  · rw [exec_request_of_running (.goToHold b) hr, ownGoToHold_refused first]
  · rw [exec_request_of_running (.goToPosition p) hr, ownGoToPosition_refused first]
  · rw [exec_request_of_running .referenceTravel hr, ownReferenceTravel_refused first]
  · have accepted : Accepted s c r ∧ Aims s r x := by
      obtain ⟨b, h, e, rfl, hold, entry, rfl, rfl⟩ | ⟨p, rfl, onRail, rfl, rfl⟩ := kinds
      · exact ⟨.goToHold hold (by simp [entry]), .hold entry⟩
      · exact ⟨.goToPosition onRail, .position _⟩
    have run := exec_goTo_now hr accepted.1 accepted.2 (travelRefusal_of_parked free parked true) now
    intro distance direction limit started
    have ahead : s.pins.limit (s.travel.toward x) = limit := limit_toward s x
    refine ⟨fun inside => ?_, fun outside blocked => ?_, fun outside clear far => ?_, fun outside clear near => ?_⟩
    · rw [run, startGoTo_near (s := begunFor r s) (show s.travel.distance x ≤ _ from inside)]
      rfl
    · rw [run, startGoTo_blocked (s := begunFor r s) (show ¬ s.travel.distance x ≤ _ from outside.not_ge) (ahead.trans blocked),
        enterFault, swapTest_answered]
      rfl
    · rw [run, startGoTo_far (s := begunFor r s) (show ¬ s.travel.distance x ≤ _ from outside.not_ge) (ahead.trans clear) far]
      rfl
    · rw [run, startGoTo_creeps (s := begunFor r s) (show ¬ s.travel.distance x ≤ _ from outside.not_ge) (ahead.trans clear)
        (show ¬ _ < s.travel.distance x from near.not_gt)]
      rfl
  · have refusal : travelRefusal false s = none := by
      obtain e | e := atRest <;> simp [travelRefusal, free, e]
    have run := exec_travel_now hr .reference refusal now
    rw [startMotion_reference (s := { s with travel := { s.travel with request := some .reference } }) rfl] at run
    refine ⟨fun blocked => ?_, fun clear home => ?_, fun clear away => ?_⟩
    · rw [run, startReference_blocked (s := begunFor .reference s) blocked, enterFault, swapTest_answered]
      rfl
    · rw [run, startReference_home (s := begunFor .reference s) clear home, homeSet, swapTest_answered]
      rfl
    · rw [run, startReference_runs (s := begunFor .reference s) clear away]
      rfl

/-! ### Waiting in PENDING and the diverter (R70, R71, R83) -/

/-- The diverter's value set. -/
def diverted (v : Diverter) (s : State) : State := { s with travel := { s.travel with diverter := v } }

theorem divert_eq (v : Diverter) (s : State) : divert v s =
    if v = .reject ∧ s.travel.state = .pending then startMotion (diverted v s) else diverted v s := rfl

theorem ownSetDiverter_refused {b : Nat} {v : Diverter} {s : State} (value : diverterOf b = some v)
    (h : stepActive s = true ∨ (v = .normal ∧ s.travel.state.inMotion = true ∧ s.weigher.lineTotal ≠ 0)) :
    ownSetDiverter b s = (s, answerOnly .busy) := by
  rw [ownSetDiverter, value]
  dsimp only
  by_cases active : stepActive s = true
  · rw [if_pos active]
  · rw [if_neg active, if_pos (h.resolve_left active)]

theorem ownSetDiverter_accepted {b : Nat} {v : Diverter} {s : State} (value : diverterOf b = some v)
    (free : stepActive s = false) (quiet : ¬ (v = .normal ∧ s.travel.state.inMotion = true ∧ s.weigher.lineTotal ≠ 0)) :
    ownSetDiverter b s = (divert v s, answerOk []) := by
  rw [ownSetDiverter, value]
  dsimp only
  rw [if_neg (Bool.eq_false_iff.1 free), if_neg quiet]

theorem diverterOf_eq_none {b : Byte} (zero : b ≠ 0) (one : b ≠ 1) : diverterOf b.toNat = none := by
  have h0 : b.toNat ≠ 0 := fun h => zero (BitVec.eq_of_toNat_eq h)
  have h1 : b.toNat ≠ 1 := fun h => one (BitVec.eq_of_toNat_eq h)
  rw [diverterOf, if_neg h0, if_neg h1]

/-- A motion that starts does not look at the state that the carriage is in. -/
theorem startMotion_of_state {s : State} {r : TravelRequest} {x : Nat} (request : s.travel.request = some r)
    (aims : r = .reference ∨ Aims s r x) (q : TravelState) :
    startMotion { s with travel := { s.travel with state := q } } = startMotion s := by
  obtain rfl | aims := aims
  · rw [startMotion_reference request, startMotion_reference (s := { s with travel := { s.travel with state := q } }) request]
    rfl
  · have aims' : Aims { s with travel := { s.travel with state := q } } r x := by
      cases aims with
      | hold entry => exact .hold entry
      | position x => exact .position x
    rw [startMotion_goTo request aims, startMotion_goTo (s := { s with travel := { s.travel with state := q } }) request aims']
    rfl

/-- Settles O22: an accepted request waits over a loaded line, and Set Diverter to REJECT starts it as the request itself would
have been started, since a motion does not look at the state that it starts from. -/
theorem waitingTravelAndTheDiverter : Obligations.WaitingTravelAndTheDiverter := by
  intro s hr
  have run (b : Byte) : exec (.setDiverter b) s = .next { (ownSetDiverter b.toNat s).1 with
      answer := some (.cab, (ownSetDiverter b.toNat s).2) } := exec_request_of_running (.setDiverter b) hr
  refine ⟨fun b zero one => ?_, fun active => ⟨?_, ?_⟩, fun free => ?_⟩
  · rw [run, ownSetDiverter, diverterOf_eq_none zero one]
    rfl
  · rw [run, ownSetDiverter_refused rfl (.inl active)]
    rfl
  · rw [run, ownSetDiverter_refused rfl (.inl active)]
    rfl
  have rejects : exec (.setDiverter 1) s = .next { divert .reject s with answer := some (.cab, answerOk []) } := by
    rw [run, ownSetDiverter_accepted (v := .reject) rfl free nofun]
  have starts (pending : s.travel.state = .pending) : exec (.setDiverter 1) s =
      .next { startMotion (diverted .reject s) with answer := some (.cab, answerOk []) } := by
    rw [rejects, divert_eq, if_pos ⟨rfl, pending⟩]
  refine ⟨fun c r loaded normal kinds => ?_, fun moves => ?_, starts, fun c r pending request kinds => ?_,
    fun h pending request absent => ?_, fun quiet => ?_, fun moving loaded => ?_⟩
  · have refusal : Accepted s c r ∧ travelRefusal (decide (r ≠ .reference)) s = none := by
      obtain ⟨b, h, rfl, hold, entry, rfl, parked⟩ | ⟨p, rfl, onRail, rfl, parked⟩ | ⟨rfl, rfl, atRest⟩ := kinds
      · exact ⟨.goToHold hold entry, travelRefusal_of_parked free parked _⟩
      · exact ⟨.goToPosition onRail, travelRefusal_of_parked free parked _⟩
      · refine ⟨.reference, ?_⟩
        obtain e | e := atRest <;> simp [travelRefusal, free, e]
    exact exec_travel_pending hr refusal.1 refusal.2 loaded normal
  · rw [rejects, divert_eq, if_neg (fun h => moves h.2)]
    rfl
  · let parked : State := { s with travel := { s.travel with state := .parked, diverter := .reject } }
    have accepted : Accepted parked c r ∧ ∃ x, r = .reference ∨ Aims (diverted .reject s) r x := by
      obtain ⟨b, h, rfl, hold, entry, rfl⟩ | ⟨p, rfl, onRail, rfl⟩ | ⟨rfl, rfl⟩ := kinds
      · obtain ⟨e, he⟩ := Option.isSome_iff_exists.1 entry
        exact ⟨.goToHold hold entry, _, .inr (.hold he)⟩
      · exact ⟨.goToPosition onRail, _, .inr (.position _)⟩
      · exact ⟨.reference, 0, .inl rfl⟩
    obtain ⟨taken, x, aims⟩ := accepted
    have anew := exec_travel_now (s := parked) hr taken (travelRefusal_of_parked (s := parked) free rfl _) (.inr rfl)
    have same : { parked with travel := { parked.travel with request := some r } } =
        { diverted .reject s with travel := { (diverted .reject s).travel with state := .parked } } := by
      rw [← request]
      rfl
    rw [same, startMotion_of_state (s := diverted .reject s) request aims .parked] at anew
    exact ⟨_, anew, starts pending⟩
  · rw [starts pending, startMotion_vanished (s := diverted .reject s) request absent]
    rfl
  · rw [run, ownSetDiverter_accepted (v := .normal) rfl free (fun h => quiet h.2)]
    rfl
  · rw [run, ownSetDiverter_refused (v := .normal) rfl (.inr ⟨rfl, moving, loaded⟩)]
    rfl

end Sys2Proof.Machine
end

section
/-! The spout-over hold and the encoder (sections 4.3, 4.7, 4.9, 6.8). -/

namespace Sys2Proof.Machine

open Sys2Proof

/-! ### The spout-over hold (R66) -/

/-- A position inside the pour window of an entry (R66). -/
abbrev Hatch.Pours (e : Hatch) (m : Nat) (x : Int) : Prop := (e.fore : Int) + m ≤ x ∧ x ≤ (e.aft : Int) - m

theorem covers_iff (e : Hatch) (m : Nat) (x : Int) : e.covers m x = true ↔ e.Pours m x := by
  rw [Hatch.covers, Bool.and_eq_true]
  exact and_congr ⟨of_decide_eq_true, decide_eq_true⟩ ⟨of_decide_eq_true, decide_eq_true⟩

theorem over_eq_some {page : HatchPage} {m : Nat} {x : Int} {h : Hold} (over' : page.over m x = some h) :
    ∃ e, page.get h = some e ∧ e.Pours m x := by
  have found := List.find?_some over'
  cases he : page.get h with
  | none => simp [he] at found
  | some e => exact ⟨e, rfl, (covers_iff e m x).1 (by simpa [he] using found)⟩

theorem not_pours_of_over_none {page : HatchPage} {m : Nat} {x : Int} (over' : page.over m x = none) {h : Hold} {e : Hatch}
    (entry : page.get h = some e) : ¬ e.Pours m x := by
  have nothing := List.find?_eq_none.1 over' h (mem_allHolds h)
  rw [entry] at nothing
  exact mt (covers_iff e m x).2 nothing

/-- Two windows that a position lies in overlap. -/
theorem overlaps_of_pours {e f : Hatch} {m : Nat} {x : Int} (he : e.Pours m x) (hf : f.Pours m x) :
    e.overlaps f m = true :=
  decide_eq_true ((max_le he.1 hf.1).trans (le_min he.2 hf.2))

/-- On a page whose windows share no position, the hold of a window is the only one (R66, R67). -/
theorem over_of_pours {page : HatchPage} {m : Nat} {x : Int} (good : page.windowsOk m = true) {h : Hold} {e : Hatch}
    (entry : page.get h = some e) (pours : e.Pours m x) : page.over m x = some h := by
  cases over' : page.over m x with
  | none => exact absurd pours (not_pours_of_over_none over' entry)
  | some k =>
    obtain ⟨f, hf, pours'⟩ := over_eq_some over'
    by_contra other
    have apart := List.any_eq_false.1 (windowsOk_entry good entry).2 k (mem_allHolds k)
    have ne : k ≠ h := fun e => other (congrArg some e)
    exact apart (by simp [ne, hf, overlaps_of_pours pours pours'])

/-! ### An encoder count (R72, R81, R82) -/

/-- The carriage one count on, with the spout-over hold recomputed. -/
def counted (d : Direction) (s : State) : State := { s with travel := { s.travel with
  position := countedPosition s.travel.position d
  spoutOver := spoutOverNow { s.travel with position := countedPosition s.travel.position d } s.store.settings.pourMargin } }

/-- The count at the governor, which may lose the position (R82). -/
def noticed (d : Direction) (s : State) : State :=
  if movedAway s.travel.spoutOver (counted d s) then positionLost (counted d s) else counted d s

theorem countEncoder_eq (d : Direction) (s : State) : countEncoder d s =
    if (noticed d s).travel.state = .moving ∨ (noticed d s).travel.state = .creeping then profileTest (noticed d s)
    else noticed d s := rfl

theorem countEncoder_of_stayed {d : Direction} {s : State} (stays : movedAway s.travel.spoutOver (counted d s) = false) :
    countEncoder d s = if s.travel.state = .moving ∨ s.travel.state = .creeping then profileTest (counted d s)
      else counted d s := by
  rw [countEncoder_eq, noticed, if_neg (Bool.eq_false_iff.1 stays)]
  rfl

theorem countEncoder_of_left {d : Direction} {s t : State} (left : movedAway s.travel.spoutOver (counted d s) = true)
    (rest : ¬ (s.travel.state = .moving ∨ s.travel.state = .creeping)) (lost : positionLost (counted d s) = t)
    (still : t.travel.state = s.travel.state) : countEncoder d s = t := by
  rw [countEncoder_eq, noticed, if_pos left, lost, still, if_neg rest]

theorem movedAway_of_free {d : Direction} {s : State} (free : stepActive s = false) (was : Option Hold) :
    movedAway was (counted d s) = false := by
  have none : activeHold (counted d s) = none := (activeHold_eq_none _).2 free
  rw [movedAway, none]

theorem movedAway_iff {d : Direction} {s : State} {st : Step} (active : activeStep s.plan = some st) :
    movedAway s.travel.spoutOver (counted d s) = true ↔
      s.travel.spoutOver = some st.hold ∧ (counted d s).travel.spoutOver ≠ some st.hold := by
  have hold : activeHold (counted d s) = some st.hold := congrArg (Option.map Step.hold) active
  rw [movedAway, hold]
  simp

theorem positionLost_of_pouring {s : State} (pouring : s.governor.state.feeding = true ∨ s.governor.state = .paused) :
    positionLost s = cutoff .position s := by
  unfold positionLost
  cases hs : s.governor.state <;> simp_all [GovernorState.feeding]

theorem positionLost_of_quiet {s : State} (quiet : s.governor.state = .cutoff ∨ s.governor.state = .idle) :
    positionLost s = s := by
  obtain e | e := quiet <;> simp [positionLost, e]

/-- The profile test away from the creep distance and the stop band, and within them (R72). -/
theorem profileTest_moving {s : State} {y : Nat} (moving : s.travel.state = .moving) (target : s.travel.target = some y) :
    profileTest s = if s.travel.distance y ≤ s.store.settings.creepDistance then
      { s with travel := { s.travel with dutyStaged := s.store.settings.creepDuty, state := .creeping } } else s := by
  simp [profileTest, moving, target]

theorem profileTest_creeping {s : State} {y : Nat} (creeping : s.travel.state = .creeping) (target : s.travel.target = some y) :
    profileTest s = if s.travel.stopping = false ∧ s.travel.distance y ≤ s.store.settings.stopBand then
      { s with travel := { s.travel with dutyStaged := 0, stopping := true } } else s := by
  simp [profileTest, creeping, target]

/-- Settles O24: a count with no step ACTIVE, or that stays with its hold, moves the carriage alone; one that takes the spout off
the ACTIVE step's hold is a position lost, which cuts off a step being fed or PAUSED. -/
theorem encoderCountMovesThePosition : Obligations.EncoderCountMovesThePosition := by
  refine ⟨fun t m => ⟨fun h over' => ?_, fun over' referenced h e entry => ?_, fun good referenced h e entry low high => ?_⟩,
    fun s d hr => ?_⟩
  · unfold spoutOverNow at over'
    split at over'
    next referenced => exact ⟨referenced, over_eq_some over'⟩
    next => cases over'
  · rw [spoutOverNow, if_pos referenced] at over'
    exact not_pours_of_over_none over' entry
  · rw [spoutOverNow, if_pos referenced]
    exact over_of_pours good entry ⟨low, high⟩
  intro x over'
  have run : exec (.encoderCount d) s = .next (countEncoder d s) := exec_arrival_of_running (.encoderCount d) hr
  have moved : counted d s = { s with travel := { s.travel with position := x, spoutOver := over' } } := by
    cases d <;> rfl
  refine ⟨fun free notMoving notCreeping => ?_, fun y free moving target => ?_, fun y free creeping target => ?_,
    fun st active notMoving notCreeping => ?_⟩
  · rw [run, countEncoder_of_stayed (movedAway_of_free free _), if_neg (by simp [notMoving, notCreeping]), moved]
  · rw [run, countEncoder_of_stayed (movedAway_of_free free _), if_pos (.inl moving),
      profileTest_moving (s := counted d s) moving target, moved]
    exact congrArg Host.Outcome.next (apply_ite (fun t => { s with travel := t }) _ _ _).symm
  · rw [run, countEncoder_of_stayed (movedAway_of_free free _), if_pos (.inr creeping),
      profileTest_creeping (s := counted d s) creeping target, moved]
    exact congrArg Host.Outcome.next (apply_ite (fun t => { s with travel := t }) _ _ _).symm
  have away := movedAway_iff (d := d) active
  rw [moved] at away
  have rest : ¬ (s.travel.state = .moving ∨ s.travel.state = .creeping) := by simp [notMoving, notCreeping]
  refine ⟨fun stays => ?_, fun was now feeding => ?_, fun was now quiet => ?_, fun was now paused goesOn => ?_,
    fun was now paused clear tail => ?_⟩
  · have stays' : movedAway s.travel.spoutOver (counted d s) = false := by
      rw [Bool.eq_false_iff, Ne, moved, away]
      rintro ⟨was, now⟩
      exact stays.elim (fun same => now (same.trans was)) (fun other => other was)
    rw [run, countEncoder_of_stayed stays', if_neg rest, moved]
  all_goals have left : movedAway s.travel.spoutOver (counted d s) = true := by rw [moved, away]; exact ⟨was, now⟩
  · have lost := (positionLost_of_pouring (s := counted d s) (.inl feeding)).trans (cutoff_of_feeding _ feeding)
    rw [recordedCutoff_eq (by decide), Governor.cutOff_of_feeding (g := (counted d s).governor) feeding, moved] at lost
    rw [run, countEncoder_of_left left rest lost rfl]
    rfl
  · rw [run, countEncoder_of_left left rest (positionLost_of_quiet quiet) rfl, moved]
  · have lost := (positionLost_of_pouring (s := counted d s) (.inr paused)).trans
      (cutoff_of_running_on _ fun both => goesOn both.2)
    rw [recordedCutoff_eq (by decide), cutOff_of_paused (s := counted d s) paused, moved] at lost
    rw [run, countEncoder_of_left left rest lost rfl]
    rfl
  · have lost := (positionLost_of_pouring (s := counted d s) (.inr paused)).trans
      (cutoff_held (q := .position) rfl paused ⟨clear, tail⟩ active)
    rw [moved] at lost
    rw [run, countEncoder_of_left left rest lost (swapTest_travel_state _)]
    rfl

end Sys2Proof.Machine
end

section
/-! ESTOP asserted: the governor's pause and the carriage's stop (sections 4.8, 6.5, 6.9). -/

namespace Sys2Proof.Machine

open Sys2Proof

/-- A pause cause changes the governor, and raises FEED_PAUSED exactly when it pauses feed or adds a reason (R123). -/
theorem pauseCause_eq (r : PauseReason) (s : State) : pauseCause r s = { s with
    governor := (pauseCause r s).governor
    events := if s.governor.state.feeding = true ∨ (s.governor.state = .paused ∧ s.governor.pauseSet.has r = false) then
      s.events.raise (.feedPaused r) else s.events } := by
  cases hs : s.governor.state with
  | idle => rw [pauseCause_idle r s hs, if_neg (by simp [GovernorState.feeding])]
  | cutoff => rw [pauseCause_cutoff r s hs, if_neg (by simp [GovernorState.feeding])]
  | paused =>
    rw [pauseCause_paused r s hs]
    cases s.governor.pauseSet.has r <;> simp [GovernorState.feeding]
  | ramping | running | dribble =>
    have feeding : s.governor.state.feeding = true := by rw [hs]; rfl
    rw [pauseCause_feeding r s feeding, if_pos (.inl rfl)]

/-- ESTOP taken by the governor, before its pause: BELT_PERMIT, the latch and the event (R132). -/
def alarmed (s : State) : State := { s with
  pins := { s.pins with estop := true }
  governor := { s.governor with beltPermit := false, estopLatch := true }
  events := s.events.raise (.estop false) }

theorem estopAsserts_eq (s : State) : estopAsserts (setEstop true s) = travelStop (pauseCause .estop (alarmed s)) := by
  have belt : (s.dust.stage != .trip && !true) = false := by simp
  have set : raise (.estop false) { setBeltPermit (setEstop true s) with governor :=
      { (setBeltPermit (setEstop true s)).governor with estopLatch := true } } = alarmed s := by
    unfold setBeltPermit setEstop raise alarmed
    dsimp only
    rw [belt]
  unfold estopAsserts
  dsimp only
  rw [set]

/-- The carriage brought to rest in STOPPED, its work abandoned; nothing else of it changes (R80). -/
def Travel.halted (t : Travel) : Travel := { t with
  direction := none, brakeRelease := false, dutyStaged := 0, stopping := false, travelTimer := none
  runOutTimer := none, faultCause := none, request := none, state := .stopped }

theorem travelStop_eq {s : State} (moving : s.travel.state ≠ .stopped) : travelStop s = swapTest { s with
    travel := s.travel.halted
    events := if s.travel.state.inMotion = true ∨ s.travel.state = .pending then
      s.events.raise (.travelDone true s.travel.spoutOver) else s.events } := by
  unfold travelStop
  rw [if_neg moving]
  simp only [Bool.or_eq_true, beq_iff_eq]
  split <;> rfl

/-- A swap is due at the stop: it is pending, the carriage was not STOPPED already, and nothing else holds it up (R63, R80). -/
abbrev SwapsAtStop (s : State) : Prop :=
  s.travel.swapPending = true ∧ s.travel.state ≠ .stopped ∧ stepActive s = false ∧ s.weigher.lineTotal = 0

theorem swapReady_halted (s : State) (e : Events) : swapReady { s with travel := s.travel.halted, events := e } =
    (!stepActive s && s.weigher.lineTotal == 0) := rfl

theorem travelStop_of_swaps {s : State} (swaps : SwapsAtStop s) : travelStop s = takeSwap { s with
    travel := s.travel.halted
    events := if s.travel.state.inMotion = true ∨ s.travel.state = .pending then
      s.events.raise (.travelDone true s.travel.spoutOver) else s.events } := by
  obtain ⟨pending, moving, free, clear⟩ := swaps
  rw [travelStop_eq moving]
  obtain ⟨-, -, e⟩ | ⟨not, -⟩ := swapTest_cases { s with
    travel := s.travel.halted
    events := if s.travel.state.inMotion = true ∨ s.travel.state = .pending then
      s.events.raise (.travelDone true s.travel.spoutOver) else s.events }
  · exact e
  · refine absurd ⟨pending, ?_⟩ not
    rw [swapReady_halted, free, clear]
    rfl

theorem travelStop_of_not_swaps {s : State} (stays : ¬ SwapsAtStop s) : travelStop s = { s with
    travel := if s.travel.state = .stopped then s.travel else s.travel.halted
    events := if s.travel.state.inMotion = true ∨ s.travel.state = .pending then
      s.events.raise (.travelDone true s.travel.spoutOver) else s.events } := by
  by_cases already : s.travel.state = .stopped
  · rw [travelStop, if_pos already, if_pos already, if_neg (by simp [already, TravelState.inMotion])]
  · rw [travelStop_eq already, if_neg already]
    obtain ⟨pending, ready, -⟩ | ⟨-, e⟩ := swapTest_cases { s with
      travel := s.travel.halted
      events := if s.travel.state.inMotion = true ∨ s.travel.state = .pending then
        s.events.raise (.travelDone true s.travel.spoutOver) else s.events }
    · rw [swapReady_halted, Bool.and_eq_true, Bool.not_eq_true', beq_iff_eq] at ready
      exact absurd ⟨pending, already, ready⟩ stays
    · exact e

/-- Events raised under conditions, one after the other. -/
theorem foldl_raise_ite (p : Prop) [Decidable p] (e : Event) (x : Events) :
    (if p then [e] else []).foldl (fun x e => x.raise e) x = if p then x.raise e else x := by
  split <;> rfl

/-- The governor at ESTOP, by its state (R123, R132). -/
theorem alarmed_governor (s : State) :
    let g := (alarmed s).governor
    (s.governor.state.feeding = true → (pauseCause .estop (alarmed s)).governor = g.pausedFor .estop (ceilingLeft s)) ∧
    (s.governor.state = .paused →
      (pauseCause .estop (alarmed s)).governor = { g with pauseSet := { s.governor.pauseSet with estop := true } }) ∧
    (s.governor.state = .cutoff → (pauseCause .estop (alarmed s)).governor = { g with clean := false }) ∧
    (s.governor.state = .idle → (pauseCause .estop (alarmed s)).governor = g) := by
  refine ⟨fun feeding => ?_, fun paused => ?_, fun cut => ?_, fun idle => ?_⟩
  · rw [pauseCause_feeding _ (alarmed s) feeding]
    rfl
  · rw [pauseCause_paused _ (alarmed s) paused]
    cases had : s.governor.pauseSet.estop with
    | true =>
      have set : s.governor.pauseSet = { s.governor.pauseSet with estop := true } := by rw [← had]
      rw [if_pos (show (alarmed s).governor.pauseSet.has .estop = true from had), ← set]
      rfl
    | false =>
      rw [if_neg (show ¬ (alarmed s).governor.pauseSet.has .estop = true from Bool.eq_false_iff.1 had)]
      rfl
  · rw [pauseCause_cutoff _ (alarmed s) cut]
  · rw [pauseCause_idle _ (alarmed s) idle]

/-- Settles O20: the governor pauses for ESTOP, the carriage is halted, and the swap test finds what it needs exactly when no step
is ACTIVE and the line is empty. -/
theorem estopStopsTheLoader : Obligations.EstopStopsTheLoader := by
  intro s hr g rest other swaps swapped
  have run : exec .estopAsserted s = .next (travelStop (pauseCause .estop (alarmed s))) :=
    (exec_arrival_of_running .estopAsserted hr).trans (congrArg Host.Outcome.next (estopAsserts_eq s))
  obtain ⟨feeding, paused, cut, idle⟩ := alarmed_governor s
  rw [pauseCause_eq] at run
  generalize (pauseCause .estop (alarmed s)).governor = governor at run feeding paused cut idle
  simp only [List.foldl_append, foldl_raise_ite, List.foldl_cons, List.foldl_nil]
  by_cases due : swaps
  · rw [travelStop_of_swaps (by exact due), takeSwap_eq] at run
    refine ⟨_, run, rfl, feeding, paused, cut, idle, fun stays => absurd due stays, fun _ => ⟨?_, rfl⟩, ?_⟩
    · have halts : rest = s.travel.halted := if_neg due.2.1
      simp only [swapped, halts]
      rfl
    · rw [if_pos due]
      rfl
  · rw [travelStop_of_not_swaps (by exact due)] at run
    refine ⟨_, run, rfl, feeding, paused, cut, idle, fun _ => ⟨rfl, rfl⟩, fun takes => absurd takes due, ?_⟩
    rw [if_neg due]
    rfl

end Sys2Proof.Machine
end

section
/-! The calls and the plan: Open Call, Close Call, Insert Step, Cancel Step and Release Hold (chapter 05). -/

namespace Sys2Proof.Machine

open Sys2Proof

/-! ### Calls (R88 to R90) -/

theorem toNat_eq_zero_iff {w : Nat} {b : BitVec w} : b.toNat = 0 ↔ b = 0 :=
  ⟨fun h => BitVec.eq_of_toNat_eq (by simpa using h), fun h => by simp [h]⟩

theorem map_toNat_eq_zero_iff {w : Nat} {b : Option (BitVec w)} : b.map BitVec.toNat = some 0 ↔ b = some 0 := by
  cases b with
  | none => simp
  | some v => simpa using toNat_eq_zero_iff

theorem ownOpenCall_accepted {s : State} {id : Nat} {band : Option Nat} (closed : s.plan.callOpen = false)
    (good : ¬ (id = 0 ∨ band = some 0)) : ownOpenCall id band s =
      ({ s with
        plan := { s.plan with
          callOpen := true, callId := id, trimBand := band.getD 1000, revision := (s.plan.revision + 1) % 65536 }
        events := s.events.raise (.planChanged ((s.plan.revision + 1) % 65536)) },
      answerOk (le 4 id ++ le 2 (band.getD 1000) ++ le 2 ((s.plan.revision + 1) % 65536))) := by
  rw [ownOpenCall, if_neg (Bool.eq_false_iff.1 closed), if_neg good]
  rfl

theorem mem_allSlots (i : Slot) : i ∈ allSlots := by
  revert i
  decide

theorem openLots_eq_zero_iff (s : State) : openLots s = 0 ↔ ∀ i, (s.accounts.lots.get i).isOpen = false := by
  rw [openLots, List.length_eq_zero_iff, List.filter_eq_nil_iff]
  exact ⟨fun h i => by simpa using h i (mem_allSlots i), fun h i _ => by simp [h i]⟩

theorem planBusy_iff (p : Plan) : planBusy p = true ↔ ∃ x ∈ p.steps, x.state = .active ∨ x.state = .held := by
  simp [planBusy]

theorem ownCloseCall_noCall {s : State} (closed : s.plan.callOpen = false) :
    ownCloseCall s = (s, answerNotReady .noCall) := by
  rw [ownCloseCall, closed]
  rfl

theorem ownCloseCall_busy {s : State} (call : s.plan.callOpen = true)
    (unfinished : planBusy s.plan = true ∨ s.weigher.lineTotal ≠ 0 ∨ openLots s ≠ 0) :
    ownCloseCall s = (s, answerOnly .busy) := by
  have refused : firstOf [(!s.plan.callOpen, answerNotReady .noCall), (planBusy s.plan, answerOnly .busy),
      (s.weigher.lineTotal != 0, answerOnly .busy), (openLots s != 0, answerOnly .busy)] = some (answerOnly .busy) := by
    cases hp : planBusy s.plan
    · by_cases hl : s.weigher.lineTotal = 0
      · have lots : openLots s ≠ 0 := by simpa [hp, hl] using unfinished
        simp [firstOf, call, hl, lots]
      · simp [firstOf, call, hl]
    · simp [firstOf, call]
  rw [ownCloseCall, refused]

theorem ownCloseCall_accepted {s : State} (call : s.plan.callOpen = true) (quiet : planBusy s.plan = false)
    (clear : s.weigher.lineTotal = 0) (closed : openLots s = 0) :
    ownCloseCall s = (clearWeighingLot (clearPages (clearHolds (bumpRevision (emptyPlan s)))),
      answerOk (le 2 ((s.plan.revision + 1) % 65536))) := by
  rw [ownCloseCall, call, quiet, clear, closed]
  rfl

/-- Settles O27. -/
theorem callsOpenAndClose : Obligations.CallsOpenAndClose := by
  intro s hr revision
  have opens (id : BitVec 32) (band : Option (BitVec 16)) := exec_request_of_running (.openCall id band) hr
  have closes := exec_request_of_running .closeCall hr
  refine ⟨fun id band call => ?_, fun id band closed bad => ?_, fun id band closed hid hband => ?_, fun closed => ?_,
    fun call unfinished => ?_, fun call quiet clear lots => ?_⟩
  · rw [opens, ownOpenCall, if_pos call]
    rfl
  · have bad' := bad.imp toNat_eq_zero_iff.2 map_toNat_eq_zero_iff.2
    rw [opens, ownOpenCall, if_neg (Bool.eq_false_iff.1 closed), if_pos bad']
    rfl
  · have good : ¬ (id.toNat = 0 ∨ band.map BitVec.toNat = some 0) := by
      rw [toNat_eq_zero_iff, map_toNat_eq_zero_iff]
      exact not_or.2 ⟨hid, hband⟩
    rw [opens, ownOpenCall_accepted closed good]
  · rw [closes, ownCloseCall_noCall closed]
    rfl
  · have open_ : (∃ i, (s.accounts.lots.get i).isOpen = true) → openLots s ≠ 0 := fun ⟨i, hi⟩ none => by
      simp [(openLots_eq_zero_iff s).1 none i] at hi
    rw [closes, ownCloseCall_busy call (unfinished.imp (planBusy_iff _).2 (Or.imp_right open_))]
    rfl
  · have notBusy : planBusy s.plan = false := by
      rw [Bool.eq_false_iff, Ne, planBusy_iff]
      rintro ⟨x, hx, active | held⟩
      · exact (quiet x hx).1 active
      · exact (quiet x hx).2 held
    rw [closes, ownCloseCall_accepted call notBusy clear ((openLots_eq_zero_iff s).2 lots)]
    rfl

/-! ### Insert Step (R97, R98) -/

/-- The values of an Insert Step are good (R97). -/
def InsertGood (hold slot target level : Nat) : Prop :=
  1 ≤ hold ∧ hold ≤ 8 ∧ slot ≤ 15 ∧ 1 ≤ target ∧ target ≤ 20000 ∧ (level = 0 ∨ (10 ≤ level ∧ level ≤ 100))

theorem slotOf_eq_some {n : Nat} {i : Slot} (h : n = i.val) : slotOf n = some i := by
  subst h
  simp [slotOf]

theorem slotOf_eq_none {n : Nat} (h : ¬ n < 16) : slotOf n = none := dif_neg h

theorem insertMalformed_iff (hold slot target level : Nat) : ((holdOf hold).isNone || (slotOf slot).isNone ||
    !(decide (1 ≤ target) && decide (target ≤ 20000)) ||
    !(level == 0 || (decide (10 ≤ level) && decide (level ≤ 100)))) = true ↔ ¬ InsertGood hold slot target level := by
  have holds : (holdOf hold).isNone = true ↔ ¬ (1 ≤ hold ∧ hold ≤ 8) := by
    unfold holdOf
    split <;> simp_all
  have slots : (slotOf slot).isNone = true ↔ ¬ slot ≤ 15 := by
    unfold slotOf
    split <;> simp <;> omega
  simp only [Bool.or_eq_true, holds, slots, Bool.not_eq_true', Bool.or_eq_false_iff, Bool.and_eq_false_imp,
    decide_eq_true_eq, decide_eq_false_iff_not, beq_eq_false_iff_ne, InsertGood]
  omega

theorem insertRefusal_noCall {position hold slot target level : Nat} {s : State} (closed : s.plan.callOpen = false) :
    insertRefusal position hold slot target level s = some (answerNotReady .noCall) := by
  rw [insertRefusal, closed]
  rfl

section
variable {position hold slot target level : Nat} {s : State} (call : s.plan.callOpen = true)
include call

theorem insertRefusal_malformed (bad : ¬ InsertGood hold slot target level) :
    insertRefusal position hold slot target level s = some (answerOnly .badValue) := by
  rw [insertRefusal, call, (insertMalformed_iff hold slot target level).2 bad]
  rfl

theorem insertRefusal_freeSlot {i : Slot} (hi : slotOf slot = some i) (free : (s.accounts.lots.get i).isOpen = false) :
    insertRefusal position hold slot target level s = some (answerOnly .badValue) := by
  by_cases good : InsertGood hold slot target level
  · rw [insertRefusal, call, Bool.eq_false_iff.2 (mt (insertMalformed_iff hold slot target level).1 (not_not.2 good)), hi]
    dsimp only
    rw [free]
    rfl
  · exact insertRefusal_malformed call good

/-- With good values and an OPEN slot, the place and the room in the plan are left (R97). -/
theorem insertRefusal_eq (good : InsertGood hold slot target level) {i : Slot} (hi : slotOf slot = some i)
    (open_ : (s.accounts.lots.get i).isOpen = true) : insertRefusal position hold slot target level s =
      if ¬ (lowestPosition s.plan ≤ position ∧ position ≤ s.plan.steps.length + 1) then some (answerOnly .badValue)
      else if 48 ≤ s.plan.steps.length then some (answerOnly .full) else none := by
  rw [insertRefusal, call, Bool.eq_false_iff.2 (mt (insertMalformed_iff hold slot target level).1 (not_not.2 good)), hi]
  dsimp only
  rw [open_]
  simp only [firstOf, Bool.not_true, Bool.false_eq_true, if_false, Bool.not_eq_true', Bool.and_eq_false_imp,
    decide_eq_true_eq, decide_eq_false_iff_not, not_and]

end

theorem ownInsertStep_refused {position hold slot target level : Nat} {s : State} {a : Answer}
    (h : insertRefusal position hold slot target level s = some a) :
    ownInsertStep position hold slot target level s = (s, a) := by
  rw [ownInsertStep, h]

theorem ownInsertStep_accepted {position hold slot target level : Nat} {s : State} {h : Hold} {i : Slot}
    (passed : insertRefusal position hold slot target level s = none) (hh : holdOf hold = some h)
    (hi : slotOf slot = some i) {id : Nat} (free : freeId s.plan 49 s.plan.stepIdCounter = id) :
    ownInsertStep position hold slot target level s = ({ s with
      plan := { s.plan with
        revision := (s.plan.revision + 1) % 65536, stepIdCounter := nextId id
        steps := s.plan.steps.take (position - 1) ++ [newStep id h i target level] ++ s.plan.steps.drop (position - 1) }
      events := s.events.raise (.planChanged ((s.plan.revision + 1) % 65536)) },
      answerOk (le 2 id ++ [BitVec.ofNat 8 position] ++ le 2 ((s.plan.revision + 1) % 65536))) := by
  rw [ownInsertStep, passed, hh, hi, free]
  rfl

theorem nextId_eq {id : Nat} (h : id ≤ 65535) : nextId id = if id = 65535 then 1 else id + 1 := by
  unfold nextId
  split <;> split <;> omega

/-- Settles O28: the id is the first that the search from the counter on finds free (`freeId_new`). -/
theorem insertStepPlacesANewStep : Obligations.InsertStepPlacesANewStep := by
  refine ⟨fun s position hold slot level target hr => ⟨fun closed => ?_, fun call bad => ?_⟩,
    fun s position hold slot level target h i hr call hold' slot' low high level' open_ => ?_⟩
  · rw [exec_request_of_running (.insertStep position hold slot target level) hr,
      ownInsertStep_refused (insertRefusal_noCall closed)]
    rfl
  · have refused : insertRefusal position.toNat hold.toNat slot.toNat target.toNat level.toNat s =
        some (answerOnly .badValue) := by
      obtain bad | ⟨i, hi, free⟩ := bad
      · exact insertRefusal_malformed call bad
      · exact insertRefusal_freeSlot call (slotOf_eq_some hi) free
    rw [exec_request_of_running (.insertStep position hold slot target level) hr, ownInsertStep_refused refused]
    rfl
  have good : InsertGood hold.toNat slot.toNat target.toNat level.toNat :=
    ⟨by omega, by omega, by omega, low, high, level'⟩
  have refusal := insertRefusal_eq (position := position.toNat) call good (slotOf_eq_some slot') open_
  intro first
  have lowest : lowestPosition s.plan = first := rfl
  rw [lowest] at refusal
  refine ⟨fun outside => ?_, fun low' high' full => ?_, fun low' high' room counter counter' => ?_⟩
  · rw [if_pos outside] at refusal
    rw [exec_request_of_running (.insertStep position hold slot target level) hr, ownInsertStep_refused refusal]
    rfl
  · rw [if_neg (not_not.2 ⟨low', high'⟩), if_pos full] at refusal
    rw [exec_request_of_running (.insertStep position hold slot target level) hr, ownInsertStep_refused refusal]
    rfl
  · rw [if_neg (not_not.2 ⟨low', high'⟩), if_neg room.not_ge] at refusal
    obtain ⟨k, found, new, before⟩ := freeId_new (p := s.plan) (by omega) counter counter'
    refine ⟨k, triedId s.plan.stepIdCounter k, rfl, new, before, ?_⟩
    have inRange : triedId s.plan.stepIdCounter k ≤ 65535 := by
      unfold triedId
      omega
    rw [exec_request_of_running (.insertStep position hold slot target level) hr,
      ownInsertStep_accepted refusal (holdOf_eq_some hold') (slotOf_eq_some slot') found, nextId_eq inRange, BitVec.ofNat_toNat,
      BitVec.setWidth_eq]
    rfl

end Sys2Proof.Machine
end

section
/-! Cancel Step and Release Hold (sections 5.4, 5.5, 6.8). -/

namespace Sys2Proof.Machine

open Sys2Proof

theorem ownCancelStep_noCall {id : Nat} {s : State} (closed : s.plan.callOpen = false) :
    ownCancelStep id s = (s, answerNotReady .noCall) := by
  rw [ownCancelStep, closed]
  rfl

theorem ownReleaseHold_noCall {id : Nat} {s : State} (closed : s.plan.callOpen = false) :
    ownReleaseHold id s = (s, answerNotReady .noCall) := by
  rw [ownReleaseHold, closed]
  rfl

theorem ownCancelStep_notFound {id : Nat} {s : State} (call : s.plan.callOpen = true) (none : stepOf s.plan id = none) :
    ownCancelStep id s = (s, answerOnly .notFound) := by
  rw [ownCancelStep, call, none]
  rfl

theorem ownReleaseHold_notFound {id : Nat} {s : State} (call : s.plan.callOpen = true) (none : stepOf s.plan id = none) :
    ownReleaseHold id s = (s, answerOnly .notFound) := by
  rw [ownReleaseHold, call, none]
  rfl

section
variable {id : Nat} {s : State} {x : Step} (call : s.plan.callOpen = true) (found : stepOf s.plan id = some x)
include call found

theorem ownCancelStep_busy (ended : x.state = .done ∨ x.state = .cancelled) : ownCancelStep id s = (s, answerOnly .busy) := by
  rw [ownCancelStep, call, found]
  obtain e | e := ended <;> simp [e]

theorem ownCancelStep_waiting (waits : x.state = .pending ∨ x.state = .held) : ownCancelStep id s =
    (cancelWaiting x s, answerOk ([4] ++ le 2 (cancelWaiting x s).plan.revision)) := by
  rw [ownCancelStep, call, found]
  obtain e | e := waits <;> (simp only [e]; rfl)

theorem ownCancelStep_active (active : x.state = .active) : ownCancelStep id s =
    (cancelActive x s, answerOk ([1, 5] ++ le 2 (cancelActive x s).plan.revision)) := by
  rw [ownCancelStep, call, found]
  simp only [active]
  rfl

theorem ownReleaseHold_eq : ownReleaseHold id s =
    if x.state = .held then
      if x.holdReason.isSome then
        (bumpRevision { s with plan := s.plan.updateId id (fun y => { y with holdReason := none }) },
          answerOk (le 2 ((s.plan.revision + 1) % 65536)))
      else (s, answerOk (le 2 s.plan.revision))
    else (s, answerOnly .busy) := by
  rw [ownReleaseHold, call, found]
  rfl

end

/-- A PENDING or HELD step cancelled: its record, the revision, PLAN_CHANGED and then STEP_DONE (R95, R101). -/
theorem cancelWaiting_eq (x : Step) (s : State) : cancelWaiting x s = { s with
    plan := { s.plan with
      revision := (s.plan.revision + 1) % 65536
      steps := s.plan.steps.map (fun y => if y.id = x.id then
        { y with state := .cancelled, holdReason := none, effective := none } else y) }
    events := (s.events.raise (.planChanged ((s.plan.revision + 1) % 65536))).raise
      (.stepDone x.id .cancelled x.placed) } := by
  simp [cancelWaiting, bumpRevision_eq, raise, Plan.updateId]

/-! ### The ACTIVE step (R102, R131) -/

/-- DECK recorded in the ACTIVE step, which is what its cancel notice finds (R102). -/
theorem recordDeck_eq (s : State) : recordCutoff .deck s = { s with
    plan := { s.plan with
      revision := (s.plan.revision + 1) % 65536
      steps := s.plan.steps.map (fun y => if y.state = .active then { y with cutoffReason := some .deck } else y) }
    events := s.events.raise (.planChanged ((s.plan.revision + 1) % 65536)) } := by
  rw [recordCutoff_eq]
  simp [Step.isActive]

/-- The ceiling left by a cutoff does not look at the cutoff reason. -/
theorem ceilingLeft_recordCutoff (r : CutoffReason) (s : State) : ceilingLeft (recordCutoff r s) = ceilingLeft s := by
  have maximum : activeMaximum (recordCutoff r s) = activeMaximum s :=
    activeMaximum_of_steps (updateActive_firstActive s.plan fun _ h => ⟨h, rfl⟩)
  rw [ceilingLeft, ceilingLeft, maximum]
  rfl

theorem cancelNotice_of_pouring {s : State} (pouring : s.governor.state.feeding = true ∨ s.governor.state = .paused) :
    cancelNotice s = cutoff .deck s := by
  unfold cancelNotice
  cases hs : s.governor.state <;> simp_all [GovernorState.feeding]

theorem cancelActive_of_other {x : Step} {s : State} (other : x.cutoffReason ≠ some .deck) :
    cancelActive x s = cancelNotice (recordCutoff .deck s) := if_neg other

/-- The ACTIVE step of a fed or PAUSED pour cancelled: the governor in CUTOFF over the DECK recorded (R118, R131). -/
theorem cancelActive_cuts {x : Step} {s : State} (other : x.cutoffReason ≠ some .deck)
    (pouring : s.governor.state.feeding = true ∨ (s.governor.state = .paused ∧ ¬ RunOut s)) :
    cancelActive x s = { recordCutoff .deck s with governor := s.governor.cutOff (ceilingLeft s) } := by
  have goesOn : ¬ (s.governor.state = .paused ∧ RunOut s) := by
    rintro ⟨paused, done⟩
    obtain feeding | ⟨-, notDone⟩ := pouring
    · rw [paused] at feeding
      cases feeding
    · exact notDone done
  rw [cancelActive_of_other other, cancelNotice_of_pouring (s := recordCutoff .deck s) (pouring.imp_right And.left),
    cutoff_of_running_on (s := recordCutoff .deck s) _ goesOn, recordedCutoff_deck, ceilingLeft_recordCutoff]
  rfl

/-- With the run-out test already holding, the step is CANCELLED at once (R106, R118). -/
theorem cancelActive_completes {x : Step} {s : State} (active : activeStep s.plan = some x)
    (other : x.cutoffReason ≠ some .deck) (paused : s.governor.state = .paused) (done : RunOut s) :
    cancelActive x s = swapTest { s with
      plan := { s.plan with
        revision := ((s.plan.revision + 1) % 65536 + 1) % 65536
        steps := s.plan.steps.map (fun y => if y.state = .active then
          { y with state := .cancelled, holdReason := none, cutoffReason := none, effective := none } else y) }
      events := ((s.events.raise (.planChanged ((s.plan.revision + 1) % 65536))).raise
        (.planChanged (((s.plan.revision + 1) % 65536 + 1) % 65536))).raise (.stepDone x.id .cancelled x.placed)
      governor := { s.governor with
        state := .idle, feedPermit := false, level := 0, dutyStaged := 0, effective := none
        pauseSet := PauseSet.empty } } := by
  have recorded : activeStep (recordedCutoff .deck (recordCutoff .deck s)).plan =
      some { x with cutoffReason := some .deck } := by
    rw [recordedCutoff_deck]
    exact activeStep_updateActive s.plan (fun y => { y with cutoffReason := some .deck }) x active (fun _ h => h)
  have stands : (adaptPreact (recordedCutoff .deck (recordCutoff .deck s))).governor.preact = s.governor.preact := by
    rw [adaptPreact_preact_of_other recorded (by simp), recordedCutoff_deck]
    rfl
  rw [cancelActive_of_other other, cancelNotice_of_pouring (s := recordCutoff .deck s) (.inr paused),
    cutoff_of_runOut (s := recordCutoff .deck s) _ paused done, complete_eq recorded, stands, recordedCutoff_deck,
    recordDeck_eq]
  simp only [List.map_map, Function.comp_def, complete_of_recorded]
  simp [paused, GovernorState.feeding, ceilingLeft, completionEvent, completionState, Step.complete, raise]

theorem cancelActive_in_cutoff {x : Step} {s : State} (other : x.cutoffReason ≠ some .deck)
    (cut : s.governor.state = .cutoff) : cancelActive x s = recordCutoff .deck s := by
  rw [cancelActive_of_other other]
  unfold cancelNotice
  rw [show (recordCutoff .deck s).governor.state = .cutoff from cut]

theorem plan_swapTest (s : State) : (swapTest s).plan = s.plan := by simp

/-- Settles O33. -/
theorem cancelStepAndReleaseHold : Obligations.CancelStepAndReleaseHold := by
  refine ⟨fun s id hr => ?_, fun s id x hr call found => ?_⟩
  · have cancel := exec_request_of_running (.cancelStep id) hr
    have release := exec_request_of_running (.releaseHold id) hr
    refine ⟨fun closed => ⟨?_, ?_⟩, fun call none => ⟨?_, ?_⟩⟩
    · rw [cancel, ownCancelStep_noCall closed]
      rfl
    · rw [release, ownReleaseHold_noCall closed]
      rfl
    · rw [cancel, ownCancelStep_notFound call none]
      rfl
    · rw [release, ownReleaseHold_notFound call none]
      rfl
  have cancel := exec_request_of_running (.cancelStep id) hr
  have release := exec_request_of_running (.releaseHold id) hr
  have same := (stepOf_some found).2
  intro revision
  refine ⟨fun ended => ?_, fun waits => ?_, fun active deck => ?_, fun active other pouring => ?_,
    fun active current other paused clear tail => ?_, fun active other cut => ?_, fun other => ?_, fun held given => ?_,
    fun held none => ?_⟩
  · rw [cancel, ownCancelStep_busy call found ended]
    rfl
  · rw [cancel, ownCancelStep_waiting call found waits, cancelWaiting_eq, same]
  · rw [cancel, ownCancelStep_active call found active, cancelActive, if_pos deck]
    rfl
  · rw [cancel, ownCancelStep_active call found active, cancelActive_cuts other pouring, recordDeck_eq]
    rfl
  · rw [cancel, ownCancelStep_active call found active, cancelActive_completes current other paused ⟨clear, tail⟩,
      ← swapTest_answer, plan_swapTest]
    rfl
  · rw [cancel, ownCancelStep_active call found active, cancelActive_in_cutoff other cut, recordDeck_eq]
  · rw [release, ownReleaseHold_eq call found, if_neg other]
    rfl
  · rw [release, ownReleaseHold_eq call found, if_pos held, if_pos given, bumpRevision_eq]
    simp only [Plan.updateId, beq_iff_eq]
    rfl
  · rw [release, ownReleaseHold_eq call found, if_pos held, if_neg (by simp [none])]
    rfl

end Sys2Proof.Machine
end

section
/-! The hatch map: Write Hatch Entry and Request Swap (section 4.2). -/

namespace Sys2Proof.Machine

open Sys2Proof

/-! ### Write Hatch Entry (R61) -/

/-- The fields of a present entry in range (section 4.1). -/
abbrev Hatch.InRange (e : Hatch) : Prop :=
  e.fore ≤ 250000 ∧ e.aft ≤ 250000 ∧ -999 ≤ e.lever ∧ e.lever ≤ 999 ∧ e.limit ≤ 20000

/-- A present entry's place on its page: on the rail, with a pour window that is its own (R61). -/
abbrev Hatch.HasPlace (e : Hatch) (p : Page) (h : Hold) (s : State) : Prop :=
  e.fore < e.aft ∧ e.aft ≤ s.store.settings.railLength ∧
    e.fore + s.store.settings.pourMargin + s.store.settings.pourMargin ≤ e.aft ∧
    ∀ k f, k ≠ h → (s.travel.pages.get p).get k = some f → ¬ ∃ x : Int,
      e.Pours s.store.settings.pourMargin x ∧ f.Pours s.store.settings.pourMargin x

theorem hatchInRange_iff (e : Hatch) : hatchInRange e = true ↔ e.InRange := by
  simp only [hatchInRange, Bool.and_eq_true, decide_eq_true_eq, and_assoc]

theorem overlaps_iff {e f : Hatch} {m : Nat} : e.overlaps f m = true ↔ ∃ x : Int, e.Pours m x ∧ f.Pours m x := by
  refine ⟨fun h => ?_, fun ⟨x, he, hf⟩ => overlaps_of_pours he hf⟩
  have meet := of_decide_eq_true h
  exact ⟨max (e.window m).1 (f.window m).1, ⟨le_max_left _ _, meet.trans (min_le_left _ _)⟩,
    le_max_right _ _, meet.trans (min_le_right _ _)⟩

theorem clashes_iff {page : HatchPage} {m : Nat} {h : Hold} {e : Hatch} : page.clashes m h e = true ↔
    ∃ k f, k ≠ h ∧ page.get k = some f ∧ ∃ x : Int, e.Pours m x ∧ f.Pours m x := by
  rw [HatchPage.clashes, List.any_eq_true]
  constructor
  · rintro ⟨k, -, hk⟩
    rw [Bool.and_eq_true, bne_iff_ne] at hk
    cases hf : page.get k with
    | none => simp [hf] at hk
    | some f => exact ⟨k, f, hk.1, hf, overlaps_iff.1 (by simpa [hf] using hk.2)⟩
  · rintro ⟨k, f, ne, hf, shares⟩
    refine ⟨k, mem_allHolds k, ?_⟩
    simp only [hf, overlaps_iff.2 shares, Bool.and_true]
    exact bne_iff_ne.2 ne

theorem clashes_eq_false_iff {page : HatchPage} {m : Nat} {h : Hold} {e : Hatch} : page.clashes m h e = false ↔
    ∀ k f, k ≠ h → page.get k = some f → ¬ ∃ x : Int, e.Pours m x ∧ f.Pours m x := by
  rw [← Bool.not_eq_true, clashes_iff]
  simp only [not_exists, not_and]

theorem hatchMisplaced_eq_false_iff (p : Page) (h : Hold) (e : Hatch) (s : State) :
    hatchMisplaced p h e s = false ↔ e.HasPlace p h s := by
  simp only [hatchMisplaced, Bool.or_eq_false_iff, Bool.not_eq_false', decide_eq_false_iff_not, not_le, not_lt, windowOk_iff,
    clashes_eq_false_iff, Hatch.HasPlace, and_assoc]

/-- The tests of an entry that a Write Hatch Entry body carries, in R61's order. -/
def entryTests (p : Page) (h : Hold) (e : Option Hatch) (s : State) : List (Bool × Answer) :=
  [(e.any (fun f => !hatchInRange f), answerOnly .badValue), (p == s.travel.activePage, answerOnly .busy),
   (s.travel.swapPending, answerOnly .busy), (e.any (fun f => hatchMisplaced p h f s), answerOnly .badValue)]

theorem entryTests_busy {p : Page} {h : Hold} {e : Option Hatch} {s : State} (good : ∀ f ∈ e, hatchInRange f = true)
    (busy : p = s.travel.activePage ∨ s.travel.swapPending = true) :
    firstOf (entryTests p h e s) = some (answerOnly .busy) := by
  have ranges : e.any (fun f => !hatchInRange f) = false := by
    cases e with
    | none => rfl
    | some f => simp [good f rfl]
  rw [entryTests, ranges]
  by_cases same : p = s.travel.activePage
  · simp [firstOf, same]
  · simp [firstOf, same, busy.resolve_left same]

theorem ownWriteHatchEntry_eq {page hold present fore aft : Nat} {lever : Int} {limit : Nat} {s : State} {p : Page} {h : Hold}
    {e : Option Hatch} (call : s.plan.callOpen = true) (hp : pageNumber page = some p) (hh : holdOf hold = some h)
    (he : carriedEntry present fore aft lever limit = some e) :
    ownWriteHatchEntry page hold present fore aft lever limit s =
      (firstOf (entryTests p h e s)).elim (writeEntry p h e s, answerOk (hatchRecord h e)) (s, ·) := by
  rw [ownWriteHatchEntry, call, hp, hh, he]
  rw [if_neg (by simp), entryTests]
  cases e with
  | none => dsimp only [Option.any_none]; split <;> simp_all
  | some e => dsimp only [Option.any_some]; split <;> simp_all

theorem pageNumber_eq_some {n : Nat} {p : Page} (h : n = p.val) : pageNumber n = some p := by
  subst h
  revert p
  decide

theorem pageNumber_eq_none {n : Nat} (h : 2 ≤ n) : pageNumber n = none := by
  rw [pageNumber, if_neg (by omega), if_neg (by omega)]

theorem ownWriteHatchEntry_badPlace {page hold present fore aft : Nat} {lever : Int} {limit : Nat} {s : State}
    (call : s.plan.callOpen = true) (bad : 2 ≤ page ∨ hold = 0 ∨ 9 ≤ hold) :
    ownWriteHatchEntry page hold present fore aft lever limit s = (s, answerOnly .badValue) := by
  rw [ownWriteHatchEntry, call]
  obtain far | bad := bad
  · rw [pageNumber_eq_none far]
    rfl
  · rw [holdOf_eq_none (by omega)]
    cases pageNumber page <;> rfl

theorem ownWriteHatchEntry_badPresent {page hold present fore aft : Nat} {lever : Int} {limit : Nat} {s : State}
    (call : s.plan.callOpen = true) (bad : carriedEntry present fore aft lever limit = none) :
    ownWriteHatchEntry page hold present fore aft lever limit s = (s, answerOnly .badValue) := by
  rw [ownWriteHatchEntry, call, bad]
  cases pageNumber page with
  | none => rfl
  | some p => cases holdOf hold <;> rfl

/-- Settles O34: once the page and the hold are good, the entry's tests decide in R61's order. -/
theorem writeHatchEntryWritesTheInactivePage : Obligations.WriteHatchEntryWritesTheInactivePage := by
  refine ⟨fun s page hold present fore aft lever limit hr => ?_,
    fun s page hold present fore aft lever limit p h hr call hp hh => ?_⟩
  · have run := exec_request_of_running (.writeHatchEntry page hold present fore aft lever limit) hr
    refine ⟨fun closed => ?_, fun call bad => ?_⟩
    · rw [run, ownWriteHatchEntry, closed]
      rfl
    · rw [run, ownWriteHatchEntry_badPlace call bad]
      rfl
  have run := exec_request_of_running (.writeHatchEntry page hold present fore aft lever limit) hr
  intro write e inRange m placed
  have good := hatchInRange_iff e
  have place := hatchMisplaced_eq_false_iff p h e s
  have carries (f : Option Hatch) (hf : carriedEntry present.toNat fore.toNat aft.toNat lever.toInt limit.toNat = some f) :=
    ownWriteHatchEntry_eq call (pageNumber_eq_some hp) (holdOf_eq_some hh) hf
  have present_ (one : present = 1) : carriedEntry present.toNat fore.toNat aft.toNat lever.toInt limit.toNat = some (some e) := by
    rw [one]
    rfl
  have absent (zero : present = 0) : carriedEntry present.toNat fore.toNat aft.toNat lever.toInt limit.toNat = some none := by
    rw [zero]
    rfl
  have answers {f : Option Hatch} {a : Answer}
      (hf : carriedEntry present.toNat fore.toNat aft.toNat lever.toInt limit.toNat = some f)
      (refused : firstOf (entryTests p h f s) = some a) : write = .next { s with answer := some (.deck, a) } := by
    rw [show write = _ from run, carries f hf, refused]
    rfl
  have writes {f : Option Hatch}
      (hf : carriedEntry present.toNat fore.toNat aft.toNat lever.toInt limit.toNat = some f)
      (passed : firstOf (entryTests p h f s) = none) :
      write = .next { s with
        travel := { s.travel with pages := s.travel.pages.set p ((s.travel.pages.get p).set h f) }
        answer := some (.deck, answerOk (hatchRecord h f)) } := by
    rw [show write = _ from run, carries f hf, passed]
    rfl
  refine ⟨fun notZero notOne => ?_, fun one out => ?_, fun kind busy => ?_, fun one ranges other free misplaced => ?_,
    fun one ranges other free has => ?_, fun zero other free => ?_⟩
  · have bad : carriedEntry present.toNat fore.toNat aft.toNat lever.toInt limit.toNat = none := by
      have h0 : present.toNat ≠ 0 := fun h => notZero (BitVec.eq_of_toNat_eq h)
      have h1 : present.toNat ≠ 1 := fun h => notOne (BitVec.eq_of_toNat_eq h)
      rw [carriedEntry, if_neg h0, if_neg h1]
    rw [show write = _ from run, ownWriteHatchEntry_badPresent call bad]
    rfl
  · refine answers (present_ one) ?_
    rw [entryTests, Option.any_some, Bool.eq_false_iff.2 (mt good.1 out)]
    rfl
  · obtain zero | ⟨one, ranges⟩ := kind
    · exact answers (absent zero) (entryTests_busy nofun busy)
    · exact answers (present_ one) (entryTests_busy (by simpa using good.2 ranges) busy)
  · refine answers (present_ one) ?_
    have off : hatchMisplaced p h e s = true := by simpa using mt place.1 misplaced
    rw [entryTests, Option.any_some, Option.any_some, good.2 ranges, off, free, beq_eq_false_iff_ne.2 other]
    rfl
  · refine writes (present_ one) (firstOf_eq_none ?_)
    simp [entryTests, good.2 ranges, other, free, place.2 has]
  · refine writes (absent zero) (firstOf_eq_none ?_)
    simp [entryTests, other, free]

/-! ### Request Swap (R62, R63) -/

theorem swapLacksHold_iff (s : State) : swapLacksHold s = true ↔
    ∃ x, currentStep s.plan = some x ∧ (s.travel.pages.get (otherPage s.travel.activePage)).get x.hold = none := by
  unfold swapLacksHold
  cases currentStep s.plan with
  | none => simp
  | some x => simp [Travel.inactiveMap]

theorem swapReady_iff (s : State) : swapReady s = true ↔
    s.travel.state.inMotion = false ∧ stepActive s = false ∧ s.weigher.lineTotal = 0 := by
  simp [swapReady, and_assoc]

/-- The swap asked for, before its test (R62). -/
def pendingSwap (s : State) : State := { s with travel := { s.travel with swapPending := true } }

/-- Settles O35: with nothing to refuse, the swap is pending, and the test takes it exactly when the carriage is at rest, no step
is ACTIVE and the line is empty. -/
theorem requestSwapTakesTheOtherPage : Obligations.RequestSwapTakesTheOtherPage := by
  intro s hr
  have run := exec_request_of_running .requestSwap hr
  refine ⟨fun closed => ?_, fun call pending => ?_, fun call none => ?_⟩
  · rw [run, ownRequestSwap, closed]
    rfl
  · rw [run, ownRequestSwap, call, pending]
    rfl
  intro other page lacks free
  have lacksHold := swapLacksHold_iff s
  have taken (has : ¬ lacks) : exec .requestSwap s = .next { swapTest (pendingSwap s) with
      answer := some (.deck, answerOk [yesNo (swapTest (pendingSwap s)).travel.swapPending]) } := by
    rw [run, ownRequestSwap, call, none, Bool.eq_false_iff.2 (mt lacksHold.1 has)]
    rfl
  refine ⟨fun missing => ?_, fun has busy => ?_, fun has ready => ?_⟩
  · rw [run, ownRequestSwap, call, none, lacksHold.2 missing]
    rfl
  · rw [taken has]
    obtain ⟨-, ready, -⟩ | ⟨-, e⟩ := swapTest_cases (pendingSwap s)
    · exact absurd ((swapReady_iff s).1 ready) busy
    · rw [e]
      rfl
  · rw [taken has]
    obtain ⟨-, -, e⟩ | ⟨not, -⟩ := swapTest_cases (pendingSwap s)
    · rw [e, takeSwap_eq]
      rfl
    · exact absurd ⟨rfl, (swapReady_iff s).2 ready⟩ not

end Sys2Proof.Machine
end

section
/-! The re-evaluation of the ACTIVE step (section 6.8), and the two requests that ask for it: Set Trim Band and Modify Step
(sections 5.2 to 5.4). -/

namespace Sys2Proof.Machine

open Sys2Proof

/-! ### The governor under a ceiling -/

theorem under_feeding (g : Governor) (c : Nat) : (g.under c).state.feeding = g.state.feeding := by
  dsimp only
  split
  next h => rw [h.1]; rfl
  next => rfl

theorem under_of_not_running {g : Governor} (h : g.state ≠ .running) (c : Nat) : g.under c = { g with
    ceiling := c, level := min g.level c
    dutyStaged := if c < g.level then (c * 255 + 50) / 100 else g.dutyStaged } := by
  simp [Governor.under, h]

/-- DRIBBLE entered under a lower ceiling, whatever ceiling was taken on the way (R115, R117). -/
theorem under_dribble_under {g : Governor} {full low : Nat} (h : low ≤ full) :
    Governor.under { g.under full with state := .dribble } low = { g.under low with state := .dribble } := by
  have level : min (min g.level full) low = min g.level low := by omega
  have duty : (if low < min g.level full then (low * 255 + 50) / 100
      else if full < g.level then (full * 255 + 50) / 100 else g.dutyStaged) =
      if low < g.level then (low * 255 + 50) / 100 else g.dutyStaged := by
    by_cases below : low < g.level
    · by_cases between : low < min g.level full
      · rw [if_pos between, if_pos below]
      · have same : full = low := by omega
        rw [if_neg between, if_pos below, same, if_pos below]
    · rw [if_neg (by omega), if_neg below, if_neg (by omega)]
  rw [under_of_not_running (by simp)]
  dsimp only
  rw [level, duty]

/-- DRIBBLE left for RAMPING: the level, already under the lower ceiling, stands (R115, R128). -/
theorem under_ramping_under {g : Governor} {full low : Nat} (h : low ≤ full) :
    Governor.under { g.under low with state := .ramping } full = { g.under low with state := .ramping, ceiling := full } := by
  have level : min (min g.level low) full = min g.level low := by omega
  rw [under_of_not_running (by simp)]
  dsimp only
  rw [level, if_neg (by omega)]

/-! ### The re-evaluation (R112, R128) -/

/-- The effective target computed anew, in the step record and the governor (R112, R128). -/
def retargeted (s : State) (x : Step) : State := { s with
  governor := { s.governor with effective := some (effectiveTarget s x) }
  plan := { s.plan with
    steps := s.plan.steps.map (fun y => if y.state = .active then { y with effective := some (effectiveTarget s x) } else y) } }

/-- The governor with the new target under the ceiling recomputed. -/
def recapped (s : State) (x : Step) (ceiling : Nat) : State :=
  { retargeted s x with governor := (retargeted s x).governor.under ceiling }

section
variable {s : State} {x : Step} (active : activeStep s.plan = some x)
include active

theorem activeStep_retargeted :
    activeStep (retargeted s x).plan = some { x with effective := some (effectiveTarget s x) } := by
  have kept := activeStep_updateActive s.plan (fun y => { y with effective := some (effectiveTarget s x) }) x active
    (fun _ h => h)
  simp only [Plan.updateActive, Step.isActive_iff] at kept
  exact kept

theorem recomputeEffective_eq : recomputeEffective s = retargeted s x := by
  unfold recomputeEffective
  rw [active]
  simp only [Plan.updateActive, Step.isActive_iff]
  rfl

theorem recompute_of_not_dribble (other : s.governor.state ≠ .dribble) :
    recomputeCeiling (recomputeEffective s) = recapped s x (feedCeiling s x.maxLevel) := by
  rw [recomputeEffective_eq active, recomputeCeiling_under, ceilingNow_of_not_dribble (retargeted s x) other,
    activeMaximum_of_active (activeStep_retargeted active)]
  rfl

theorem recompute_of_dribble (dribble : s.governor.state = .dribble) : recomputeCeiling (recomputeEffective s) =
    recapped s x (min (feedCeiling s x.maxLevel) s.store.settings.dribbleLevel) := by
  rw [recomputeEffective_eq active, recomputeCeiling_under, ceilingNow_of_dribble (retargeted s x) dribble,
    activeMaximum_of_active (activeStep_retargeted active)]
  rfl

variable (c : Nat)

theorem activeStep_recapped :
    activeStep (recapped s x c).plan = some { x with effective := some (effectiveTarget s x) } :=
  activeStep_retargeted active

theorem activeMaximum_recapped : activeMaximum (recapped s x c) = x.maxLevel := by
  have maximum := activeMaximum_of_active (activeStep_recapped active c)
  exact maximum

theorem reachedCutoff_recapped : reachedCutoff (recapped s x c) = true ↔
    effectiveTarget s x ≤ x.placed + s.weigher.lineTotal + s.governor.preact := by
  have reached := reachedCutoff_iff (activeStep_recapped active c)
  exact reached

theorem reachedDribble_recapped : reachedDribble (recapped s x c) = true ↔ effectiveTarget s x ≤
    x.placed + s.weigher.lineTotal + s.governor.preact + s.store.settings.dribbleBand * 100000 := by
  have reached := reachedDribble_iff (activeStep_recapped active c)
  exact reached

theorem ceilingLeft_recapped (h : c = feedCeiling s x.maxLevel ∨ s.governor.state = .dribble) :
    ceilingLeft (recapped s x c) = feedCeiling s x.maxLevel := by
  have maximum := activeMaximum_recapped active c
  have dribbles : (recapped s x c).governor.state = .dribble ↔ s.governor.state = .dribble := under_dribble _ c
  rw [ceilingLeft, maximum]
  by_cases dribble : s.governor.state = .dribble
  · rw [if_pos (dribbles.2 dribble)]
    rfl
  · rw [if_neg (mt dribbles.1 dribble)]
    exact h.resolve_right dribble

omit active in
theorem recapped_state (notRunning : s.governor.state ≠ .running) : (recapped s x c).governor.state = s.governor.state := by
  unfold recapped
  rw [under_of_not_running (by exact notRunning)]
  rfl

end

/-- Two changes of the ACTIVE step in turn, the first of which leaves it ACTIVE. -/
theorem map_active_twice (f k : Step → Step) (keeps : ∀ y : Step, y.state = .active → (f y).state = .active)
    (steps : List Step) :
    (steps.map (fun y => if y.state = .active then f y else y)).map (fun y => if y.state = .active then k y else y) =
      steps.map (fun y => if y.state = .active then k (f y) else y) := by
  rw [List.map_map]
  congr 1
  funext y
  by_cases h : y.state = .active
  · simp [h, keeps y h]
  · simp [h]

/-! #### By the governor's state -/

section
variable {s : State} {x : Step} (active : activeStep s.plan = some x)
include active

theorem reEvaluate_idle (idle : s.governor.state = .idle) : reEvaluate s = s := by
  unfold reEvaluate
  rw [recompute_of_not_dribble active (by simp [idle])]
  dsimp only
  rw [recapped_state _ (by simp [idle]), idle]

theorem reEvaluate_paused (paused : s.governor.state = .paused) :
    reEvaluate s = if reachedCutoff (recapped s x (feedCeiling s x.maxLevel)) then
      cutoff .trim (recapped s x (feedCeiling s x.maxLevel)) else recapped s x (feedCeiling s x.maxLevel) := by
  unfold reEvaluate
  rw [recompute_of_not_dribble active (by simp [paused])]
  dsimp only
  rw [recapped_state _ (by simp [paused]), paused]

theorem reEvaluate_cutoff (cut : s.governor.state = .cutoff) :
    reEvaluate s = if x.cutoffReason = some .target ∧ s.governor.effective ≠ some (effectiveTarget s x) then
      recordCutoff .trim (recapped s x (feedCeiling s x.maxLevel)) else recapped s x (feedCeiling s x.maxLevel) := by
  have reason : activeCutoff (recapped s x (feedCeiling s x.maxLevel)) = x.cutoffReason := by
    rw [activeCutoff, show activeStep (recapped s x _).plan = _ from activeStep_retargeted active]
  unfold reEvaluate
  rw [recompute_of_not_dribble active (by simp [cut])]
  dsimp only
  rw [recapped_state _ (by simp [cut]), cut]
  dsimp only
  rw [reason]
  simp only [ne_comm (a := s.governor.effective)]
  rfl

theorem reEvaluate_dribble (dribble : s.governor.state = .dribble) {low : Nat}
    (hl : low = min (feedCeiling s x.maxLevel) s.store.settings.dribbleLevel) :
    reEvaluate s = if reachedCutoff (recapped s x low) then cutoff .trim (recapped s x low)
      else if reachedDribble (recapped s x low) then recapped s x low
      else recomputeCeiling { recapped s x low with
        governor := { (recapped s x low).governor with state := .ramping } } := by
  unfold reEvaluate
  rw [recompute_of_dribble active dribble, ← hl]
  dsimp only
  rw [recapped_state _ (by simp [dribble]), dribble]

theorem reEvaluate_full (feeds : s.governor.state = .ramping ∨ s.governor.state = .running) {full : Nat}
    (hf : full = feedCeiling s x.maxLevel) :
    reEvaluate s = if reachedCutoff (recapped s x full) then cutoff .trim (recapped s x full)
      else if reachedDribble (recapped s x full) then enterDribble (recapped s x full)
      else recapped s x full := by
  have state : (recapped s x full).governor.state = .ramping ∨ (recapped s x full).governor.state = .running := by
    unfold recapped
    dsimp only
    split
    next => exact .inl rfl
    next => exact feeds
  unfold reEvaluate
  rw [recompute_of_not_dribble active (by obtain e | e := feeds <;> simp [e]), ← hf]
  dsimp only
  obtain e | e := state <;> rw [e]

/-! #### The outcomes -/

/-- Cut off for TRIM from a feeding state, or from PAUSED with grain to run out. -/
theorem cutoff_recapped {c : Nat} (h : c = feedCeiling s x.maxLevel ∨ s.governor.state = .dribble)
    (goesOn : ¬ ((recapped s x c).governor.state = .paused ∧ RunOut s)) :
    cutoff .trim (recapped s x c) = { s with
      governor := { s.governor with
        state := .cutoff, feedPermit := false, level := 0, dutyStaged := 0
        tail := if s.governor.state.feeding = true then 0 else s.governor.tail
        pauseSet := PauseSet.empty, ceiling := feedCeiling s x.maxLevel, effective := some (effectiveTarget s x) }
      plan := { s.plan with
        revision := (s.plan.revision + 1) % 65536
        steps := s.plan.steps.map (fun y => if y.state = .active then
          { y with effective := some (effectiveTarget s x), cutoffReason := some .trim } else y) }
      events := s.events.raise (.planChanged ((s.plan.revision + 1) % 65536)) } := by
  have feeding : (recapped s x c).governor.state.feeding = s.governor.state.feeding := under_feeding _ c
  rw [cutoff_of_running_on (s := recapped s x c) _ goesOn, recordedCutoff_eq (by decide), ceilingLeft_recapped active c h]
  have steps : (recapped s x c).plan.steps.map (fun y => if y.state = .active then
      { y with cutoffReason := some .trim } else y) = s.plan.steps.map (fun y => if y.state = .active then
      { y with effective := some (effectiveTarget s x), cutoffReason := some .trim } else y) :=
    map_active_twice (fun y => { y with effective := some (effectiveTarget s x) })
      (fun y => { y with cutoffReason := some .trim }) (fun _ h => h) s.plan.steps
  have governor : (recapped s x c).governor.cutOff (feedCeiling s x.maxLevel) = { s.governor with
      state := .cutoff, feedPermit := false, level := 0, dutyStaged := 0
      tail := if s.governor.state.feeding = true then 0 else s.governor.tail
      pauseSet := PauseSet.empty, ceiling := feedCeiling s x.maxLevel, effective := some (effectiveTarget s x) } := by
    rw [← feeding]
    rfl
  rw [steps, governor]
  rfl

end

section
variable {s : State} {x : Step} (active : activeStep s.plan = some x)
include active

/-- From PAUSED with the run-out test already holding, the step completes at once as HELD(TRIM). -/
theorem cutoff_recapped_held (paused : s.governor.state = .paused) (done : RunOut s) :
    cutoff .trim (recapped s x (feedCeiling s x.maxLevel)) = swapTest { s with
      governor := { s.governor with
        state := .idle, feedPermit := false, level := 0, dutyStaged := 0, pauseSet := PauseSet.empty
        ceiling := feedCeiling s x.maxLevel, effective := none }
      plan := { s.plan with
        revision := ((s.plan.revision + 1) % 65536 + 1) % 65536
        steps := s.plan.steps.map (fun y => if y.state = .active then
          { y with effective := some (effectiveTarget s x), state := .held, holdReason := some .trim, cutoffReason := none }
          else y) }
      events := ((s.events.raise (.planChanged ((s.plan.revision + 1) % 65536))).raise
        (.planChanged (((s.plan.revision + 1) % 65536 + 1) % 65536))).raise (.stepHeld x.id .trim) } := by
  have notRunning : (retargeted s x).governor.state ≠ .running := by
    rw [show (retargeted s x).governor.state = .paused from paused]
    decide
  have still : (recapped s x (feedCeiling s x.maxLevel)).governor.state = .paused :=
    (recapped_state _ notRunning).trans paused
  rw [cutoff_held (s := recapped s x (feedCeiling s x.maxLevel)) (q := .trim) rfl still done
    (activeStep_recapped active _)]
  have steps : (recapped s x (feedCeiling s x.maxLevel)).plan.steps.map (fun y => if y.state = .active then
      { y with state := .held, holdReason := some .trim, cutoffReason := none } else y) = s.plan.steps.map (fun y =>
      if y.state = .active then { y with
        effective := some (effectiveTarget s x), state := .held, holdReason := some .trim, cutoffReason := none } else y) :=
    map_active_twice (fun y => { y with effective := some (effectiveTarget s x) })
      (fun y => { y with state := .held, holdReason := some .trim, cutoffReason := none }) (fun _ h => h) s.plan.steps
  rw [steps]
  rfl

omit active in
theorem recordCutoff_recapped (c : Nat) : recordCutoff .trim (recapped s x c) = { recapped s x c with
    plan := { s.plan with
      revision := (s.plan.revision + 1) % 65536
      steps := s.plan.steps.map (fun y => if y.state = .active then
        { y with effective := some (effectiveTarget s x), cutoffReason := some .trim } else y) }
    events := s.events.raise (.planChanged ((s.plan.revision + 1) % 65536)) } := by
  have steps := map_active_twice (fun y => { y with effective := some (effectiveTarget s x) })
    (fun y => { y with cutoffReason := some .trim }) (fun _ h => h) s.plan.steps
  rw [recordCutoff_eq]
  simp only [Step.isActive_iff]
  rw [show (recapped s x c).plan.steps.map _ = _ from steps]
  rfl

/-- DRIBBLE entered with the new target (R117, R128). -/
theorem enterDribble_recapped {full low : Nat} (hf : full = feedCeiling s x.maxLevel)
    (hl : low = min full s.store.settings.dribbleLevel) : enterDribble (recapped s x full) =
      { recapped s x low with governor := { (recapped s x low).governor with state := .dribble } } := by
  have ceiling : ceilingNow { recapped s x full with governor := { (recapped s x full).governor with state := .dribble } } =
      low := by
    rw [ceilingNow_of_dribble _ rfl, hl, hf]
    exact congrArg (fun m => min (feedCeiling s m) s.store.settings.dribbleLevel)
      (activeMaximum_recapped active full)
  rw [enterDribble, recomputeCeiling_under, ceiling]
  dsimp only [recapped]
  rw [under_dribble_under (hl ▸ min_le_left _ _)]

/-- DRIBBLE left for RAMPING with the new target (R115, R128). -/
theorem leaveDribble_recapped {full low : Nat} (hf : full = feedCeiling s x.maxLevel)
    (hl : low = min full s.store.settings.dribbleLevel) :
    recomputeCeiling { recapped s x low with governor := { (recapped s x low).governor with state := .ramping } } =
      { recapped s x low with governor := { (recapped s x low).governor with state := .ramping, ceiling := full } } := by
  have ceiling : ceilingNow { recapped s x low with governor := { (recapped s x low).governor with state := .ramping } } =
      full := by
    rw [ceilingNow_of_not_dribble _ (by simp), hf]
    exact congrArg (feedCeiling s) (activeMaximum_recapped active low)
  rw [recomputeCeiling_under, ceiling]
  dsimp only [recapped]
  rw [under_ramping_under (hl ▸ min_le_left _ _)]

end

/-- The re-evaluation notice does what R128 says, by the governor's state and the committed mass. -/
theorem reEvaluate_reEvaluated {s : State} {x : Step} (active : activeStep s.plan = some x) :
    ReEvaluated s x (reEvaluate s) := by
  unfold ReEvaluated
  extract_lets target mass near full low runsOut revision written g shut
  have cutoffIff (c : Nat) : reachedCutoff (recapped s x c) = true ↔ target ≤ mass := reachedCutoff_recapped active c
  have dribbleIff (c : Nat) : reachedDribble (recapped s x c) = true ↔ near := reachedDribble_recapped active c
  have feedingState (h : s.governor.state.feeding = true) : (s.governor.state = .ramping ∨ s.governor.state = .running) ∨
      s.governor.state = .dribble := by
    cases hs : s.governor.state <;> simp_all [GovernorState.feeding]
  refine ⟨reEvaluate_idle active, fun met pours => ?_, fun met paused done => ?_, fun short feeds => ?_,
    fun short dribbles => ?_, fun short paused => ?_, fun cut changed => ?_, fun cut unchanged => ?_⟩
  · have running_on {c : Nat} (feeding : s.governor.state.feeding = true) :
        ¬ ((recapped s x c).governor.state = .paused ∧ RunOut s) := by
      rintro ⟨paused, -⟩
      have feeds : (recapped s x c).governor.state.feeding = true := (under_feeding _ c).trans feeding
      rw [paused] at feeds
      cases feeds
    obtain feeding | ⟨paused, goesOn⟩ := pours
    · obtain feeds | dribbles := feedingState feeding
      · rw [reEvaluate_full active feeds rfl, if_pos ((cutoffIff _).2 met), cutoff_recapped active (.inl rfl) (running_on feeding)]
        rfl
      · rw [reEvaluate_dribble active dribbles rfl, if_pos ((cutoffIff _).2 met),
          cutoff_recapped active (.inr dribbles) (running_on feeding)]
        rfl
    · rw [reEvaluate_paused active paused, if_pos ((cutoffIff _).2 met),
        cutoff_recapped active (.inl rfl) (fun both => goesOn both.2)]
      rfl
  · rw [reEvaluate_paused active paused, if_pos ((cutoffIff _).2 met), cutoff_recapped_held active paused done]
    rfl
  · rw [reEvaluate_full active feeds rfl, if_neg (mt (cutoffIff _).1 short.not_ge)]
    by_cases close : near
    · rw [if_pos ((dribbleIff _).2 close), if_pos close]
      rw [enterDribble_recapped active rfl rfl]
      rfl
    · rw [if_neg (mt (dribbleIff _).1 close), if_neg close]
      rfl
  · rw [reEvaluate_dribble active dribbles rfl, if_neg (mt (cutoffIff _).1 short.not_ge)]
    by_cases close : near
    · rw [if_pos ((dribbleIff _).2 close), if_pos close]
      rfl
    · rw [if_neg (mt (dribbleIff _).1 close), if_neg close]
      rw [leaveDribble_recapped active rfl rfl]
      rfl
  · rw [reEvaluate_paused active paused, if_neg (mt (cutoffIff _).1 short.not_ge)]
    rfl
  · rw [reEvaluate_cutoff active cut, if_pos changed, recordCutoff_recapped]
    rfl
  · rw [reEvaluate_cutoff active cut, if_neg unchanged]
    rfl

/-! ### Set Trim Band (R91) -/

/-- The band stored, with the new revision (R91, R94). -/
def bandSet (band : Nat) (s : State) : State := { s with
  plan := { s.plan with trimBand := band, revision := (s.plan.revision + 1) % 65536 }
  events := s.events.raise (.planChanged ((s.plan.revision + 1) % 65536)) }

theorem ownSetTrimBand_changes {band : Nat} {s : State} (call : s.plan.callOpen = true) (good : band ≠ 0)
    (new : band ≠ s.plan.trimBand) : ownSetTrimBand band s =
      (if stepActive s = true then reEvaluate (bandSet band s) else bandSet band s,
        answerOk (le 2 band ++
          le 2 (if stepActive s = true then reEvaluate (bandSet band s) else bandSet band s).plan.revision)) := by
  rw [ownSetTrimBand, if_neg (by simp [call]), if_neg good, if_neg new]
  rfl

/-- Settles O30: a new band is stored, and the ACTIVE step re-evaluated under it (`reEvaluate_reEvaluated`). -/
theorem setTrimBandReEvaluates : Obligations.SetTrimBandReEvaluates := by
  intro s band hr
  have run := exec_request_of_running (.setTrimBand band) hr
  have notZero (h : band ≠ 0) : band.toNat ≠ 0 := mt toNat_eq_zero_iff.1 h
  refine ⟨fun closed => ?_, fun call zero => ?_, fun call good same => ?_, fun call good new => ⟨fun free => ?_,
    fun x active => ?_⟩⟩
  · rw [run, ownSetTrimBand, closed]
    rfl
  · rw [run, ownSetTrimBand, if_neg (by simp [call]), if_pos (toNat_eq_zero_iff.2 zero)]
    rfl
  · rw [run, ownSetTrimBand, if_neg (by simp [call]), if_neg (notZero good), if_pos same]
    rfl
  · rw [run, ownSetTrimBand_changes call (notZero good) new, if_neg (Bool.eq_false_iff.1 free)]
    rfl
  · have some : stepActive s = true := by rw [stepActive, active]; rfl
    refine ⟨reEvaluate (bandSet band.toNat s), reEvaluate_reEvaluated (s := bandSet band.toNat s) active, ?_, ?_⟩
    · simp [bandSet]
    · rw [run, ownSetTrimBand_changes call (notZero good) new, if_pos some]

/-! ### Modify Step (R99) -/

/-- The values of a Modify Step are good (R99, section 8.8). -/
abbrev ModifyGood (target level : Nat) : Prop :=
  (target ≠ 0 ∨ level ≠ 0) ∧ target ≤ 20000 ∧ (level = 0 ∨ level = 255 ∨ (10 ≤ level ∧ level ≤ 100))

theorem modifyMalformed_iff (target level : Nat) : modifyMalformed target level = true ↔ ¬ ModifyGood target level := by
  simp only [modifyMalformed, Bool.or_eq_true, Bool.and_eq_true, beq_iff_eq, decide_eq_true_eq, Bool.not_eq_true',
    Bool.or_eq_false_iff, beq_eq_false_iff_ne, Bool.and_eq_false_imp, decide_eq_false_iff_not, ModifyGood]
  omega

theorem find?_map_of_keeps {p : Step → Bool} {f : Step → Step} (keeps : ∀ y, p (f y) = p y) (l : List Step) :
    (l.map f).find? p = (l.find? p).map f := by
  rw [List.find?_map]
  exact congrArg (fun q => (l.find? q).map f) (funext keeps)

/-- Modify Step changes neither the id nor the state of a step. -/
theorem modifyId_keeps (target level id : Nat) (y : Step) :
    (if (y.id == id) = true then y.modify target level else y).id = y.id ∧
      (if (y.id == id) = true then y.modify target level else y).isActive = y.isActive := by
  split <;> exact ⟨rfl, rfl⟩

/-- The plan with the step of an id modified. -/
abbrev modifiedPlan (p : Plan) (id target level : Nat) : Plan := p.updateId id (fun y => y.modify target level)

theorem stepOf_modified {p : Plan} {id : Nat} {x : Step} (found : stepOf p id = some x) (target level : Nat) :
    stepOf (modifiedPlan p id target level) id = some (x.modify target level) := by
  have same := (stepOf_some found).2
  rw [stepOf] at found
  rw [stepOf, modifiedPlan, Plan.updateId,
    find?_map_of_keeps (fun y => by rw [(modifyId_keeps target level id y).1]), found]
  simp [same]

theorem activeStep_modified {p : Plan} {x : Step} (found : activeStep p = some x) (target level : Nat) :
    activeStep (modifiedPlan p x.id target level) = some (x.modify target level) := by
  rw [activeStep] at found
  rw [activeStep, modifiedPlan, Plan.updateId, find?_map_of_keeps (fun y => (modifyId_keeps target level x.id y).2), found]
  simp

/-- A lawful plan has one ACTIVE step at most (R92). -/
theorem activeStep_of_lawful {p : Plan} (lawful : p.Lawful) {x : Step} (mem : x ∈ p.steps) (active : x.state = .active) :
    activeStep p = some x := by
  obtain ⟨y, hy⟩ := Option.isSome_iff_exists.1
    (List.find?_isSome.2 ⟨x, mem, (x.isActive_iff).2 active⟩ : (p.steps.find? Step.isActive).isSome = true)
  obtain ⟨-, -, -, -, current, -⟩ := lawful
  have alone : p.steps.Pairwise (fun a b => ¬ (a.state = .active ∧ b.state = .active)) :=
    current.imp fun {a b} finished both => by
      have := finished (by simp [Step.begun, both.2])
      simp [Step.unfinished, both.1] at this
  have symmetric : Std.Symm (fun a b : Step => ¬ (a.state = .active ∧ b.state = .active)) :=
    ⟨fun _ _ h both => h both.symm⟩
  by_contra other
  have ne : x ≠ y := fun e => other (e ▸ hy)
  exact alone.forall mem (List.mem_of_find?_eq_some hy) ne ⟨active, (y.isActive_iff).1 (List.find?_some hy)⟩

/-- Steps that evolve keep their ids, so that the step of an id is still found. -/
theorem stepOf_isSome_of_follows {p q : Plan} (h : p.Follows q) {id : Nat} (found : (stepOf p id).isSome = true) :
    (stepOf q id).isSome = true := by
  obtain ⟨⟨g, e, evolves⟩, -⟩ := h
  rw [stepOf, List.find?_isSome] at found ⊢
  obtain ⟨x, hx, same⟩ := found
  refine ⟨g x, e ▸ List.mem_map_of_mem hx, ?_⟩
  rw [(evolves x hx).id]
  exact same

/-- The step modified, with the new revision when a field changed (R94, R99). -/
def modified (x : Step) (target level : Nat) (s : State) : State :=
  if x.modify target level = x then { s with plan := modifiedPlan s.plan x.id target level }
  else bumpRevision { s with plan := modifiedPlan s.plan x.id target level }

theorem modifyPlan_eq (x : Step) (target level : Nat) (s : State) : modifyPlan x target level s =
    if x.state = .active then reEvaluate (modified x target level s) else modified x target level s := rfl

theorem modified_steps (x : Step) (target level : Nat) (s : State) :
    (modified x target level s).plan.steps = (modifiedPlan s.plan x.id target level).steps := by
  unfold modified
  split <;> rfl

/-- The fields of a step that Modify Step leaves as they are. -/
theorem modify_eq_self_iff (x : Step) (target level : Nat) : x.modify target level = x ↔
    (if target = 0 then x.target else target * 1000000) = x.target ∧ modifiedLevel level x.maxLevel = x.maxLevel := by
  refine ⟨fun h => ⟨congrArg Step.target h, congrArg Step.maxLevel h⟩, fun ⟨ht, hm⟩ => ?_⟩
  unfold Step.modify gramsPerTonne
  rw [ht, hm]

theorem modified_eq (x : Step) (target level : Nat) (s : State) :
    let changed := (if target = 0 then x.target else target * 1000000) ≠ x.target ∨
      modifiedLevel level x.maxLevel ≠ x.maxLevel
    let revision := if changed then (s.plan.revision + 1) % 65536 else s.plan.revision
    modified x target level s = { s with
      plan := { modifiedPlan s.plan x.id target level with revision := revision }
      events := if changed then s.events.raise (.planChanged revision) else s.events } := by
  intro changed revision
  by_cases same : x.modify target level = x
  · have unchanged : ¬ changed := by
      rw [modify_eq_self_iff] at same
      simpa [changed] using same
    simp only [revision, modified, if_pos same, if_neg unchanged]
    rfl
  · have changes : changed := by
      rw [modify_eq_self_iff] at same
      simpa [changed, imp_iff_not_or] using same
    simp only [revision, modified, if_neg same, if_pos changes]
    rfl

theorem modifiedPlan_eq {p : Plan} {x : Step} (mem : x ∈ p.steps) (ids : p.steps.Pairwise (fun a b => a.id ≠ b.id))
    (target level : Nat) : modifiedPlan p x.id target level = { p with steps := p.steps.map (fun y =>
      if y.id = x.id then { y with
        target := if target = 0 then x.target else target * 1000000, maxLevel := modifiedLevel level x.maxLevel }
      else y) } := by
  have each : ∀ y ∈ p.steps, (if (y.id == x.id) = true then y.modify target level else y) = if y.id = x.id then { y with
        target := if target = 0 then x.target else target * 1000000, maxLevel := modifiedLevel level x.maxLevel } else y := by
    intro y hy
    by_cases same : y.id = x.id
    · obtain rfl : y = x := eq_of_id_eq ids hy mem same
      simp [Step.modify, gramsPerTonne]
    · simp [same]
  rw [modifiedPlan, Plan.updateId, List.map_congr_left each]

theorem ownModifyStep_unfinished {id target level : Nat} {s : State} {x : Step} (call : s.plan.callOpen = true)
    (good : ModifyGood target level) (found : stepOf s.plan id = some x) (open_ : x.unfinished = true) :
    ownModifyStep id target level s = (modifyPlan x target level s, modifyReply id (modifyPlan x target level s)) := by
  rw [ownModifyStep, if_neg (by simp [call]), if_neg (fun h => (modifyMalformed_iff target level).1 h good), found]
  exact if_pos open_

/-- Settles O29: the record is written with the fields given, and the ACTIVE step is re-evaluated (`reEvaluate_reEvaluated`); its
step is still found afterwards, as a re-evaluation keeps the ids. -/
theorem modifyStepOfAWaitingStep : Obligations.ModifyStepOfAWaitingStep := by
  intro s id target level hr modify good
  have run : modify = _ := exec_request_of_running (.modifyStep id target level) hr
  have malformed := modifyMalformed_iff target.toNat level.toNat
  refine ⟨fun closed => ?_, fun call bad => ?_, fun call values none => ?_, fun x call values found => ?_⟩
  · rw [run, ownModifyStep, closed]
    rfl
  · rw [run, ownModifyStep, if_neg (by simp [call]), if_pos (malformed.2 bad)]
    rfl
  · rw [run, ownModifyStep, if_neg (by simp [call]), if_neg (fun h => malformed.1 h values), none]
    rfl
  intro mass maximum changed revision x1 s1
  obtain ⟨mem, same⟩ := stepOf_some found
  have record : x.modify target.toNat level.toNat = x1 := rfl
  have written (lawful : PlanLaw s) : modified x target.toNat level.toNat s = s1 := by
    rw [modified_eq, modifiedPlan_eq mem lawful.ids]
    simp only [same]
    rfl
  refine ⟨fun ended => ?_, fun waits lawful => ?_, fun active lawful => ?_⟩
  · have finished : x.unfinished = false := by obtain e | e := ended <;> simp [Step.unfinished, e]
    rw [run, ownModifyStep, if_neg (by simp [call]), if_neg (fun h => malformed.1 h values), found]
    dsimp only
    rw [if_neg (Bool.eq_false_iff.1 finished)]
    rfl
  · have open_ : x.unfinished = true := by obtain e | e := waits <;> simp [Step.unfinished, e]
    have notActive : x.state ≠ .active := by obtain e | e := waits <;> simp [e]
    have plan : stepOf s1.plan id.toNat = some x1 := by
      rw [← written lawful, stepOf, modified_steps, same]
      exact stepOf_modified found _ _
    rw [run, ownModifyStep_unfinished call values found open_, modifyPlan_eq, if_neg notActive, written lawful, modifyReply,
      plan]
  · have open_ : x.unfinished = true := by simp [Step.unfinished, active]
    have stillActive : activeStep s1.plan = some x1 := by
      rw [← written lawful, activeStep, modified_steps]
      exact activeStep_modified (activeStep_of_lawful lawful mem active) _ _
    have still : (stepOf s1.plan id.toNat).isSome = true := by
      rw [← written lawful, stepOf, modified_steps, same]
      exact congrArg Option.isSome (stepOf_modified found target.toNat level.toNat)
    obtain ⟨x2, hx2⟩ := Option.isSome_iff_exists.1
      (stepOf_isSome_of_follows (reEvaluate_plan (s₀ := s1) (s := s1) (.refl _)) still)
    refine ⟨reEvaluate s1, x2, reEvaluate_reEvaluated stillActive, hx2, ?_⟩
    rw [run, ownModifyStep_unfinished call values found open_, modifyPlan_eq, if_pos active, written lawful, modifyReply, hx2]

end Sys2Proof.Machine
end

section
/-! The reads with a limit (R165): what a part of a content holds, and the five reads that send one. -/

namespace Sys2Proof.Machine

open Sys2Proof

/-! ### A part of a content -/

theorem sum_lengths_of_size {l : List (List Byte)} {size : Nat} (h : ∀ e ∈ l, e.length = size) :
    l.flatten.length = size * l.length := by
  rw [List.length_flatten, List.map_congr_left h]
  simp [Nat.mul_comm]

/-- A part sent by R165, of entries of one size: as many as fit in the limit, and at least one while any is left. -/
theorem readPart_inParts {fixed : List Byte} {entries : List (List Byte)} {size offset limit : Nat}
    (sizes : ∀ e ∈ entries, e.length = size) (positive : 0 < size) :
    ReadInParts (readPart fixed entries offset (max 1 ((limit - (3 + fixed.length)) / size))) fixed entries offset limit := by
  set count := max 1 ((limit - (3 + fixed.length)) / size) with hcount
  have atLeast : 1 ≤ count := le_max_left _ _
  set sent := (entries.drop offset).take count with hsent
  set rest := (entries.drop offset).drop count with hrest
  have lengths : sent.length = min count (entries.length - offset) ∧ rest.length = entries.length - offset - count := by
    simp only [hsent, hrest, List.length_take, List.length_drop, and_self]
  have parts : readPart fixed entries offset count = [yesNo (!rest.isEmpty)] ++
      le 2 (if entries.length ≤ offset then entries.length else offset + sent.length) ++ fixed ++ sent.flatten := by
    have more : decide ((if entries.length ≤ offset then entries.length else offset + sent.length) < entries.length) =
        !rest.isEmpty := by
      rw [Bool.eq_iff_iff, decide_eq_true_eq, Bool.not_eq_true', List.isEmpty_eq_false_iff, ← List.length_pos_iff, lengths.2,
        lengths.1]
      split <;> omega
    rw [← more]
    rfl
  have flat : sent.flatten.length = size * sent.length :=
    sum_lengths_of_size fun e he => sizes e (List.mem_of_mem_drop (List.mem_of_mem_take he))
  have total : (readPart fixed entries offset count).length = 3 + fixed.length + size * sent.length := by
    rw [parts]
    simp only [List.length_append, List.length_cons, List.length_nil, le_length, flat]
  refine ⟨sent, rest, (List.take_append_drop _ _).symm, parts, fun none => ?_, fun two => ?_, fun e he => ?_⟩
  · rw [← List.length_eq_zero_iff] at none ⊢
    omega
  · have fits : sent.length ≤ (limit - (3 + fixed.length)) / size := by omega
    have bound := (Nat.le_div_iff_mul_le positive).1 fits
    rw [Nat.mul_comm] at bound
    have some : 0 < size * sent.length := Nat.mul_pos positive (by omega)
    omega
  · have mem : e ∈ rest := List.mem_of_head? he
    have full : sent.length = count := by
      have := List.length_pos_of_mem mem
      omega
    have over' : limit - (3 + fixed.length) < size * (count + 1) := by
      have below := Nat.lt_mul_of_div_lt (show (limit - (3 + fixed.length)) / size < count + 1 by omega) positive
      rwa [Nat.mul_comm] at below
    rw [total, full, sizes e (List.mem_of_mem_drop (List.mem_of_mem_drop mem))]
    rw [Nat.mul_add_one] at over'
    omega

theorem limitOk_iff (limit : Nat) : limitOk limit = true ↔ 16 ≤ limit ∧ limit ≤ 508 := by
  simp [limitOk]

theorem readEntries_refused {fixed : List Byte} {entries : List (List Byte)} {size offset limit : Nat}
    (out : ¬ (16 ≤ limit ∧ limit ≤ 508)) : readEntries fixed entries size offset limit = answerOnly .badValue :=
  if_neg (mt (limitOk_iff limit).1 out)

theorem readBytes_refused {fixed bytes : List Byte} {offset limit : Nat} (out : ¬ (16 ≤ limit ∧ limit ≤ 508)) :
    readBytes fixed bytes offset limit = answerOnly .badValue :=
  if_neg (mt (limitOk_iff limit).1 out)

/-- A read counted in entries, within the limits. -/
theorem readEntries_inParts {fixed : List Byte} {entries : List (List Byte)} {size offset limit : Nat}
    (inRange : 16 ≤ limit ∧ limit ≤ 508) (sizes : ∀ e ∈ entries, e.length = size) (positive : 0 < size) :
    ∃ d, readEntries fixed entries size offset limit = answerOk d ∧ ReadInParts d fixed entries offset limit :=
  ⟨_, if_pos ((limitOk_iff limit).2 inRange), readPart_inParts sizes positive⟩

/-- A read counted in bytes, within the limits, with a fixed part that leaves room. -/
theorem readBytes_inParts {fixed bytes : List Byte} {offset limit : Nat} (inRange : 16 ≤ limit ∧ limit ≤ 508)
    (short : fixed.length ≤ 5) : ∃ d, readBytes fixed bytes offset limit = answerOk d ∧
      ReadInParts d fixed (bytes.map (fun b => [b])) offset limit := by
  have count : limit - (3 + fixed.length) = max 1 ((limit - (3 + fixed.length)) / 1) := by
    rw [Nat.div_one]
    omega
  refine ⟨_, if_pos ((limitOk_iff limit).2 inRange), ?_⟩
  rw [count]
  exact readPart_inParts (by simp) Nat.one_pos

@[simp] theorem leInt_length (n : Nat) (v : Int) : (leInt n v).length = n := le_length n _

theorem hatchRecord_length (h : Hold) (e : Option Hatch) : (hatchRecord h e).length = 14 := by
  cases e <;> simp [hatchRecord]

theorem stepRecord_length (x : Step) : (stepRecord x).length = 33 := by
  simp [stepRecord, leOpt]

theorem settingEntry_length (s : State) (k : SettingKey) : (settingEntry s k).length = 6 := by
  simp [settingEntry]

/-! ### The five reads -/

/-- A read that its owner answers OK leaves the state as it is. -/
theorem exec_read {c : Instr} {st : Station} {f : State → State × Answer} {s : State} (hc : IsRequest c st f)
    (hr : s.phase = .running) {a : Answer} (reads : f s = (s, a)) : exec c s = .next { s with answer := some (st, a) } := by
  rw [exec_request_of_running hc hr, reads]

section
variable {s : State} {st : Station} {offset limit : BitVec 16} (hr : s.phase = .running)
  (inRange : 16 ≤ limit.toNat ∧ limit.toNat ≤ 508)
include hr inRange

theorem readHatchMap_part {page : Byte} {p : Page} (named : pageOf s.travel page.toNat = some p) :
    ∃ d, exec (.readHatchMap st page offset limit) s = .next (s.replied st .ok d) ∧
      ReadInParts d [BitVec.ofNat 8 p.val, BitVec.ofNat 8 s.travel.activePage.val, yesNo s.travel.swapPending]
        (allHolds.map (fun h => hatchRecord h ((s.travel.pages.get p).get h))) offset.toNat limit.toNat := by
  obtain ⟨d, e, parts⟩ := readEntries_inParts (fixed := [BitVec.ofNat 8 p.val, BitVec.ofNat 8 s.travel.activePage.val,
    yesNo s.travel.swapPending]) (entries := allHolds.map (fun h => hatchRecord h ((s.travel.pages.get p).get h)))
    (size := 14) (offset := offset.toNat) inRange
    (by simp [hatchRecord_length]) (by decide)
  refine ⟨d, exec_read (.readHatchMap st page offset limit) hr ?_, parts⟩
  rw [ownReadHatchMap, named]
  exact congrArg (Prod.mk s) e

theorem readLot_part {slot : Byte} {i : Slot} (named : slotOf slot.toNat = some i) :
    ∃ d, exec (.readLot st slot offset limit) s = .next (s.replied st .ok d) ∧
      ReadInParts d [] ((lotRecord i (s.accounts.lots.get i) (massInLine s.weigher.line (.lot i))).map (fun b => [b]))
        offset.toNat limit.toNat := by
  obtain ⟨d, e, parts⟩ := readBytes_inParts (fixed := [])
    (bytes := lotRecord i (s.accounts.lots.get i) (massInLine s.weigher.line (.lot i))) (offset := offset.toNat) inRange
    (by simp)
  refine ⟨d, exec_read (.readLot st slot offset limit) hr ?_, parts⟩
  rw [ownReadLot, named]
  exact congrArg (Prod.mk s) e

theorem readBill_part {number : BitVec 32} {b : Bill} (named : billNamed s.accounts number.toNat = some b) :
    ∃ d, exec (.readBill st number offset limit) s = .next (s.replied st .ok d) ∧
      ReadInParts d (le 4 b.number ++ [BitVec.ofNat 8 s.accounts.bills.length]) ((billRecord b).map (fun x => [x]))
        offset.toNat limit.toNat := by
  obtain ⟨d, e, parts⟩ := readBytes_inParts (fixed := le 4 b.number ++ [BitVec.ofNat 8 s.accounts.bills.length])
    (bytes := billRecord b) (offset := offset.toNat) inRange (by simp)
  refine ⟨d, exec_read (.readBill st number offset limit) hr ?_, parts⟩
  rw [ownReadBill, if_pos ((limitOk_iff _).2 inRange), named]
  exact congrArg (Prod.mk s) e

theorem readBill_notFound {number : BitVec 32} (unknown : billNamed s.accounts number.toNat = none) :
    exec (.readBill st number offset limit) s = .next (s.replied st .notFound []) := by
  refine exec_read (.readBill st number offset limit) hr ?_
  rw [ownReadBill, if_pos ((limitOk_iff _).2 inRange), unknown]
  rfl

end

theorem pageOf_none {t : Travel} {page : Byte} (h0 : page ≠ 0) (h1 : page ≠ 1) (h255 : page ≠ 0xFF) :
    pageOf t page.toNat = none := by
  have n0 : page.toNat ≠ 0 := fun h => h0 (BitVec.eq_of_toNat_eq h)
  have n1 : page.toNat ≠ 1 := fun h => h1 (BitVec.eq_of_toNat_eq h)
  have n255 : page.toNat ≠ 0xFF := fun h => h255 (BitVec.eq_of_toNat_eq h)
  rw [pageOf, if_neg n0, if_neg n1, if_neg n255]

theorem pageOf_some {t : Travel} {page : Byte} {p : Page}
    (h : (page = 0 ∧ p = 0) ∨ (page = 1 ∧ p = 1) ∨ (page = 0xFF ∧ p = t.activePage)) : pageOf t page.toNat = some p := by
  obtain ⟨rfl, rfl⟩ | ⟨rfl, rfl⟩ | ⟨rfl, rfl⟩ := h <;> rfl

theorem billNamed_of_ne {a : Accounts} {n : Nat} (h : n ≠ 0) : billNamed a n = a.bills.find? (fun b => b.number == n) :=
  if_neg h

/-- A limit out of range is refused whatever the read names. -/
theorem reads_refused {s : State} {st : Station} {offset limit : BitVec 16} (hr : s.phase = .running)
    (out : ¬ (16 ≤ limit.toNat ∧ limit.toNat ≤ 508)) (slot page : Byte) (number : BitVec 32) :
    exec (.readPlan st offset limit) s = .next (s.replied st .badValue []) ∧
    exec (.readSettings st offset limit) s = .next (s.replied st .badValue []) ∧
    exec (.readHatchMap st page offset limit) s = .next (s.replied st .badValue []) ∧
    exec (.readLot st slot offset limit) s = .next (s.replied st .badValue []) ∧
    exec (.readBill st number offset limit) s = .next (s.replied st .badValue []) := by
  refine ⟨exec_read (.readPlan st offset limit) hr ?_, exec_read (.readSettings st offset limit) hr ?_,
    exec_read (.readHatchMap st page offset limit) hr ?_, exec_read (.readLot st slot offset limit) hr ?_,
    exec_read (.readBill st number offset limit) hr ?_⟩
  · rw [ownReadPlan, readEntries_refused out]
    rfl
  · rw [ownReadSettings, readEntries_refused out]
    rfl
  · rw [ownReadHatchMap]
    cases pageOf s.travel page.toNat with
    | none => rfl
    | some p => exact congrArg (Prod.mk s) (readEntries_refused out)
  · rw [ownReadLot]
    cases slotOf slot.toNat with
    | none =>
      dsimp only
      rw [readBytes_refused out, ite_self]
      rfl
    | some i => exact congrArg (Prod.mk s) (readBytes_refused out)
  · rw [ownReadBill, if_neg (mt (limitOk_iff _).1 out)]
    rfl

/-- Settles O8. -/
theorem readsInPartsAreWhole : Obligations.ReadsInPartsAreWhole := by
  intro st offset limit s hr
  refine ⟨fun out slot page number => reads_refused hr out slot page number, fun low high => ?_⟩
  have inRange := And.intro low high
  refine ⟨?_, ?_, fun page p named => readHatchMap_part hr inRange (pageOf_some named), fun page h0 h1 h255 => ?_, fun i => ?_,
    ?_, fun slot beyond h255 => ?_, fun number b named => readBill_part hr inRange ?_,
    fun number unknown => readBill_notFound hr inRange ?_⟩
  · obtain ⟨d, e, parts⟩ := readEntries_inParts (fixed := planFixed s.plan) (entries := s.plan.steps.map stepRecord)
      (size := 33) (offset := offset.toNat) inRange (by simp [stepRecord_length]) (by decide)
    exact ⟨d, exec_read (.readPlan st offset limit) hr (congrArg (Prod.mk s) e), parts⟩
  · obtain ⟨d, e, parts⟩ := readEntries_inParts (fixed := [yesNo s.store.defaulted] ++ le 4 s.store.calibrationCount ++
      le 2 s.store.checkWord.toNat) (entries := allKeys.map (settingEntry s)) (size := 6) (offset := offset.toNat) inRange
      (by simp [settingEntry_length]) (by decide)
    exact ⟨d, exec_read (.readSettings st offset limit) hr (congrArg (Prod.mk s) e), parts⟩
  · refine exec_read (.readHatchMap st page offset limit) hr ?_
    rw [ownReadHatchMap, pageOf_none h0 h1 h255]
    rfl
  · refine readLot_part hr inRange (slotOf_eq_some ?_)
    simp [Nat.mod_eq_of_lt (show i.val < 256 by omega)]
  · obtain ⟨d, e, parts⟩ := readBytes_inParts (fixed := [])
      (bytes := unassignedRecord s.accounts.unassigned (massInLine s.weigher.line .unassigned)) (offset := offset.toNat)
      inRange (by simp)
    exact ⟨d, exec_read (.readLot st 0xFF offset limit) hr (congrArg (Prod.mk s) e), parts⟩
  · have notAll : ¬ slot.toNat = 0xFF := fun h => h255 (BitVec.eq_of_toNat_eq h)
    refine exec_read (.readLot st slot offset limit) hr ?_
    rw [ownReadLot, slotOf_eq_none (by omega)]
    dsimp only
    rw [if_neg notAll]
    rfl
  · obtain ⟨rfl, oldest⟩ | ⟨some, found⟩ := named
    · exact oldest
    · exact (billNamed_of_ne (mt toNat_eq_zero_iff.1 some)).trans found
  · obtain ⟨rfl, none⟩ | ⟨some, none⟩ := unknown
    · exact congrArg List.head? none
    · rw [billNamed_of_ne (mt toNat_eq_zero_iff.1 some), List.find?_eq_none]
      simpa using none

end Sys2Proof.Machine
end

section
/-! Lots and bills: Open Lot, Close Lot and Release Bill (sections 7.2, 7.5, 7.6). -/

namespace Sys2Proof.Machine

open Sys2Proof

/-! ### The slots -/

/-- The first slot that meets a test, the lower ones failing it. -/
theorem find_slot {q : Slot → Bool} {i : Slot} (hi : q i = true) (lower : ∀ j, j < i → q j = false) :
    allSlots.find? q = some i := by
  cases found : allSlots.find? q with
  | none => exact absurd hi (List.find?_eq_none.1 found i (mem_allSlots i))
  | some k =>
    obtain ⟨hk, before, after, split, first⟩ := List.find?_eq_some_iff_append.1 found
    have sorted : (before ++ k :: after).Pairwise (· < ·) := by
      rw [← split]
      decide
    have mem : i ∈ before ++ k :: after := split ▸ mem_allSlots i
    obtain inBefore | inAfter := List.mem_append.1 mem
    · exact absurd hi (by simpa using first i inBefore)
    · obtain rfl | later := List.mem_cons.1 inAfter
      · rfl
      · have below := (List.pairwise_cons.1 (List.pairwise_append.1 sorted).2.1).1 i later
        rw [lower k below] at hk
        cases hk

theorem find_slot_none {q : Slot → Bool} (h : ∀ i, q i = false) : allSlots.find? q = none :=
  List.find?_eq_none.2 fun i _ => by simp [h i]

theorem slotOfLot_isSome_iff (s : State) (number : Nat) : (slotOfLot s number).isSome = true ↔
    ∃ i, slotOpen s i ∧ (s.accounts.lots.get i).number = number := by
  simp only [slotOfLot, List.find?_isSome, Bool.and_eq_true, beq_iff_eq, mem_allSlots, true_and]

theorem slotOfLot_of_first {s : State} {number : Nat} {i : Slot} (open_ : slotOpen s i)
    (carries : (s.accounts.lots.get i).number = number)
    (lower : ∀ j, j < i → slotOpen s j → (s.accounts.lots.get j).number ≠ number) : slotOfLot s number = some i := by
  refine find_slot (by simp [open_, carries]) fun j hj => ?_
  rw [Bool.and_eq_false_imp]
  exact fun open' => beq_eq_false_iff_ne.2 (lower j hj open')

theorem slotOfLot_eq_none {s : State} {number : Nat}
    (absent : ∀ i, slotOpen s i → (s.accounts.lots.get i).number ≠ number) : slotOfLot s number = none :=
  find_slot_none fun i => by
    rw [Bool.and_eq_false_imp]
    exact fun open' => beq_eq_false_iff_ne.2 (absent i open')

theorem freeSlot_of_first {s : State} {i : Slot} (free : ¬ slotOpen s i) (lower : ∀ j, j < i → slotOpen s j) :
    freeSlot s = some i :=
  find_slot (by simpa using free) fun j hj => by simp [lower j hj]

theorem freeSlot_eq_none {s : State} (h : ∀ i, slotOpen s i) : freeSlot s = none :=
  find_slot_none fun i => by simp [h i]

/-! ### Open Lot (R138, R139) -/

/-- The values of an Open Lot are good (R138). -/
abbrev LotGood (number grade length : Nat) (chars : List Byte) (declared : Nat) : Prop :=
  number ≠ 0 ∧ grade ≠ 0 ∧ 1 ≤ length ∧ length ≤ 24 ∧
    (∀ c ∈ chars.take length, 0x20 ≤ c.toNat ∧ c.toNat ≤ 0x7E) ∧ declared ≤ 999999999

theorem openLotMalformed_iff (number grade length : Nat) (chars : List Byte) (declared : Nat) :
    openLotMalformed number grade length chars declared = false ↔ LotGood number grade length chars declared := by
  simp only [openLotMalformed, carriedReference, Bool.or_eq_false_iff, beq_eq_false_iff_ne, decide_eq_false_iff_not, not_lt,
    List.any_eq_false, Bool.not_eq_true, LotGood, and_assoc, Nat.one_le_iff_ne_zero]

theorem ownOpenLot_badValue {number grade length : Nat} {chars : List Byte} {declared : Nat} {s : State}
    (bad : ¬ LotGood number grade length chars declared ∨ ∃ i, slotOpen s i ∧ (s.accounts.lots.get i).number = number) :
    ownOpenLot number grade length chars declared s = (s, answerOnly .badValue) := by
  have malformed := openLotMalformed_iff number grade length chars declared
  unfold ownOpenLot
  by_cases good : LotGood number grade length chars declared
  · rw [if_neg (Bool.eq_false_iff.1 (malformed.2 good)),
      if_pos ((slotOfLot_isSome_iff s number).2 (bad.resolve_left (not_not.2 good)))]
  · rw [if_pos (by simpa using mt malformed.1 good)]

theorem ownOpenLot_eq {number grade length : Nat} {chars : List Byte} {declared : Nat} {s : State}
    (good : LotGood number grade length chars declared)
    (new : ¬ ∃ i, slotOpen s i ∧ (s.accounts.lots.get i).number = number) :
    ownOpenLot number grade length chars declared s = match freeSlot s with
      | none => (s, answerOnly .full)
      | some i => (setLot i
          { isOpen := true, number := number, grade := grade, reference := chars.take length
            declared := if declared = 0 then none else some declared, opened := stamp s.accounts, ledger := Ledger.empty } s,
          answerOk ([BitVec.ofNat 8 i.val, yesNo (stamp s.accounts).isSome] ++ le 4 ((stamp s.accounts).getD 0))) := by
  unfold ownOpenLot
  rw [if_neg (Bool.eq_false_iff.1 ((openLotMalformed_iff number grade length chars declared).2 good)),
    if_neg (mt (slotOfLot_isSome_iff s number).1 new)]
  cases freeSlot s <;> rfl

/-! ### Close Lot (R145 to R148) -/

/-- What keeps a lot open: an unfinished step that names its slot, or grain of it in the line (R145). -/
abbrev LotHeld (s : State) (i : Slot) : Prop :=
  (∃ x ∈ s.plan.steps, x.unfinished = true ∧ x.slot = i) ∨ ∃ e ∈ s.weigher.line, e.mass ≠ 0 ∧ e.tag = some (.lot i)

theorem lotHeld_iff (s : State) (i : Slot) :
    (slotPlanned s.plan i = true ∨ slotInLine s.weigher i = true) ↔ LotHeld s i := by
  simp [slotPlanned, slotInLine, LotHeld]

/-- The tests of a Close Lot whose slot is known, in their order (R145). -/
def closeTests (i : Slot) (s : State) : List (Bool × Answer) :=
  [(slotPlanned s.plan i, answerOnly .busy), (slotInLine s.weigher i, answerOnly .busy),
   (decide (32 ≤ s.accounts.bills.length), answerOnly .full)]

theorem closeTests_busy {i : Slot} {s : State} (held : LotHeld s i) : firstOf (closeTests i s) = some (answerOnly .busy) := by
  rw [← lotHeld_iff] at held
  unfold closeTests
  cases planned : slotPlanned s.plan i
  · have inLine : slotInLine s.weigher i = true := by simpa [planned] using held
    simp [firstOf, inLine]
  · rfl

theorem closeTests_eq {i : Slot} {s : State} (free : ¬ LotHeld s i) : firstOf (closeTests i s) =
    if 32 ≤ s.accounts.bills.length then some (answerOnly .full) else none := by
  rw [← lotHeld_iff, not_or, Bool.not_eq_true, Bool.not_eq_true] at free
  simp [closeTests, firstOf, free.1, free.2]

theorem ownCloseLot_refused {number : Nat} {s : State} {i : Slot} {a : Answer} (good : number ≠ 0)
    (found : slotOfLot s number = some i) (refused : firstOf (closeTests i s) = some a) :
    ownCloseLot number s = (s, a) := by
  rw [closeTests] at refused
  rw [ownCloseLot, if_neg good, found]
  dsimp only
  rw [refused]

theorem ownCloseLot_exhausted {number : Nat} {s : State} {i : Slot} (good : number ≠ 0)
    (found : slotOfLot s number = some i) (passed : firstOf (closeTests i s) = none)
    (exhausted : s.accounts.billCounter = none) : ownCloseLot number s = (s, answerOnly .full) := by
  rw [closeTests] at passed
  rw [ownCloseLot, if_neg good, found]
  dsimp only
  rw [passed, exhausted]

theorem ownCloseLot_accepted {number : Nat} {s : State} {i : Slot} {n : Nat} (good : number ≠ 0)
    (found : slotOfLot s number = some i) (passed : firstOf (closeTests i s) = none)
    (counter : s.accounts.billCounter = some n) : ownCloseLot number s =
      (issueBill n i (formBill n i (s.accounts.lots.get i) s) s,
        answerOk (le 4 n ++ le 8 (formBill n i (s.accounts.lots.get i) s).net ++
          le 8 (formBill n i (s.accounts.lots.get i) s).tonnage)) := by
  rw [closeTests] at passed
  rw [ownCloseLot, if_neg good, found]
  dsimp only
  rw [passed, counter]
  rfl

/-- A bill issued: stored, the slot FREE, the weighing lot cleared if it named the slot, and BILL_ISSUED (R146, R147). -/
theorem issueBill_eq (n : Nat) (i : Slot) (b : Bill) (s : State) : issueBill n i b s = { s with
    accounts := { s.accounts with
      bills := s.accounts.bills ++ [b], billCounter := nextBill n, lots := s.accounts.lots.set i Lot.free }
    weigher := { s.weigher with
      weighingLot := if s.weigher.weighingLot = some i then none else s.weigher.weighingLot }
    events := s.events.raise (.billIssued n) } := by
  unfold issueBill
  dsimp only
  split <;> rfl

/-- Settles O37. -/
theorem lotsOpenAndClose : Obligations.LotsOpenAndClose := by
  intro s hr stamped nothing
  refine ⟨fun number grade length chars declared => ?_, fun number => ?_⟩
  · intro request reference good carried
    have run : request = _ := exec_request_of_running (.openLot number grade length chars declared) hr
    have values : good ↔ LotGood number.toNat grade.toNat length.toNat chars declared.toNat := by
      simp only [good, LotGood, reference, Ne, toNat_eq_zero_iff]
    refine ⟨fun bad => ?_, fun fits new full => ?_, fun i fits new free lower => ?_⟩
    · rw [run, ownOpenLot_badValue (bad.imp_left (mt values.2))]
      rfl
    · rw [run, ownOpenLot_eq (values.1 fits) new, freeSlot_eq_none full]
      rfl
    · rw [run, ownOpenLot_eq (values.1 fits) new, freeSlot_of_first free lower]
      have given : (if declared.toNat = 0 then none else some declared.toNat) =
          if declared = 0 then none else some declared.toNat := by
        simp only [toNat_eq_zero_iff]
      rw [given]
      rfl
  · intro request
    have run : request = _ := exec_request_of_running (.closeLot number) hr
    refine ⟨fun zero => ?_, fun some unknown => ?_, fun i some open_ carries lower => ?_⟩
    · rw [run, ownCloseLot, if_pos (toNat_eq_zero_iff.2 zero)]
      rfl
    · rw [run, ownCloseLot, if_neg (mt toNat_eq_zero_iff.1 some), slotOfLot_eq_none unknown]
      rfl
    have good := mt toNat_eq_zero_iff.1 some
    have found := slotOfLot_of_first open_ carries lower
    intro lot net held
    refine ⟨fun keeps => ?_, fun free full => ?_, fun n free room counter => ?_⟩
    · rw [run, ownCloseLot_refused good found (closeTests_busy keeps)]
      rfl
    · by_cases many : 32 ≤ s.accounts.bills.length
      · rw [run, ownCloseLot_refused good found ((closeTests_eq free).trans (if_pos many))]
        rfl
      · rw [run, ownCloseLot_exhausted good found ((closeTests_eq free).trans (if_neg many)) (full.resolve_left many)]
        rfl
    · rw [run, ownCloseLot_accepted good found ((closeTests_eq free).trans (if_neg room.not_ge)) counter, issueBill_eq]
      have bill : formBill n i (s.accounts.lots.get i) s =
          { number := n, slot := i, lotNumber := number.toNat, grade := lot.grade, reference := lot.reference
            declared := lot.declared, ledger := lot.ledger, net := net, tonnage := (net + 500) / 1000
            opened := lot.opened, closed := stamped, calibrationCount := s.store.calibrationCount
            callId := s.plan.callId } := by
        rw [formBill, carries]
        rfl
      rw [bill]
      rfl

/-! ### Release Bill (R151) -/

theorem ownReleaseBill_unknown {n : Nat} {s : State} (good : n ≠ 0) (unknown : ∀ b ∈ s.accounts.bills, b.number ≠ n) :
    ownReleaseBill n s = (s, answerOnly .notFound) := by
  have none : ¬ s.accounts.bills.any (fun b => b.number == n) = true := by simpa using unknown
  rw [ownReleaseBill, if_neg good, if_neg none]

/-- A bill that goes leaves the others in their order (R151). -/
theorem ownReleaseBill_accepted {s : State} {before after : List Bill} {b : Bill} (good : b.number ≠ 0)
    (bills : s.accounts.bills = before ++ b :: after)
    (before_ : ∀ x ∈ before, x.number ≠ b.number) (after_ : ∀ x ∈ after, x.number ≠ b.number) :
    ownReleaseBill b.number s = ({ s with accounts := { s.accounts with bills := before ++ after } },
      answerOk [BitVec.ofNat 8 (before.length + after.length)]) := by
  have kept : s.accounts.bills.filter (fun x => x.number != b.number) = before ++ after := by
    rw [bills, List.filter_append, List.filter_cons_of_neg (by simp), List.filter_eq_self.2 (by simpa using before_),
      List.filter_eq_self.2 (by simpa using after_)]
  rw [ownReleaseBill, if_neg good, if_pos (by simp [bills]), kept, ← List.length_append]

/-- Settles O38: the numbers rise strictly, so that the named bill is the only one to go, and none is left of its number. -/
theorem releaseBillRemovesTheBill : Obligations.ReleaseBillRemovesTheBill := by
  refine ⟨rfl, fun st => ?_, fun s n hr => ⟨fun zero => ?_, fun given unknown => ?_, fun before b after given bills number rising => ?_⟩⟩
  · cases st <;> decide
  · rw [exec_request_of_running (.releaseBill n) hr, ownReleaseBill, if_pos (toNat_eq_zero_iff.2 zero)]
    rfl
  · rw [exec_request_of_running (.releaseBill n) hr, ownReleaseBill_unknown (mt toNat_eq_zero_iff.1 given) unknown]
    rfl
  have good : n.toNat ≠ 0 := mt toNat_eq_zero_iff.1 given
  rw [bills, List.pairwise_append, List.pairwise_cons] at rising
  obtain ⟨-, ⟨later, -⟩, earlier⟩ := rising
  have before_ : ∀ x ∈ before, x.number ≠ n.toNat := fun x hx => number ▸ (earlier x hx b (by simp)).ne
  have after_ : ∀ x ∈ after, x.number ≠ n.toNat := fun x hx => number ▸ (later x hx).ne'
  have gone : ∀ x ∈ before ++ after, x.number ≠ n.toNat := fun x hx =>
    (List.mem_append.1 hx).elim (before_ x) (after_ x)
  have released := ownReleaseBill_accepted (number ▸ good) bills (number ▸ before_) (number ▸ after_)
  rw [number] at released
  let t : State := { s with
    accounts := { s.accounts with bills := before ++ after }
    answer := some (.office, answerOk [BitVec.ofNat 8 (before.length + after.length)]) }
  have taken : exec (.releaseBill n) s = .next t := by
    rw [exec_request_of_running (.releaseBill n) hr, released]
  refine ⟨t, taken, rfl, ?_, fun st offset limit low high => ⟨readBill_part hr ⟨low, high⟩ ?_, ?_⟩⟩
  · rw [exec_request_of_running (s := t) (.releaseBill n) hr, ownReleaseBill_unknown good gone]
    rfl
  · rw [billNamed_of_ne good, bills, List.find?_append, List.find?_eq_none.2 (by simpa using before_)]
    simp [number]
  · refine readBill_notFound (s := t) hr ⟨low, high⟩ ?_
    rw [billNamed_of_ne good, List.find?_eq_none]
    exact fun x hx => by simpa using gone x hx

end Sys2Proof.Machine
end

section
/-! Write Calibration (R2, R3): its judgement and its four changes. -/

namespace Sys2Proof.Machine

open Sys2Proof

theorem calibrationInRange_iff (z span : Nat) (band : Byte) :
    (SettingKey.inRange z .zero && SettingKey.inRange span .span && SettingKey.inRange band.toNat .band) = true ↔
      z ≤ 4095 ∧ 1 ≤ span ∧ span ≤ 9999 := by
  have byte : band.toNat ≤ 255 := by omega
  simp [SettingKey.inRange, byte]

theorem openLotWeighed_iff (s : State) :
    openLotWeighed s = true ↔ ∃ i, slotOpen s i ∧ 0 < (s.accounts.lots.get i).ledger.weighed := by
  simp [openLotWeighed, mem_allSlots, Nat.pos_iff_ne_zero]

theorem calibrate_eq (z span band : Nat) (s : State) : calibrate z span band s =
    let x := { s.store.settings with zero := z, span := span, band := band }
    { s with
      store := { s.store with
        settings := x, checkWord := checkWord x
        calibrationCount := if s.store.calibrationCount < 4294967295 then s.store.calibrationCount + 1 else 4294967295 }
      weigher := { s.weigher with segmentSum := 0, segmentCount := 0, lastMean := 0 } } := by
  have counted : min (s.store.calibrationCount + 1) max32 =
      if s.store.calibrationCount < 4294967295 then s.store.calibrationCount + 1 else 4294967295 := by
    simp only [max32]
    split <;> omega
  simp only [calibrate, storeSettings, counted]

section
variable {z span : Nat} {band : Byte} {s : State}

theorem ownWriteCalibration_bad (bad : ¬ (z ≤ 4095 ∧ 1 ≤ span ∧ span ≤ 9999)) :
    ownWriteCalibration z span band.toNat s = (s, answerOnly .badValue) := by
  rw [← calibrationInRange_iff z span band] at bad
  exact if_pos (by simpa only [Bool.not_eq_true', ← Bool.not_eq_true] using bad)

theorem ownWriteCalibration_good (good : z ≤ 4095 ∧ 1 ≤ span ∧ span ≤ 9999) :
    ownWriteCalibration z span band.toNat s =
      if openLotWeighed s then (s, answerOnly .busy) else (calibrate z span band.toNat s, answerOk []) := by
  rw [← calibrationInRange_iff z span band] at good
  exact if_neg (by simp [good])
end

/-- Settles O40: the key, the range of the values, an OPEN lot with weighed mass, and then the four changes. -/
theorem writeCalibrationMakesFourChanges : Obligations.WriteCalibrationMakesFourChanges := by
  intro s zero span band hr
  have run (u : Bool) := exec_request_of_running (.writeCalibration zero span band u) hr
  refine ⟨run false, fun bad => ?_, fun good weighed => ?_, fun good unweighed => ?_⟩
  · rw [run, calibrationRequest, if_pos rfl, ownWriteCalibration_bad bad]
    rfl
  · rw [run, calibrationRequest, if_pos rfl, ownWriteCalibration_good good, if_pos ((openLotWeighed_iff (setCalUnlock true s)).2 weighed)]
    rfl
  · rw [run, calibrationRequest, if_pos rfl, ownWriteCalibration_good good,
      if_neg (mt (openLotWeighed_iff (setCalUnlock true s)).1 unweighed), calibrate_eq]
    rfl

end Sys2Proof.Machine
end

section
/-! Write Setting (section 10.3): the refusals, the stored value, and the effect that each owner gives it. -/

namespace Sys2Proof.Machine

open Sys2Proof

/-! ### The owners' tests -/

theorem preactMaxGrams_eq (s : State) : preactMaxGrams s = s.store.settings.preactMax * 100000 := rfl

theorem edgeBeyond_iff (t : Travel) (v : Nat) :
    t.edgeBeyond v = true ↔ ∃ p h, ∃ e ∈ (t.pages.get p).get h, v < e.aft := by
  have page (p : Fin 2) : allHolds.any (fun h => match (t.pages.get p).get h with
      | some e => decide (v < e.aft)
      | none => false) = true ↔ ∃ h, ∃ e ∈ (t.pages.get p).get h, v < e.aft := by
    simp only [List.any_eq_true, mem_allHolds, true_and]
    refine exists_congr fun h => ?_
    cases (t.pages.get p).get h <;> simp
  rw [Fin.exists_fin_two, ← page 0, ← page 1]
  simp only [Travel.edgeBeyond, List.any_cons, List.any_nil, Bool.or_false, Bool.or_eq_true] <;> rfl

theorem windowsOk_both_iff (t : Travel) (v : Nat) :
    ((t.pages.get 0).windowsOk v && (t.pages.get 1).windowsOk v) = true ↔ ∀ p, (t.pages.get p).windowsOk v = true := by
  rw [Bool.and_eq_true, Fin.forall_fin_two]

/-- An owner tests the value before it is BUSY, but for the pour margin (R67). -/
theorem ownerRefusal_tests (v : Nat) (s : State) (k : SettingKey) : ∃ bad busy : Bool,
    (bad = true ↔ settingBad s v k) ∧ (busy = true ↔ settingBusy s k) ∧
    ownerRefusal v s k = firstOf (if k = .pourMargin then [(busy, answerOnly .busy), (bad, answerOnly .badValue)]
      else [(bad, answerOnly .badValue), (busy, answerOnly .busy)]) := by
  cases k with
  | lineLength => exact ⟨false, _, by simp [settingBad], by simp [settingBusy], rfl⟩
  | segmentLength => exact ⟨false, _, by simp [settingBad], by simp [settingBusy], rfl⟩
  | pulsesPerSegment => exact ⟨false, _, by simp [settingBad], by simp [settingBusy], rfl⟩
  | channel c a =>
    cases a with
    | offset => exact ⟨false, false, by simp [settingBad], by simp [settingBusy], rfl⟩
    | gain => exact ⟨false, false, by simp [settingBad], by simp [settingBusy], rfl⟩
    | warnLevel => exact ⟨_, false, by simp [settingBad]; omega, by simp [settingBusy], rfl⟩
    | highLevel => exact ⟨_, false, by simp [settingBad], by simp [settingBusy], rfl⟩
    | hysteresis => exact ⟨_, false, by simp [settingBad], by simp [settingBusy], rfl⟩
  | railLength => exact ⟨_, _, by simp [settingBad, edgeBeyond_iff], by simp [settingBusy], rfl⟩
  | homePosition => exact ⟨_, _, by simp [settingBad], by simp [settingBusy], rfl⟩
  | pourMargin => exact ⟨_, _, by rw [Bool.not_eq_true', ← Bool.not_eq_true, windowsOk_both_iff]; rfl, by simp [settingBusy], rfl⟩
  | preact => exact ⟨_, false, by rw [decide_eq_true_iff, preactMaxGrams_eq]; rfl, by simp [settingBusy], rfl⟩
  | _ => exact ⟨false, false, by simp [settingBad], by simp [settingBusy], rfl⟩

section
variable {v : Nat} {s : State} {k : SettingKey}

theorem ownerRefusal_of_bad (bad : settingBad s v k) (free : k = .pourMargin → ¬ settingBusy s k) :
    ownerRefusal v s k = some (answerOnly .badValue) := by
  obtain ⟨a, b, isBad, isBusy, refusal⟩ := ownerRefusal_tests v s k
  rw [refusal, isBad.2 bad]
  split
  next margin => rw [Bool.eq_false_iff.2 (mt isBusy.1 (free margin))]; rfl
  next => rfl

theorem ownerRefusal_of_busy (busy : settingBusy s k) (good : k ≠ .pourMargin → ¬ settingBad s v k) :
    ownerRefusal v s k = some (answerOnly .busy) := by
  obtain ⟨a, b, isBad, isBusy, refusal⟩ := ownerRefusal_tests v s k
  rw [refusal, isBusy.2 busy]
  split
  next => rfl
  next other => rw [Bool.eq_false_iff.2 (mt isBad.1 (good other))]; rfl

theorem ownerRefusal_of_free (good : ¬ settingBad s v k) (free : ¬ settingBusy s k) : ownerRefusal v s k = none := by
  obtain ⟨a, b, isBad, isBusy, refusal⟩ := ownerRefusal_tests v s k
  rw [refusal, Bool.eq_false_iff.2 (mt isBad.1 good), Bool.eq_false_iff.2 (mt isBusy.1 free)]
  split <;> rfl

/-- A value that the setting may not be written, or that is out of its range. -/
abbrev Malformed (v : Nat) (k : SettingKey) : Prop := k = .zero ∨ k = .span ∨ k = .band ∨ k.inRange v = false

theorem malformed_iff : (k.readOnly || !k.inRange v) = true ↔ Malformed v k := by
  cases k <;> simp [SettingKey.readOnly, Malformed]

/-! ### The judgement -/

/-- An accepted value stored and given its effect. -/
def written (k : SettingKey) (v : Nat) (s : State) : State :=
  applySetting s.store.settings.mask v (storeSetting k v s) k

variable {identifier : Nat}

theorem ownWriteSetting_unknown (unknown : keyOf identifier = none) :
    ownWriteSetting identifier v s = (s, answerOnly .badValue) := by
  rw [ownWriteSetting, unknown]

theorem ownWriteSetting_malformed (key : keyOf identifier = some k) (bad : Malformed v k) :
    ownWriteSetting identifier v s = (s, answerOnly .badValue) := by
  rw [ownWriteSetting, key]
  exact if_pos (malformed_iff.2 bad)

theorem ownWriteSetting_refused {a : Answer} (key : keyOf identifier = some k) (good : ¬ Malformed v k)
    (refused : ownerRefusal v s k = some a) : ownWriteSetting identifier v s = (s, a) := by
  rw [ownWriteSetting, key]
  dsimp only
  rw [if_neg (mt malformed_iff.1 good), refused]

theorem ownWriteSetting_accepted (key : keyOf identifier = some k) (good : ¬ Malformed v k)
    (accepted : ownerRefusal v s k = none) :
    ownWriteSetting identifier v s = (written k v s, answerOk (le 2 identifier ++ le 4 v)) := by
  rw [ownWriteSetting, key]
  dsimp only
  rw [if_neg (mt malformed_iff.1 good), accepted]
  rfl

end

/-! ### The stored value (R173, R178) -/

section
variable {v : Nat} {s : State} {k : SettingKey}

theorem written_preact : written .preact v s =
    { s with governor := { s.governor with preact := v * 1000, clean := false } } := rfl

theorem written_store_of_record (hk : k ≠ .preact) : (written k v s).store = { s.store with
    settings := writeRecord s.store.settings v k, checkWord := checkWord (writeRecord s.store.settings v k) } := by
  rw [written, (applySetting_frame _ _ _ _).2.2.1, storeSetting_record hk]
  rfl

theorem written_store_of_preact (hk : k = .preact) : (written k v s).store = s.store := by
  rw [hk, written_preact]

/-- The preact beside the record shows in the preact alone (R178). -/
theorem settingValue_of_ne_preact (hk : k ≠ .preact) (x : Settings) (p : Nat) : settingValue x p k = settingValue x 0 k := by
  cases k with
  | preact => exact absurd rfl hk
  | _ => rfl

theorem written_value (range : k.inRange v = true) :
    settingValue (written k v s).store.settings (written k v s).governor.preact k = v := by
  by_cases hk : k = .preact
  · subst hk
    change (v * 1000 + 500) / 1000 = v
    omega
  · rw [settingValue_of_ne_preact hk, written_store_of_record hk, settingValue_write _ _ _ _ hk hk range, if_pos rfl]

theorem written_other (range : k.inRange v = true) {k' : SettingKey} (other : k' ≠ k) (hk' : k' ≠ .preact) :
    settingValue (written k v s).store.settings 0 k' = settingValue s.store.settings 0 k' := by
  by_cases hk : k = .preact
  · rw [written_store_of_preact hk]
  · rw [written_store_of_record hk, settingValue_write _ _ _ _ hk' hk range, if_neg other]

theorem written_preact_kept : (written k v s).governor.preact = if k = .preact then v * 1000
    else if k = .preactMax then min s.governor.preact (v * 100000) else s.governor.preact := by
  by_cases hk : k = .preact
  · rw [if_pos hk, hk]
    rfl
  rw [if_neg hk]
  by_cases hm : k = .preactMax
  · rw [if_pos hm, hm]
    rfl
  · rw [if_neg hm, written, applySetting_preact hm, storeSetting_record hk]
    rfl

theorem written_checkWord (hk : k ≠ .preact) : (written k v s).store.checkWord = checkWord (written k v s).store.settings := by
  rw [written_store_of_record hk]

theorem written_store_rest : (written k v s).store.defaulted = s.store.defaulted ∧
    (written k v s).store.calibrationCount = s.store.calibrationCount := by
  by_cases hk : k = .preact
  · rw [written_store_of_preact hk]
    exact ⟨rfl, rfl⟩
  · rw [written_store_of_record hk]
    exact ⟨rfl, rfl⟩

/-! ### What no write changes -/

theorem written_frame : (written k v s).phase = s.phase ∧ (written k v s).ports = s.ports ∧ (written k v s).pins = s.pins ∧
    (written k v s).plan = s.plan := by
  simp [written]

theorem written_stores : (written k v s).accounts.lots = s.accounts.lots ∧
    (written k v s).accounts.bills = s.accounts.bills := by
  unfold written applySetting
  (repeat' split) <;> simp

theorem written_weigher : (written k v s).weigher = if k = .lineLength then
    { s.weigher with line := List.replicate v { mass := 0, tag := none }, lineTotal := 0 } else s.weigher := by
  by_cases hk : k = .lineLength
  · rw [if_pos hk, hk]
    rfl
  · rw [if_neg hk, written, applySetting_weigher hk]
    simp

theorem written_converter (hk : k ≠ .mask) : (written k v s).converter = s.converter := by
  cases k with
  | mask => exact absurd rfl hk
  | _ =>
    unfold written applySetting
    (repeat' split) <;> simp_all

end

/-! ### The channels (R43, R50) -/

theorem written_channel_dust (c : ChannelNo) (a : ChannelKey) (v : Nat) (s : State) :
    (written (.channel c a) v s).dust = { s.dust with
      channels := s.dust.channels.set c
        { s.dust.channels.get c with
          warnRise := 0, highRise := 0, highFall := 0, warnFall := 0
          refillPending := (s.dust.channels.get c).refillPending || a == .offset || a == .gain } } := by
  cases a with
  | offset => rw [Bool.or_assoc, show (ChannelKey.offset == .offset || ChannelKey.offset == .gain) = true from rfl, Bool.or_true]; rfl
  | gain => rw [Bool.or_assoc, show (ChannelKey.gain == .offset || ChannelKey.gain == .gain) = true from rfl, Bool.or_true]; rfl
  | warnLevel => rw [Bool.or_assoc, show (ChannelKey.warnLevel == .offset || ChannelKey.warnLevel == .gain) = false from rfl, Bool.or_false]; rfl
  | highLevel => rw [Bool.or_assoc, show (ChannelKey.highLevel == .offset || ChannelKey.highLevel == .gain) = false from rfl, Bool.or_false]; rfl
  | hysteresis => rw [Bool.or_assoc, show (ChannelKey.hysteresis == .offset || ChannelKey.hysteresis == .gain) = false from rfl, Bool.or_false]; rfl

/-- A channel that a changed mask enables or disables is restarted, and no other (R50). -/
theorem foldl_applyMaskTo_get (was now : BitVec 8) {l : List ChannelNo} (distinct : l.Nodup) (s : State) (c : ChannelNo) :
    (l.foldl (fun s c => applyMaskTo was now c s) s).dust.channels.get c =
      if c ∈ l ∧ enabled was c ≠ enabled now c then (s.dust.channels.get c).reenable else s.dust.channels.get c := by
  induction l generalizing s with
  | nil => simp
  | cons d l ih =>
    obtain ⟨fresh, distinct⟩ := List.nodup_cons.1 distinct
    rw [List.foldl_cons, ih distinct]
    unfold applyMaskTo
    by_cases hd : c = d
    · subst hd
      by_cases same : enabled was c = enabled now c
      · simp [same]
      · simp [same, fresh, setChannel]
    · have left : (if enabled was d = enabled now d then s else setChannel d (s.dust.channels.get d).reenable s).dust.channels.get c =
          s.dust.channels.get c := by
        split
        · rfl
        · exact get_set_ne _ _ _ _ hd
      rw [left]
      simp [hd]

/-- A changed enable mask (R50): the converter restarts, and the stage follows the channels. -/
theorem written_mask (v : Nat) (s : State) : written .mask v s =
    if s.store.settings.mask = BitVec.ofNat 8 v then storeSetting .mask v s
    else applyMask s.store.settings.mask (BitVec.ofNat 8 v)
      { storeSetting .mask v s with converter := s.converter.maskRestart } := rfl

section
variable (was now : BitVec 8) (s : State)

theorem applyMask_get (c : ChannelNo) : (applyMask was now s).dust.channels.get c =
    if enabled was c = enabled now c then s.dust.channels.get c else (s.dust.channels.get c).reenable := by
  rw [applyMask, recomputeStage_dust, recompute_channels, foldl_applyMaskTo_get _ _ (by decide)]
  simp [mem_allChannels]

theorem foldl_applyMaskTo_eq (l : List ChannelNo) : l.foldl (fun s c => applyMaskTo was now c s) s =
    { s with dust := { s.dust with channels := (l.foldl (fun s c => applyMaskTo was now c s) s).dust.channels } } := by
  induction l generalizing s with
  | nil => rfl
  | cons c l ih =>
    rw [List.foldl_cons, ih]
    unfold applyMaskTo
    split <;> rfl

theorem applyMask_eq : applyMask was now s = { s with
    dust := (applyMask was now s).dust, governor := (applyMask was now s).governor
    events := (applyMask was now s).events } := by
  rw [applyMask, recomputeStage_eq, foldl_applyMaskTo_eq]

theorem applyMask_follows : StageFollows s (applyMask was now s) := by
  have same := foldl_applyMaskTo_eq was now s allChannels
  refine (stageFollows_recomputeStage _).congr ?_ ?_ ?_ ?_ ?_ ?_ <;> rw [same]

theorem applyMask_reference : (applyMask was now s).dust.reference = s.dust.reference ∧
    (applyMask was now s).dust.referenceTimer = s.dust.referenceTimer := by
  obtain ⟨reference, timer⟩ := recompute_reference
    (allChannels.foldl (fun s c => applyMaskTo was now c s) s).dust
    (allChannels.foldl (fun s c => applyMaskTo was now c s) s).store.settings.mask
  rw [applyMask, recomputeStage_dust, reference, timer, foldl_applyMaskTo_eq]
  exact ⟨rfl, rfl⟩

/-- A changed mask neither sets the latch nor clears it: a channel enabled anew is NORMAL (R50, R54). -/
theorem applyMask_tripLatch (lawful : s.dust.Lawful was) (mask : s.store.settings.mask = now) :
    (applyMask was now s).dust.tripLatch = s.dust.tripLatch := by
  have same := foldl_applyMaskTo_eq was now s allChannels
  rw [applyMask, recomputeStage_dust, recompute_tripLatch]
  by_cases latched : s.dust.tripLatch.isSome = true
  · rw [latchOnTrip_of_latched (by rw [same]; exact latched), same]
  have clear : s.dust.tripLatch = none := Option.not_isSome_iff_eq_none.1 latched
  have quiet : ¬ (allChannels.foldl (fun s c => applyMaskTo was now c s) s).dust.someIn now .fault := by
    rintro ⟨c, mem, on, stage⟩
    rw [foldl_applyMaskTo_get _ _ (by decide)] at stage
    split at stage
    · obtain ⟨⟩ := stage
    next kept =>
      have same : enabled was c = enabled now c := by simpa [mem] using kept
      exact latched (lawful.2.1 ⟨c, mem, same.trans on, stage⟩)
  rw [latchOnTrip_of_clear (by rw [same]; exact clear), firstIn_eq_none.2 (by rw [same] at quiet ⊢; exact mask ▸ quiet), clear]
  rfl
end

/-! ### The timers whose limit is written (R43, R67, R134) -/

/-- A running timer that stands at a limit in seconds, or beyond it. -/
abbrev Reached (timer : Option Nat) (seconds : Nat) : Prop := ∃ e, timer = some e ∧ seconds * 1000 ≤ e

theorem timerReached_iff {timer : Option Nat} {seconds : Nat} : timerReached timer seconds = true ↔ Reached timer seconds := by
  cases timer <;> simp [timerReached, Reached]

theorem Reached.isSome {timer : Option Nat} {seconds : Nat} (h : Reached timer seconds) : timer.isSome = true := by
  obtain ⟨e, rfl, -⟩ := h
  rfl

section
variable {v : Nat} {s : State}

theorem written_highHoldTime (reached : Reached s.dust.highHold v) :
    written .highHoldTime v s = highHoldExpires (storeSetting .highHoldTime v s) :=
  if_pos (timerReached_iff.2 reached)

theorem written_travelTimeLimit (reached : Reached s.travel.travelTimer v) :
    written .travelTimeLimit v s = travelExpiry (storeSetting .travelTimeLimit v s) :=
  if_pos (timerReached_iff.2 reached)

theorem written_runOutLimit (reached : Reached s.travel.runOutTimer v) :
    written .runOutLimit v s = runOutExpiry (storeSetting .runOutLimit v s) :=
  if_pos (timerReached_iff.2 reached)

theorem written_presenceWindow (reached : Reached s.governor.presenceTimer v) :
    written .presenceWindow v s = presenceExpiry (storeSetting .presenceWindow v s) :=
  if_pos (timerReached_iff.2 reached)

theorem stored_of_record {k : SettingKey} (hk : k ≠ .preact) :
    storeSetting k v s = { s with store := (written k v s).store } := by
  rw [written_store_of_record hk, storeSetting_record hk]
  rfl

/-- A limit that its timer has reached: the write does what the expiry's command does on the stored limit. -/
theorem written_expires {k : SettingKey} {c : Instr} {f : State → State} (hk : k ≠ .preact) (hc : IsArrival c id f)
    (hr : s.phase = .running) (effect : written k v s = f (storeSetting k v s)) (a : Option (Station × Answer)) :
    ∃ u, exec c { s with store := (written k v s).store } = .next u ∧
      { written k v s with answer := a } = { u with answer := a } := by
  refine ⟨_, exec_arrival_of_running hc hr, ?_⟩
  rw [← stored_of_record hk, id, ← effect]

/-- A setting without an effect is stored, and no more. -/
theorem written_only_stored {k : SettingKey} (hk : k ≠ .preact) (effect : written k v s = storeSetting k v s)
    (a : Option (Station × Answer)) :
    { written k v s with answer := a } = { s with store := (written k v s).store, answer := a } :=
  congrArg (fun t : State => { t with answer := a }) (effect.trans (stored_of_record hk))

/-- The high-hold timer's expiry trips the loader (R52, R54). -/
theorem highHoldExpires_trips (running : s.dust.highHold.isSome = true) : (highHoldExpires s).dust.stage = .trip := by
  rw [highHoldExpires, if_pos running, recomputeStage_setTrip_dust _ fun _ => rfl]

/-- A swap taken leaves the carriage where it is. -/
theorem swapTest_carriage_kept (s : State) : (swapTest s).travel.state = s.travel.state ∧
    (swapTest s).travel.faultCause = s.travel.faultCause ∧
    (swapTest s).travel.brakeRelease = s.travel.brakeRelease := by
  obtain ⟨-, -, e⟩ | ⟨-, e⟩ := swapTest_cases s <;> rw [e]
  · rw [takeSwap_eq]
    exact ⟨rfl, rfl, rfl⟩
  · exact ⟨rfl, rfl, rfl⟩

theorem travelExpiry_faults (running : s.travel.travelTimer.isSome = true) :
    (travelExpiry s).travel.state = .fault ∧ (travelExpiry s).travel.faultCause = some .timeout ∧
    (travelExpiry s).travel.brakeRelease = false := by
  rw [travelExpiry, if_pos running, enterFault]
  obtain ⟨state, cause, brake⟩ := swapTest_carriage_kept (raise (.travelFault .timeout) { s with travel :=
    { s.travel.atRest with
      stopping := false, travelTimer := none, request := none, faultCause := some .timeout, state := .fault } })
  rw [state, cause, brake]
  exact ⟨rfl, rfl, rfl⟩

theorem runOutExpiry_abandons (running : s.travel.runOutTimer.isSome = true) :
    (runOutExpiry s).travel.state = s.travel.beforePending ∧ (runOutExpiry s).travel.request = none := by
  rw [runOutExpiry, if_pos running]
  exact ⟨rfl, rfl⟩

theorem presenceExpiry_silences (running : s.governor.presenceTimer.isSome = true) :
    (presenceExpiry s).governor.presenceLive = false ∧ (s.governor.state.feeding = true →
      (presenceExpiry s).governor.state = .paused ∧ (presenceExpiry s).governor.feedPermit = false ∧
      (presenceExpiry s).governor.level = 0) := by
  rw [presenceExpiry, if_pos running]
  dsimp only
  by_cases feeding : s.governor.state.feeding = true
  · rw [if_pos feeding, pauseCause_feeding _
      { s with governor := { s.governor with presenceTimer := none, presenceLive := false } } feeding]
    exact ⟨rfl, fun _ => ⟨rfl, rfl, rfl⟩⟩
  · rw [if_neg feeding]
    exact ⟨rfl, fun h => absurd h feeding⟩

/-- The level settings: the ceiling is computed anew (R115). -/
theorem written_feedLevel {k : SettingKey} (hk : k = .warnFeedLevel ∨ k = .dribbleLevel) : written k v s =
    { s with
      store := (written k v s).store
      governor := s.governor.under (ceilingNow (written k v s)) } := by
  have stored : storeSetting k v s = { s with store := (written k v s).store } :=
    stored_of_record (by rintro rfl; simp at hk)
  have effect : written k v s = recomputeCeiling (storeSetting k v s) := by
    obtain rfl | rfl := hk <;> rfl
  have ceiling : ceilingNow (written k v s) = ceilingNow (storeSetting k v s) := by
    rw [effect, recomputeCeiling_under]
    exact ceilingNow_congr rfl rfl rfl rfl (under_dribble _ _)
  calc written k v s = recomputeCeiling (storeSetting k v s) := effect
    _ = { storeSetting k v s with governor := (storeSetting k v s).governor.under (ceilingNow (written k v s)) } := by
      rw [recomputeCeiling_under, ceiling]
    _ = _ := by rw [stored]

end

/-- Settles O39: the owner's judgement, and the effect of each setting once it is stored. -/
theorem writeSettingStoresTheValue : Obligations.WriteSettingStoresTheValue := by
  intro s identifier value hr v write x accepted
  have run : write = _ := exec_request_of_running (.writeSetting identifier value) hr
  refine ⟨fun unknown => ?_, fun k key => ?_⟩
  · rw [run, ownWriteSetting_unknown unknown]
    rfl
  intro bad busy malformed
  refine ⟨fun ill => ?_, fun formed isBad free => ?_, fun formed isBusy good => ?_, fun formed good free => ?_,
    exec_request_of_running .acceptSettings hr⟩
  · rw [run, ownWriteSetting_malformed key ill]
    rfl
  · rw [run, ownWriteSetting_refused key formed (ownerRefusal_of_bad isBad free)]
    rfl
  · rw [run, ownWriteSetting_refused key formed (ownerRefusal_of_busy isBusy good)]
    rfl
  rw [ownWriteSetting_accepted key formed (ownerRefusal_of_free good free)] at run
  have range : k.inRange v = true := by
    simp only [malformed, not_or, Bool.not_eq_false] at formed
    exact formed.2.2.2
  obtain ⟨-, ports, pins, plan⟩ := written_frame (k := k) (v := v) (s := s)
  obtain ⟨lots, bills⟩ := written_stores (k := k) (v := v) (s := s)
  obtain ⟨defaulted, calibrations⟩ := written_store_rest (k := k) (v := v) (s := s)
  refine ⟨{ written k v s with answer := some (.office, accepted) }, run, rfl, written_value range,
    fun k' other hk' => written_other range other hk', written_preact_kept, written_checkWord, written_store_of_preact,
    defaulted, calibrations, ports, pins, congrArg (fun p => p.steps.length) plan, lots, bills, written_weigher,
    ?_, ?_, written_converter, ?_, ?_, ?_, ?_, ?_, ?_, ?_, ?_⟩
  · rintro c a rfl
    exact written_channel_dust c a v s
  · rintro rfl
    refine ⟨fun c => ?_, fun same => ?_, fun changed => ?_⟩
    · rw [written_mask]
      split
      next same => rw [← same]; exact (if_pos rfl).symm
      next => exact applyMask_get _ _ _ c
    · rw [written_mask, if_pos same]
      rfl
    · rw [written_mask, if_neg changed]
      have eq := applyMask_eq x.mask (BitVec.ofNat 8 v)
        { storeSetting .mask v s with converter := s.converter.maskRestart }
      obtain ⟨reference, timer⟩ := applyMask_reference x.mask (BitVec.ofNat 8 v)
        { storeSetting .mask v s with converter := s.converter.maskRestart }
      refine ⟨?_, ?_, reference, timer, fun law => ?_, ?_⟩
      · rw [eq]
        rfl
      · rw [eq]
        rfl
      · exact applyMask_tripLatch _ _ _ law.1 rfl
      · exact (applyMask_follows x.mask (BitVec.ofNat 8 v)
          { storeSetting .mask v s with converter := s.converter.maskRestart }).congr rfl rfl rfl rfl rfl rfl
  · rintro rfl reached
    rw [written_highHoldTime reached]
    exact highHoldExpires_trips (Reached.isSome reached)
  · rintro rfl
    rfl
  · rintro rfl reached
    rw [written_travelTimeLimit reached]
    exact travelExpiry_faults (Reached.isSome reached)
  · rintro rfl reached
    rw [written_runOutLimit reached]
    exact runOutExpiry_abandons (Reached.isSome reached)
  · intro hk
    have governor := congrArg State.governor (written_feedLevel (v := v) (s := s) hk)
    have ceiling := congrArg Governor.ceiling governor
    exact ⟨ceiling, (congrArg Governor.level governor).trans (ceiling ▸ rfl)⟩
  · rintro rfl reached
    rw [written_presenceWindow reached]
    exact presenceExpiry_silences (Reached.isSome reached)
  · rintro rfl
    rfl
  intro stored reached
  refine ⟨?_, ?_, ?_, ?_, ?_, ?_, ?_, ?_, ?_, ?_, ?_⟩
  · rintro rfl
    rfl
  · rintro c a rfl
    cases a <;> rfl
  · rintro rfl
    rfl
  · intro hk
    exact congrArg (fun t : State => { t with answer := some (.office, accepted) }) (written_feedLevel (v := v) (s := s) hk)
  · rintro rfl
    rfl
  · rintro rfl
    rfl
  · rintro rfl reached
    exact written_expires (k := .highHoldTime) (by decide) .highHoldExpiry hr (written_highHoldTime reached) (some (.office, accepted))
  · rintro rfl reached
    exact written_expires (k := .travelTimeLimit) (by decide) .travelTimerExpiry hr (written_travelTimeLimit reached) (some (.office, accepted))
  · rintro rfl reached
    exact written_expires (k := .runOutLimit) (by decide) .runOutTimerExpiry hr (written_runOutLimit reached) (some (.office, accepted))
  · rintro rfl reached
    exact written_expires (k := .presenceWindow) (by decide) .presenceTimerExpiry hr (written_presenceWindow reached) (some (.office, accepted))
  · intro other
    cases k with
    | lineLength | channel _ _ | mask | pourMargin | warnFeedLevel | dribbleLevel | preactMax | preact =>
      exact False.elim other
    | highHoldTime => exact written_only_stored (k := .highHoldTime) (by decide) (if_neg (mt timerReached_iff.1 other)) _
    | travelTimeLimit => exact written_only_stored (k := .travelTimeLimit) (by decide) (if_neg (mt timerReached_iff.1 other)) _
    | runOutLimit => exact written_only_stored (k := .runOutLimit) (by decide) (if_neg (mt timerReached_iff.1 other)) _
    | presenceWindow => exact written_only_stored (k := .presenceWindow) (by decide) (if_neg (mt timerReached_iff.1 other)) _
    | _ => rfl

end Sys2Proof.Machine
end

section
/-! The Measurement Converter's cycle and its reference (sections 2.2 to 2.5). -/

namespace Sys2Proof.Machine

open Sys2Proof

/-! ### The group cycle (R26, R27, R29) -/

theorem conversionEnds_of_halted {s : State} (code : Code) (halted : s.converter.state = .halted) :
    conversionEnds code s = s :=
  if_neg (by rw [halted]; decide)

theorem conversionEnds_of_running {s : State} (code : Code) (running : s.converter.state = .running) :
    conversionEnds code s = { s with converter := s.converter.convert s.store.settings.mask code } :=
  if_pos running

section
variable {c : Converter} (mask : BitVec 8) (code : Code)

theorem convert_fills (slot : c.slot ≠ 3) :
    c.convert mask code = { c with slots := c.slots.write c.slot code, slot := c.slot + 1 } :=
  if_neg slot

theorem convert_completes (slot : c.slot = 3) : c.convert mask code =
    { c.deliver c.position.kind (c.slots.write c.slot code) with
      slots := c.slots.write c.slot code, slot := 0, position := c.position.advance mask } :=
  if_pos slot

/-- A W group of position 1 or 3, and the D position that follows it or is skipped. -/
theorem convert_completes_w (slot : c.slot = 3) (position : c.position = .p1 ∨ c.position = .p3) :
    c.convert mask code = { c with
      slots := c.slots.write c.slot code, slot := 0, latchW := some (c.slots.write c.slot code)
      countW := (c.countW + 1) % 65536, toWeigher := c.toWeigher ++ [.group .w (c.slots.write c.slot code)]
      position := if c.position = .p1 then (if mask &&& 0x0F#8 = 0#8 then .p3 else .p2)
        else if mask &&& 0xF0#8 = 0#8 then .p1 else .p4 } := by
  have advance : c.position.advance mask = if c.position = .p1 then (if mask &&& 0x0F#8 = 0#8 then .p3 else .p2)
      else if mask &&& 0xF0#8 = 0#8 then .p1 else .p4 := by
    obtain h | h := position <;> simp [h, CyclePosition.advance, CyclePosition.skipped, CyclePosition.after]
  have kind : c.position.kind = .w := by
    obtain h | h := position <;> rw [h] <;> rfl
  rw [convert_completes mask code slot, kind, advance]
  rfl

theorem convert_completes_d1 (slot : c.slot = 3) (position : c.position = .p2) :
    c.convert mask code = { c with
      slots := c.slots.write c.slot code, slot := 0, latchD1 := some (c.slots.write c.slot code)
      countD1 := (c.countD1 + 1) % 65536, toMonitor := c.toMonitor ++ [.group .d1 (c.slots.write c.slot code)]
      position := .p3 } := by
  rw [convert_completes mask code slot, position]
  rfl

theorem convert_completes_d2 (slot : c.slot = 3) (position : c.position = .p4) :
    c.convert mask code = { c with
      slots := c.slots.write c.slot code, slot := 0, latchD2 := some (c.slots.write c.slot code)
      countD2 := (c.countD2 + 1) % 65536, toMonitor := c.toMonitor ++ [.group .d2 (c.slots.write c.slot code)]
      position := .p1 } := by
  rw [convert_completes mask code slot, position]
  rfl

end

/-! ### The consumers' notices (R7, R28, R53) -/

section
variable {s : State}

theorem takeFaultNotice_weigher {rest : List Delivery} (h : s.converter.toWeigher = .referenceFault :: rest) :
    takeFaultNotice .weigher s = { s with
      converter := { s.converter with toWeigher := rest }, weigher := { s.weigher with input := .noReference } } := by
  simp only [takeFaultNotice, h]
  rfl

theorem takeFaultNotice_monitor {rest : List Delivery} (h : s.converter.toMonitor = .referenceFault :: rest) :
    takeFaultNotice .monitor s = { s with
      converter := { s.converter with toMonitor := rest }
      dust := { s.dust with reference := .fault, referenceTimer := some 0 } } := by
  simp only [takeFaultNotice, h]
  rfl

theorem takeGoodNotice_weigher {rest : List Delivery} (h : s.converter.toWeigher = .referenceGood :: rest) :
    takeGoodNotice .weigher s = { s with converter := { s.converter with toWeigher := rest } } := by
  simp only [takeGoodNotice, h]

theorem takeGoodNotice_monitor {rest : List Delivery} (h : s.converter.toMonitor = .referenceGood :: rest) :
    takeGoodNotice .monitor s = { s with
      converter := { s.converter with toMonitor := rest }
      dust := { s.dust with reference := .good, referenceTimer := none } } := by
  simp only [takeGoodNotice, h]
  rfl

/-- The deliveries made to a consumer. -/
def deliveries (s : State) : Consumer → List Delivery
  | .weigher => s.converter.toWeigher
  | .monitor => s.converter.toMonitor

theorem takeFaultNotice_other (c : Consumer) (h : ∀ rest, deliveries s c ≠ .referenceFault :: rest) :
    takeFaultNotice c s = s := by
  cases c <;>
  · unfold takeFaultNotice
    dsimp only
    split
    next rest e => exact absurd e (h rest)
    next => rfl

theorem takeGoodNotice_other (c : Consumer) (h : ∀ rest, deliveries s c ≠ .referenceGood :: rest) :
    takeGoodNotice c s = s := by
  cases c <;>
  · unfold takeGoodNotice
    dsimp only
    split
    next rest e => exact absurd e (h rest)
    next => rfl

end

/-- Settles O43. -/
theorem converterCycleAndReference : Obligations.ConverterCycleAndReference := by
  refine ⟨fun s code hr => ?_, fun s hr => ?_⟩
  · have run : exec (.conversionComplete code) s = .next (conversionEnds code s) :=
      exec_arrival_of_running (.conversionComplete code) hr
    intro c m filled
    have written : c.slots.write c.slot code = filled := rfl
    refine ⟨fun halted => ?_, fun running slot => ?_, fun running slot position => ?_, fun running slot position => ?_,
      fun running slot position => ?_⟩
    · rw [run, conversionEnds_of_halted code halted]
    · rw [run, conversionEnds_of_running code running, convert_fills m code slot, written]
    · rw [run, conversionEnds_of_running code running, convert_completes_w m code slot position, written]
    · rw [run, conversionEnds_of_running code running, convert_completes_d1 m code slot position, written]
    · rw [run, conversionEnds_of_running code running, convert_completes_d2 m code slot position, written]
  · intro c low high
    have falls : exec .refOkFall s = .next (referenceFalls (setRefOk false s)) := exec_arrival_of_running .refOkFall hr
    have rises : exec .refOkRise s = .next (referenceRises (setRefOk true s)) := exec_arrival_of_running .refOkRise hr
    have fault (k : Consumer) : exec (.referenceFaultNotice k) s = .next (takeFaultNotice k s) :=
      exec_arrival_of_running (.referenceFaultNotice k) hr
    have good (k : Consumer) : exec (.referenceGoodNotice k) s = .next (takeGoodNotice k s) :=
      exec_arrival_of_running (.referenceGoodNotice k) hr
    have stays {a b : ConverterState} (h : c.state = a) (ne : a ≠ b) : ¬ c.state = b := h ▸ ne
    refine ⟨fun running => ⟨_, _, falls.trans (congrArg Host.Outcome.next (if_pos running))⟩,
      fun halted => falls.trans (congrArg Host.Outcome.next (if_neg (stays halted (by decide)))),
      fun halted => rises.trans (congrArg Host.Outcome.next (if_pos halted)),
      fun running => rises.trans (congrArg Host.Outcome.next (if_neg (stays running (by decide)))),
      fun rest h => ?_, fun rest h => ?_, fun rest h => ?_, fun rest h => ?_, fun h => ?_, fun h => ?_, fun h => ?_,
      fun h => ?_⟩
    · rw [fault, takeFaultNotice_weigher h]
    · rw [good, takeGoodNotice_weigher h]
    · rw [fault, takeFaultNotice_monitor h]
    · rw [good, takeGoodNotice_monitor h]
    · rw [fault, takeFaultNotice_other .weigher h]
    · rw [fault, takeFaultNotice_other .monitor h]
    · rw [good, takeGoodNotice_other .weigher h]
    · rw [good, takeGoodNotice_other .monitor h]

end Sys2Proof.Machine
end

section
/-! Load groups at the weigher (section 1.3), with the rules of a changed ledger. -/

namespace Sys2Proof.Machine

open Sys2Proof

/-! ### One ledger changed -/

theorem updateLedger_ledger (acc b : Account) (f : Ledger → Ledger) (s : State) :
    (updateLedger acc f s).accounts.ledger b = if b = acc then f (s.accounts.ledger b) else s.accounts.ledger b := by
  by_cases h : b = acc
  · rw [if_pos h, h, updateLedger_ledger_self]
  · rw [if_neg h, updateLedger_ledger_ne _ _ _ _ h]

theorem updateLedger_eq (acc : Account) (f : Ledger → Ledger) (s : State) : updateLedger acc f s = { s with
    accounts := { s.accounts with
      lots := (updateLedger acc f s).accounts.lots, unassigned := (updateLedger acc f s).accounts.unassigned } } := by
  cases acc <;> rfl

/-- Of a lot's slot, a changed ledger changes the ledger alone. -/
theorem updateLedger_lot (acc : Account) (f : Ledger → Ledger) (s : State) (i : Slot) :
    (updateLedger acc f s).accounts.lots.get i =
      { s.accounts.lots.get i with ledger := (updateLedger acc f s).accounts.ledger (.lot i) } := by
  cases acc with
  | unassigned => rfl
  | lot j =>
    simp only [updateLedger, Accounts.setLedger, Accounts.ledger, get_set]
    split
    next h => rw [h]
    next => rfl

/-! ### The load of a group (R4, R5) -/

theorem stuck_iff (q : Quad) : q.stuck = true ↔ (q.c0 = 0 ∧ q.c1 = 0 ∧ q.c2 = 0 ∧ q.c3 = 0) ∨
    (q.c0 = 4095 ∧ q.c1 = 4095 ∧ q.c2 = 4095 ∧ q.c3 = 4095) := by
  simp only [Quad.stuck, Quad.sum, Bool.or_eq_true, beq_iff_eq, ← BitVec.toNat_inj,
    show (0 : Code).toNat = 0 from rfl, show (4095 : Code).toNat = 4095 from rfl]
  have h0 := q.c0.isLt
  have h1 := q.c1.isLt
  have h2 := q.c2.isLt
  have h3 := q.c3.isLt
  omega

/-- The load by its bounds: blanked up to 4 B above 4 Z, and the rounded product beyond. -/
theorem rawLoad_eq {x : Settings} {q : Quad} {load : Nat}
    (h : if (q.sum : Int) - 4 * x.zero ≤ 4 * x.band then load = 0
      else (load : Int) = (((q.sum : Int) - 4 * x.zero) * x.span + 2) / 4) : rawLoad x q = load := by
  unfold rawLoad
  by_cases blank : q.sum ≤ 4 * x.zero + 4 * x.band
  · rw [if_pos (by omega)] at h
    rw [if_pos blank, h]
  · rw [if_neg (by omega)] at h
    rw [if_neg blank]
    have net : ((q.sum - 4 * x.zero : Nat) : Int) = (q.sum : Int) - 4 * x.zero := by omega
    rw [← net] at h
    exact_mod_cast h.symm

theorem addLoad_eq (w : Weigher) (load : Nat) : w.addLoad load = { w with
    segmentSum := if w.segmentCount < 4294967295 then w.segmentSum + load else w.segmentSum
    segmentCount := if w.segmentCount < 4294967295 then w.segmentCount + 1 else w.segmentCount } := by
  by_cases h : w.segmentCount < 4294967295
  · rw [if_pos h, if_pos h]
    exact if_pos h
  · rw [if_neg h, if_neg h]
    exact if_neg h

theorem weighGroup_of_stuck {q : Quad} (s : State) (h : q.stuck = true) :
    weighGroup q s = { s with weigher := { s.weigher with input := .stuck } } :=
  if_pos h

/-- A load that is not saturated enters the segment. -/
theorem weighGroup_of_load {q : Quad} {load : Nat} {s : State} (h : ¬ q.stuck = true)
    (raw : rawLoad s.store.settings q = load) (inRange : load ≤ 999999) :
    weighGroup q s = { s with weigher := ({ s.weigher with input := .live }).addLoad (min load 999999) } := by
  simp only [weighGroup, if_neg h, raw, maxLoad, if_neg (Nat.not_lt.2 inRange)]

/-- A saturated load enters it as the greatest load, and flags the account. -/
theorem weighGroup_of_overRange {q : Quad} {load : Nat} {s : State} (h : ¬ q.stuck = true)
    (raw : rawLoad s.store.settings q = load) (beyond : 999999 < load) :
    weighGroup q s = { markOverRange s with
      weigher := ({ s.weigher with input := .live }).addLoad (min load 999999) } := by
  simp only [weighGroup, if_neg h, raw, maxLoad, if_pos beyond]
  rfl

theorem markOverRange_ledger (s : State) (acc : Account) : (markOverRange s).accounts.ledger acc =
    { s.accounts.ledger acc with
      overRange := decide (acc = weighingAccount s) || (s.accounts.ledger acc).overRange } := by
  rw [markOverRange, updateLedger_ledger]
  by_cases h : acc = weighingAccount s <;> simp [h]

theorem takeWGroup_of_group {s : State} {q : Quad} {rest : List Delivery}
    (h : s.converter.toWeigher = .group .w q :: rest) :
    takeWGroup s = weighGroup q { s with converter := { s.converter with toWeigher := rest } } := by
  simp only [takeWGroup, h]

theorem takeWGroup_other {s : State} (h : ∀ q rest, s.converter.toWeigher ≠ .group .w q :: rest) : takeWGroup s = s := by
  unfold takeWGroup
  split
  next q rest e => exact absurd e (h q rest)
  next => rfl

/-- Settles O44. -/
theorem loadGroupsEnterTheSegment : Obligations.LoadGroupsEnterTheSegment := by
  intro s hr
  have run : exec .wGroupArrival s = .next (takeWGroup s) := exec_arrival_of_running .wGroupArrival hr
  refine ⟨fun h => by rw [run, takeWGroup_other h], fun q rest h => ?_⟩
  rw [takeWGroup_of_group h] at run
  intro taken sum stuck net
  refine ⟨fun isStuck => ?_, fun free load isLoad => ?_⟩
  · rw [run, weighGroup_of_stuck _ ((stuck_iff q).2 isStuck)]
  have notStuck := mt (stuck_iff q).1 free
  have raw : rawLoad s.store.settings q = load := rawLoad_eq isLoad
  intro w
  refine ⟨fun inRange => ?_, fun beyond => ⟨_, run, ?_⟩⟩
  · rw [run, weighGroup_of_load (s := { s with converter := taken }) notStuck raw inRange, addLoad_eq]
  rw [weighGroup_of_overRange (s := { s with converter := taken }) notStuck raw beyond, addLoad_eq, markOverRange, updateLedger_eq]
  exact ⟨rfl, rfl, markOverRange_ledger { s with converter := taken }, updateLedger_lot _ _ _⟩

end Sys2Proof.Machine
end

section
/-! The segment close at the weigher and the carriage (sections 1.4 to 1.6, 4.2, 4.6): the parts of a close, each said once. -/

namespace Sys2Proof.Machine

open Sys2Proof

/-! ### Where no swap can be taken -/

/-- A pending swap cannot be taken, whatever becomes of the ACTIVE step: none is pending, the carriage is in motion, or there
is grain in the line (R63). -/
def Barred (s : State) : Prop :=
  s.travel.swapPending = false ∨ s.travel.state.inMotion = true ∨ s.weigher.lineTotal ≠ 0

theorem Barred.congr {s t : State} (h : Barred s) (travel : t.travel = s.travel)
    (total : t.weigher.lineTotal = s.weigher.lineTotal) : Barred t := by
  unfold Barred
  rw [travel, total]
  exact h

theorem Barred.swapTest {s : State} (h : Barred s) : swapTest s = s := by
  obtain ⟨pending, ready, -⟩ | ⟨-, e⟩ := swapTest_cases s
  · obtain ⟨rest, -, empty⟩ := (swapReady_iff s).1 ready
    obtain none | motion | loaded := h
    · rw [none] at pending
      cases pending
    · rw [rest] at motion
      cases motion
    · exact absurd empty loaded
  · exact e

/-- What the governor's notices leave while no swap can be taken: the carriage and the accounts. -/
abbrev SameBooks (s t : State) : Prop := t.travel = s.travel ∧ t.accounts = s.accounts

section
variable {s : State} (h : Barred s)
include h

theorem completeStep_barred : SameBooks s (completeStep s) := by
  unfold completeStep
  split
  · exact ⟨rfl, rfl⟩
  · rw [Barred.swapTest (h.congr (by simp) (by simp))]
    exact ⟨by simp, by simp⟩

theorem complete_barred : SameBooks s (complete s) := by
  have adapted : SameBooks s (adaptPreact s) := by
    rw [adaptPreact_eq]
    exact ⟨rfl, rfl⟩
  obtain ⟨travel, accounts⟩ := completeStep_barred (h.congr adapted.1 (by simp) : Barred (adaptPreact s))
  exact ⟨travel.trans adapted.1, accounts.trans adapted.2⟩

theorem cutoff_barred (r : CutoffReason) : SameBooks s (cutoff r s) := by
  have recorded : SameBooks s (recordedCutoff r s) := by
    unfold recordedCutoff
    split <;> exact ⟨by simp, by simp⟩
  rw [cutoff_eq]
  split
  · obtain ⟨travel, accounts⟩ := complete_barred (h.congr recorded.1 (by unfold recordedCutoff; split <;> simp) :
      Barred (recordedCutoff r s))
    exact ⟨travel.trans recorded.1, accounts.trans recorded.2⟩
  · exact recorded

theorem segmentClosedNotice_barred (entering : Nat) (w : Weighing) (leaving : Nat) (dest : Destination) :
    SameBooks s (segmentClosedNotice entering w leaving dest s) := by
  have booked : Barred (bookSegment entering w leaving dest s) := h.congr rfl rfl
  have tested : SameBooks s (feedTests (bookSegment entering w leaving dest s)) := by
    unfold feedTests
    (repeat' split)
    · exact cutoff_barred booked .target
    · exact ⟨by simp, by simp⟩
    · exact ⟨rfl, rfl⟩
  unfold segmentClosedNotice
  split
  · exact ⟨rfl, rfl⟩
  · exact ⟨rfl, rfl⟩
  · dsimp only
    split
    · exact complete_barred booked
    · exact ⟨rfl, rfl⟩
  · exact tested

theorem scaleFaultNotice_barred : SameBooks s (scaleFaultNotice s) := by
  have recomputed : SameBooks s (recomputeEffective s) := ⟨by simp, by simp⟩
  unfold scaleFaultNotice
  split
  · exact ⟨rfl, rfl⟩
  · exact recomputed
  · obtain ⟨travel, accounts⟩ := cutoff_barred (h.congr recomputed.1 (by simp) : Barred (recomputeEffective s)) .scale
    exact ⟨travel.trans recomputed.1, accounts.trans recomputed.2⟩

end

/-! ### Weighing the segment (R9 to R12) -/

/-- The segment has loads (R9). -/
abbrev Live (s : State) : Prop := 0 < s.weigher.segmentCount

/-- The segment has no load, and its mass is estimated from the last mean (R10). -/
abbrev Bridged (s : State) : Prop :=
  s.weigher.segmentCount = 0 ∧ s.weigher.scale = .normal ∧ s.weigher.holdLast < 4

/-- The segment has no load, and the scale enters SCALE FAULT with it (R10). -/
abbrev FaultsNow (s : State) : Prop := s.weigher.scale = .normal ∧ ¬ Live s ∧ ¬ Bridged s

/-- The mean load of a segment with loads (R9). -/
abbrev closingMean (s : State) : Nat :=
  (s.weigher.segmentSum + s.weigher.segmentCount / 2) / s.weigher.segmentCount

/-- The mass of a segment at its close (R9 to R12). -/
abbrev closingMass (s : State) : Nat :=
  ((if Live s then closingMean s else if Bridged s then s.weigher.lastMean else 0) * s.store.settings.segmentLength + 500) /
    1000

/-- How a segment is weighed (R9 to R11). -/
def weighingOf (s : State) : Weighing := if Live s then .live else if Bridged s then .estimated else .unweighed

/-- The weigher once the segment is weighed (R9, R10). -/
def weighedWeigher (s : State) : Weigher :=
  { s.weigher with
    lastMean := if Live s then closingMean s else s.weigher.lastMean
    holdLast := if Live s then 0 else if Bridged s then s.weigher.holdLast + 1 else s.weigher.holdLast
    scale := if Live s then .normal else if Bridged s then s.weigher.scale else .scaleFault }

theorem weighSegment_of_live {s : State} (live : Live s) : weighSegment s =
    { state := { s with weigher := weighedWeigher s }, mass := closingMass s, how := weighingOf s } := by
  simp only [weighSegment, weighedWeigher, closingMass, weighingOf, if_pos live]
  rfl

theorem weighSegment_of_bridged {s : State} (bridged : Bridged s) : weighSegment s =
    { state := { s with weigher := weighedWeigher s }, mass := closingMass s, how := weighingOf s } := by
  obtain ⟨noLoad, normal, few⟩ := id bridged
  have dead : ¬ Live s := by omega
  simp only [weighSegment, weighedWeigher, closingMass, weighingOf, if_neg dead, if_pos bridged, if_pos normal, if_pos few]
  rfl

theorem weighSegment_of_fault {s : State} (faults : FaultsNow s) : weighSegment s =
    { state := countUnweighed (enterScaleFault s), mass := closingMass s, how := weighingOf s } := by
  obtain ⟨normal, dead, notBridged⟩ := faults
  have many : ¬ s.weigher.holdLast < 4 := fun few => notBridged ⟨by omega, normal, few⟩
  simp only [weighSegment, closingMass, weighingOf, if_neg dead, if_neg notBridged, if_pos normal, if_neg many]
  simp

theorem weighSegment_of_unweighed {s : State} (dead : ¬ Live s) (faulted : s.weigher.scale ≠ .normal) : weighSegment s =
    { state := countUnweighed s, mass := closingMass s, how := weighingOf s } := by
  have notBridged : ¬ Bridged s := fun b => faulted b.2.1
  simp only [weighSegment, closingMass, weighingOf, if_neg dead, if_neg notBridged, if_neg faulted]
  simp

/-- The four kinds of segment. -/
theorem weighing_cases (s : State) : Live s ∨ Bridged s ∨ FaultsNow s ∨ (¬ Live s ∧ s.weigher.scale ≠ .normal) := by
  by_cases live : Live s
  · exact .inl live
  by_cases bridged : Bridged s
  · exact .inr (.inl bridged)
  by_cases normal : s.weigher.scale = .normal
  · exact .inr (.inr (.inl ⟨normal, live, bridged⟩))
  · exact .inr (.inr (.inr ⟨live, normal⟩))

section
variable (s : State)

theorem weighSegment_found : (weighSegment s).mass = closingMass s ∧ (weighSegment s).how = weighingOf s := by
  obtain live | bridged | faults | ⟨dead, faulted⟩ := weighing_cases s
  · rw [weighSegment_of_live live]
    exact ⟨rfl, rfl⟩
  · rw [weighSegment_of_bridged bridged]
    exact ⟨rfl, rfl⟩
  · rw [weighSegment_of_fault faults]
    exact ⟨rfl, rfl⟩
  · rw [weighSegment_of_unweighed dead faulted]
    exact ⟨rfl, rfl⟩

theorem weighSegment_weigher : (weighSegment s).state.weigher = weighedWeigher s := by
  obtain live | bridged | faults | ⟨dead, faulted⟩ := weighing_cases s
  · rw [weighSegment_of_live live]
  · rw [weighSegment_of_bridged bridged]
  · obtain ⟨-, dead, notBridged⟩ := id faults
    rw [weighSegment_of_fault faults, weighedWeigher, if_neg dead, if_neg dead, if_neg dead, if_neg notBridged,
      if_neg notBridged]
    simp [countUnweighed, enterScaleFault]
  · have notBridged : ¬ Bridged s := fun b => faulted b.2.1
    have scale : s.weigher.scale = .scaleFault := by
      cases h : s.weigher.scale with
      | normal => exact absurd h faulted
      | scaleFault => rfl
    rw [weighSegment_of_unweighed dead faulted, weighedWeigher, if_neg dead, if_neg dead, if_neg dead, if_neg notBridged,
      if_neg notBridged, ← scale]
    simp

/-- A segment that is not weighed is counted in the account of the weighing lot (R11). -/
theorem weighSegment_ledger (b : Account) : (weighSegment s).state.accounts.ledger b = { s.accounts.ledger b with
    unweighed := if b = weighingAccount s ∧ ¬ Live s ∧ ¬ Bridged s then min ((s.accounts.ledger b).unweighed + 1) 65535
      else (s.accounts.ledger b).unweighed } := by
  have counted (u : State) (lot : u.weigher.weighingLot = s.weigher.weighingLot)
      (ledger : u.accounts.ledger b = s.accounts.ledger b) (missed : ¬ Live s ∧ ¬ Bridged s) :
      (countUnweighed u).accounts.ledger b = { s.accounts.ledger b with
        unweighed := if b = weighingAccount s ∧ ¬ Live s ∧ ¬ Bridged s then min ((s.accounts.ledger b).unweighed + 1) 65535
          else (s.accounts.ledger b).unweighed } := by
    have acc : weighingAccount u = weighingAccount s := by simp only [weighingAccount, lot]
    rw [countUnweighed, updateLedger_ledger, ledger, acc]
    by_cases h : b = weighingAccount s
    · rw [if_pos h, if_pos ⟨h, missed⟩]
      rfl
    · rw [if_neg h, if_neg fun both => h both.1]
  obtain live | bridged | faults | ⟨dead, faulted⟩ := weighing_cases s
  · rw [weighSegment_of_live live, if_neg fun missed => missed.2.1 live]
  · rw [weighSegment_of_bridged bridged, if_neg fun missed => missed.2.2 bridged]
  · rw [weighSegment_of_fault faults]
    have stand : BooksStand s (enterScaleFault s) := by simp [BooksStand, enterScaleFault]
    exact counted _ (by simp) (stand.ledger b) faults.2
  · rw [weighSegment_of_unweighed dead faulted]
    exact counted _ rfl rfl ⟨dead, fun bridged => faulted bridged.2.1⟩

/-- Weighing leaves the carriage and the moment where no swap can be taken. -/
theorem weighSegment_barred {s : State} (h : Barred s) : (weighSegment s).state.travel = s.travel ∧
    (weighSegment s).state.accounts.moment = s.accounts.moment := by
  obtain live | bridged | faults | ⟨dead, faulted⟩ := weighing_cases s
  · rw [weighSegment_of_live live]
    exact ⟨rfl, rfl⟩
  · rw [weighSegment_of_bridged bridged]
    exact ⟨rfl, rfl⟩
  · obtain ⟨travel, accounts⟩ := scaleFaultNotice_barred
      (h.congr rfl rfl : Barred (raise .scaleFault { s with weigher := { s.weigher with scale := .scaleFault } }))
    rw [weighSegment_of_fault faults]
    simp [countUnweighed, enterScaleFault, travel, updateLedger, accounts]
  · rw [weighSegment_of_unweighed dead faulted]
    simp [countUnweighed, updateLedger]

theorem weighSegment_idle_moment (idle : s.governor.state = .idle) :
    (weighSegment s).state.accounts.moment = s.accounts.moment := by
  obtain live | bridged | faults | ⟨dead, faulted⟩ := weighing_cases s
  · rw [weighSegment_of_live live]
  · rw [weighSegment_of_bridged bridged]
  · rw [weighSegment_of_fault faults]
    simp [countUnweighed, enterScaleFault, scaleFaultNotice, raise, idle, updateLedger]
  · rw [weighSegment_of_unweighed dead faulted]
    simp [countUnweighed, updateLedger]

/-- With the governor IDLE, an entry into SCALE FAULT raises its event and no more. -/
theorem weighSegment_idle (idle : s.governor.state = .idle) : (weighSegment s).state = { s with
    weigher := weighedWeigher s, accounts := (weighSegment s).state.accounts
    events := if FaultsNow s then s.events.raise .scaleFault else s.events } := by
  obtain live | bridged | faults | ⟨dead, faulted⟩ := weighing_cases s
  · rw [weighSegment_of_live live, if_neg fun faults => faults.2.1 live]
  · rw [weighSegment_of_bridged bridged, if_neg fun faults => faults.2.2 bridged]
  · have weigher := weighSegment_weigher s
    rw [weighSegment_of_fault faults] at weigher ⊢
    rw [if_pos faults, ← weigher, countUnweighed, updateLedger_eq, enterScaleFault, scaleFaultNotice]
    simp only [raise, idle]
  · have weigher := weighSegment_weigher s
    rw [weighSegment_of_unweighed dead faulted] at weigher ⊢
    rw [if_neg fun faults => faulted faults.1, ← weigher, countUnweighed, updateLedger_eq]

end

/-! ### Billing, the shift and the discharge (R13 to R17) -/

/-- A ledger billed with a segment (R13). -/
abbrev Ledger.billed (l : Ledger) (bills : Prop) [Decidable bills] (mass : Nat) (how : Weighing) : Ledger :=
  { l with
    weighed := if bills ∧ mass ≠ 0 then massAdd l.weighed mass else l.weighed
    estimated := if bills ∧ mass ≠ 0 ∧ how = .estimated then massAdd l.estimated mass else l.estimated }

theorem billSegment_eq (mass : Nat) (how : Weighing) (s : State) (b : Account) :
    (billSegment mass how s).accounts.ledger b = (s.accounts.ledger b).billed (b = weighingAccount s) mass how := by
  unfold billSegment
  by_cases zero : mass = 0
  · simp [zero, Ledger.billed]
  · rw [if_neg zero, updateLedger_ledger]
    by_cases h : b = weighingAccount s
    · simp [h, zero, Ledger.bill, Ledger.billed]
    · simp [h, Ledger.billed]

theorem billSegment_rest (mass : Nat) (how : Weighing) (s : State) :
    (billSegment mass how s).accounts.moment = s.accounts.moment := by
  unfold billSegment
  split <;> simp [updateLedger]

/-- The splits of an account, the leaving entry `e` discharged to `d` (R16). -/
def Ledger.splitsAfter (l : Ledger) (b : Account) (e : Entry) (d : Destination) : List (Hold × Nat) :=
  match d with
  | .hold h => if e.mass ≠ 0 ∧ e.tag = some b then addSplit h e.mass l.splits else l.splits
  | _ => l.splits

/-- The ledger of the account `b`, the leaving entry `e` discharged to `d` (R15 to R17). -/
abbrev Ledger.discharged (l : Ledger) (b : Account) (e : Entry) (d : Destination) : Ledger :=
  { l with
    rejected := if e.mass ≠ 0 ∧ e.tag = some b ∧ d = .reject then massAdd l.rejected e.mass else l.rejected
    spilled := if e.mass ≠ 0 ∧ e.tag = some b ∧ d = .spill then massAdd l.spilled e.mass else l.spilled
    splits := l.splitsAfter b e d }

/-- The moment, a mass discharged to `d` under the levers of a page (R16, R143). -/
def momentAfter (moment : Int) (page : HatchPage) (mass : Nat) (d : Destination) : Int :=
  match d with
  | .hold h => if mass = 0 then moment else momentOf (moment + (mass : Int) * leverOn page h)
  | _ => moment

section
variable {e : Entry} (d : Destination) (s : State)

theorem discharge_of_zero (lawful : e.Lawful) (zero : e.mass = 0) : discharge e d s = s := by
  rw [discharge, lawful.2.2 zero]

theorem discharge_of_mass {acc : Account} (tag : e.tag = some acc) (mass : e.mass ≠ 0) : discharge e d s =
    match d with
    | .reject => setSpillRun false (updateLedger acc (fun l => { l with rejected := massAdd l.rejected e.mass }) s)
    | .spill => dischargeSpill e.mass acc s
    | .hold h => setSpillRun false (creditHold h e.mass acc s) := by
  rw [discharge, tag]
  exact if_neg mass

theorem dischargeSpill_eq (mass : Nat) (acc : Account) : dischargeSpill mass acc s =
    { updateLedger acc (fun l => { l with spilled := massAdd l.spilled mass }) s with
      weigher := { s.weigher with spillRun := true }
      events := if s.weigher.spillRun = false then s.events.raise (.spill (spillDetail s)) else s.events } := by
  cases acc <;> cases run : s.weigher.spillRun <;>
    simp [dischargeSpill, run, updateLedger, Accounts.setLedger, setSpillRun, raise] <;> rw [← run]

theorem discharge_ledger_eq (lawful : e.Lawful) (b : Account) :
    (discharge e d s).accounts.ledger b = (s.accounts.ledger b).discharged b e d := by
  by_cases zero : e.mass = 0
  · rw [discharge_of_zero d s lawful zero]
    cases d <;> simp [zero, Ledger.splitsAfter, Ledger.discharged]
  obtain ⟨acc, tag⟩ := Option.ne_none_iff_exists'.1 (mt lawful.2.1 zero)
  rw [discharge_of_mass d s tag zero]
  cases d with
  | reject =>
    refine (updateLedger_ledger acc b (fun l => { l with rejected := massAdd l.rejected e.mass }) s).trans ?_
    by_cases h : b = acc <;> simp [h, zero, Ledger.splitsAfter, Ledger.discharged, tag, eq_comm]
  | spill =>
    dsimp only
    rw [dischargeSpill_eq]
    refine (updateLedger_ledger acc b (fun l => { l with spilled := massAdd l.spilled e.mass }) s).trans ?_
    by_cases h : b = acc <;> simp [h, zero, Ledger.splitsAfter, Ledger.discharged, tag, eq_comm]
  | hold k =>
    refine (updateLedger_ledger acc b (fun l => { l with splits := addSplit k e.mass l.splits }) s).trans ?_
    by_cases h : b = acc <;> simp [h, zero, Ledger.splitsAfter, Ledger.discharged, tag, eq_comm]

theorem discharge_eq (lawful : e.Lawful) : (discharge e d s).weigher = { s.weigher with
      spillRun := if e.mass = 0 then s.weigher.spillRun else decide (d = .spill) } ∧
    (∀ h, (discharge e d s).accounts.credited.get h = if e.mass ≠ 0 ∧ d = .hold h then
      massAdd (s.accounts.credited.get h) e.mass else s.accounts.credited.get h) ∧
    (discharge e d s).accounts.moment = momentAfter s.accounts.moment s.travel.activeMap e.mass d ∧
    (discharge e d s).events = if e.mass ≠ 0 ∧ d = .spill ∧ s.weigher.spillRun = false then
      s.events.raise (.spill (spillDetail s)) else s.events := by
  by_cases zero : e.mass = 0
  · rw [discharge_of_zero d s lawful zero]
    cases d <;> simp [zero, momentAfter]
  obtain ⟨acc, tag⟩ := Option.ne_none_iff_exists'.1 (mt lawful.2.1 zero)
  rw [discharge_of_mass d s tag zero]
  cases d with
  | reject => simp [zero, momentAfter, setSpillRun, updateLedger]
  | spill =>
    dsimp only
    rw [dischargeSpill_eq]
    simp [zero, momentAfter, updateLedger]
  | hold k =>
    refine ⟨by simp [zero, setSpillRun], fun h => ?_, by simp [zero, momentAfter, setSpillRun, creditHold, updateLedger], by simp⟩
    by_cases hk : h = k
    · simp [zero, setSpillRun, creditHold, updateLedger, hk]
    · simp [zero, setSpillRun, creditHold, updateLedger, get_set_ne _ _ _ _ hk, Ne.symm hk]

end

theorem segmentEntry_eq (mass : Nat) (s : State) :
    segmentEntry mass s = { mass := mass, tag := if mass = 0 then none else some (weighingAccount s) } := by
  unfold segmentEntry
  split
  next zero => rw [zero]; rfl
  next => rfl

section
variable {s : State} (lawful : (leavingEntry s).Lawful) (mass : Nat) (how : Weighing)
include lawful

theorem moveLine_weigher : (moveLine mass how s).weigher = { s.weigher with
    line := s.weigher.line.tail ++ [segmentEntry mass s]
    lineTotal := s.weigher.lineTotal + mass - (leavingEntry s).mass
    spillRun := if (leavingEntry s).mass = 0 then s.weigher.spillRun else decide (destination s = .spill) } := by
  obtain ⟨weigher, -⟩ := discharge_eq (destination s) (shiftLine (segmentEntry mass s) (billSegment mass how s)) lawful
  have entered : (segmentEntry mass s).mass = mass := by rw [segmentEntry_eq]
  rw [moveLine, weigher]
  simp [shiftLine, leavingEntry, entered]

theorem moveLine_ledger (b : Account) : (moveLine mass how s).accounts.ledger b =
    ((s.accounts.ledger b).billed (b = weighingAccount s) mass how).discharged b (leavingEntry s) (destination s) := by
  rw [moveLine, discharge_ledger_eq _ _ lawful]
  exact congrArg (Ledger.discharged · b (leavingEntry s) (destination s)) (billSegment_eq mass how s b)

theorem moveLine_credited (h : Hold) : (moveLine mass how s).accounts.credited.get h =
    if (leavingEntry s).mass ≠ 0 ∧ destination s = .hold h then
      massAdd (s.accounts.credited.get h) (leavingEntry s).mass else s.accounts.credited.get h := by
  obtain ⟨-, credited, -⟩ := discharge_eq (destination s) (shiftLine (segmentEntry mass s) (billSegment mass how s)) lawful
  rw [moveLine, credited]
  simp

theorem moveLine_moment_eq : (moveLine mass how s).accounts.moment =
    momentAfter s.accounts.moment s.travel.activeMap (leavingEntry s).mass (destination s) := by
  obtain ⟨-, -, moment, -⟩ := discharge_eq (destination s) (shiftLine (segmentEntry mass s) (billSegment mass how s)) lawful
  rw [moveLine, moment]
  simp [billSegment_rest]

theorem moveLine_events : (moveLine mass how s).events =
    if (leavingEntry s).mass ≠ 0 ∧ destination s = .spill ∧ s.weigher.spillRun = false then
      s.events.raise (.spill (spillDetail s)) else s.events := by
  obtain ⟨-, -, -, events⟩ := discharge_eq (destination s) (shiftLine (segmentEntry mass s) (billSegment mass how s)) lawful
  rw [moveLine, events]
  simp [shiftLine, spillDetail]

end

/-! ### The close as a whole -/

theorem leavingEntry_lawful {s : State} (line : LineOk s) : (leavingEntry s).Lawful := by
  obtain ⟨-, -, entries, -⟩ := line
  unfold leavingEntry
  cases h : s.weigher.line with
  | nil => exact ⟨Nat.zero_le _, iff_of_true rfl rfl⟩
  | cons x l => exact entries x (by rw [h]; exact List.mem_cons_self ..)

/-- Grain that leaves was in the line, so that no swap could be taken before (R63). -/
theorem barred_of_leaving {s : State} (line : LineOk s) (mass : (leavingEntry s).mass ≠ 0) : Barred s := by
  obtain ⟨-, total, -⟩ := line
  refine .inr (.inr ?_)
  rw [total]
  unfold leavingEntry at mass
  cases h : s.weigher.line with
  | nil =>
    rw [h] at mass
    exact absurd rfl mass
  | cons x l =>
    rw [h] at mass
    simp only [lineMass, List.map_cons, List.sum_cons]
    exact fun zero => mass (Nat.eq_zero_of_add_eq_zero zero).1

/-- What the close's weighing leaves of the entry that leaves, and of where it goes (R14, R15). -/
theorem weighSegment_leaving {s : State} (line : LineOk s) : leavingEntry (weighSegment s).state = leavingEntry s ∧
    weighingAccount (weighSegment s).state = weighingAccount s ∧
    ((leavingEntry s).mass ≠ 0 → destination (weighSegment s).state = destination s) := by
  refine ⟨?_, ?_, fun mass => ?_⟩
  · rw [leavingEntry, weighSegment_weigher]
    rfl
  · rw [weighingAccount, weighSegment_weigher]
    rfl
  · unfold destination
    rw [(weighSegment_barred (barred_of_leaving line mass)).1]

/-- The state that the close's notices find: the segment weighed, the line moved, the pulses counted anew (R8). -/
def movedLine (s : State) : State := restartSegment (moveLine (closingMass s) (weighingOf s) (weighSegment s).state)

theorem closeSegment_eq {s : State} (line : LineOk s) : closeSegment s =
    travelSegmentClosed (segmentClosedNotice (closingMass s) (weighingOf s) (leavingEntry s).mass
      (destination (weighSegment s).state) (movedLine s)) := by
  obtain ⟨leaving, -, -⟩ := weighSegment_leaving line
  obtain ⟨mass, how⟩ := weighSegment_found s
  simp only [closeSegment, movedLine, mass, how, leaving]

section
variable {s : State} (line : LineOk s)
include line

theorem movedLine_weigher : (movedLine s).weigher = { s.weigher with
    pulseCount := 0, segmentSum := 0, segmentCount := 0
    lastMean := if Live s then closingMean s else s.weigher.lastMean
    holdLast := if Live s then 0 else if Bridged s then s.weigher.holdLast + 1 else s.weigher.holdLast
    scale := if Live s then .normal else if Bridged s then s.weigher.scale else .scaleFault
    line := s.weigher.line.tail ++
      [{ mass := closingMass s, tag := if closingMass s = 0 then none else some (weighingAccount s) }]
    lineTotal := s.weigher.lineTotal + closingMass s - (leavingEntry s).mass
    spillRun := if (leavingEntry s).mass = 0 then s.weigher.spillRun else decide (destination s = .spill) } := by
  obtain ⟨leaving, account, dest⟩ := weighSegment_leaving line
  have lawful : (leavingEntry (weighSegment s).state).Lawful := leaving ▸ leavingEntry_lawful line
  rw [movedLine, restartSegment, moveLine_weigher lawful, leaving, segmentEntry_eq, account, weighSegment_weigher]
  by_cases zero : (leavingEntry s).mass = 0
  · simp only [if_pos zero]
    rfl
  · simp only [if_neg zero, dest zero]
    rfl

theorem movedLine_ledger (b : Account) : (movedLine s).accounts.ledger b =
    (({ s.accounts.ledger b with
      unweighed := if b = weighingAccount s ∧ ¬ Live s ∧ ¬ Bridged s then min ((s.accounts.ledger b).unweighed + 1) 65535
        else (s.accounts.ledger b).unweighed } : Ledger).billed (b = weighingAccount s) (closingMass s)
          (weighingOf s)).discharged b (leavingEntry s) (destination s) := by
  obtain ⟨leaving, account, dest⟩ := weighSegment_leaving line
  have lawful : (leavingEntry (weighSegment s).state).Lawful := leaving ▸ leavingEntry_lawful line
  have restarted : (movedLine s).accounts = (moveLine (closingMass s) (weighingOf s) (weighSegment s).state).accounts := rfl
  rw [restarted, moveLine_ledger lawful, leaving, weighSegment_ledger]
  simp only [account]
  by_cases zero : (leavingEntry s).mass = 0
  · cases destination s <;> cases destination (weighSegment s).state <;>
      simp [Ledger.discharged, Ledger.splitsAfter, zero]
  · rw [dest zero]

theorem movedLine_credited (h : Hold) : (movedLine s).accounts.credited.get h =
    if (leavingEntry s).mass ≠ 0 ∧ destination s = .hold h then
      massAdd (s.accounts.credited.get h) (leavingEntry s).mass else s.accounts.credited.get h := by
  obtain ⟨leaving, -, dest⟩ := weighSegment_leaving line
  have lawful : (leavingEntry (weighSegment s).state).Lawful := leaving ▸ leavingEntry_lawful line
  have restarted : (movedLine s).accounts = (moveLine (closingMass s) (weighingOf s) (weighSegment s).state).accounts := rfl
  have credited : (weighSegment s).state.accounts.credited = s.accounts.credited := by simp
  rw [restarted, moveLine_credited lawful, leaving, credited]
  by_cases zero : (leavingEntry s).mass = 0
  · simp [zero]
  · rw [dest zero]

/-- The moment after the discharge, where weighing leaves the carriage and the moment. -/
theorem movedLine_moment (still : (weighSegment s).state.travel = s.travel ∧
    (weighSegment s).state.accounts.moment = s.accounts.moment) : (movedLine s).accounts.moment =
      momentAfter s.accounts.moment s.travel.activeMap (leavingEntry s).mass (destination s) := by
  obtain ⟨leaving, -, -⟩ := weighSegment_leaving line
  obtain ⟨travel, moment⟩ := still
  have lawful : (leavingEntry (weighSegment s).state).Lawful := leaving ▸ leavingEntry_lawful line
  have restarted : (movedLine s).accounts = (moveLine (closingMass s) (weighingOf s) (weighSegment s).state).accounts := rfl
  have dest : destination (weighSegment s).state = destination s := by
    unfold destination
    rw [travel]
  rw [restarted, moveLine_moment_eq lawful, leaving, dest, travel, moment]

end

theorem movedLine_travel {s : State} (barred : Barred s) : (movedLine s).travel = s.travel := by
  obtain ⟨travel, -⟩ := weighSegment_barred barred
  simp [movedLine, travel]

/-! ### The carriage at a close (R63, R70, R83) -/

/-- No swap can be taken while the plan stands: none is pending, or a step is ACTIVE (R63). -/
def SwapHeld (s : State) : Prop := s.travel.swapPending = false ∨ stepActive s = true

theorem SwapHeld.swapTest {s : State} (h : SwapHeld s) : swapTest s = s := by
  obtain ⟨pending, ready, -⟩ | ⟨-, e⟩ := swapTest_cases s
  · obtain ⟨-, free, -⟩ := (swapReady_iff s).1 ready
    obtain none | active := h
    · rw [none] at pending
      cases pending
    · rw [active] at free
      cases free
  · exact e

section
variable {s : State} (w : Weigher) (a : Accounts)

/-- The state with another weigher and other accounts. -/
abbrev withBooks (s : State) (w : Weigher) (a : Accounts) : State := { s with weigher := w, accounts := a }

theorem enterFault_withBooks (h : SwapHeld s) (c : FaultCause) :
    enterFault c (withBooks s w a) = withBooks (enterFault c s) w a := by
  rw [enterFault, enterFault, SwapHeld.swapTest, SwapHeld.swapTest]
  · rfl
  · exact h
  · exact h

theorem homeSet_withBooks (h : SwapHeld s) : homeSet (withBooks s w a) = withBooks (homeSet s) w a := by
  rw [homeSet, homeSet, SwapHeld.swapTest, SwapHeld.swapTest]
  · rfl
  · exact h
  · exact h

theorem startGoTo_withBooks (h : SwapHeld s) (x : Nat) :
    startGoTo x (withBooks s w a) = withBooks (startGoTo x s) w a := by
  unfold startGoTo
  dsimp only
  split
  · rfl
  split
  · exact enterFault_withBooks (s := { s with travel := { s.travel with target := some x } }) w a h .limit
  split <;> rfl

theorem startReference_withBooks (h : SwapHeld s) :
    startReference (withBooks s w a) = withBooks (startReference s) w a := by
  unfold startReference
  dsimp only
  split
  · exact enterFault_withBooks (s := { s with travel := { s.travel with target := none } }) w a h .limit
  split
  · exact homeSet_withBooks (s := { s with travel := { s.travel with target := none } }) w a h
  · rfl

/-- Where no swap can be taken, the start of a motion does not look at the weigher and the accounts. -/
theorem startMotion_withBooks (h : SwapHeld s) : startMotion (withBooks s w a) = withBooks (startMotion s) w a := by
  have begun : SwapHeld (motionBegun s) := h
  unfold startMotion
  dsimp only
  split
  next hold request =>
    split
    next e entry => exact startGoTo_withBooks w a begun _
    next => rfl
  next x request => exact startGoTo_withBooks w a begun x
  next request => exact startReference_withBooks w a begun
  next => rfl

theorem startMotion_accounts (h : SwapHeld s) : (startMotion s).accounts = s.accounts := by
  have same : startMotion s = withBooks (startMotion s) s.weigher s.accounts :=
    startMotion_withBooks s.weigher s.accounts h
  rw [same]

end

section
variable {s : State}

/-- A carriage in motion takes no swap and starts no motion; grain entering its line turns the diverter (R83). -/
theorem travelSegmentClosed_of_motion (motion : s.travel.state.inMotion = true) : travelSegmentClosed s = { s with
    travel := if s.weigher.lineTotal = 0 then s.travel else { s.travel with diverter := .reject } } := by
  have barred : Barred s := .inr (.inl motion)
  have notPending : ¬ (s.travel.state = .pending ∧ s.weigher.lineTotal = 0) := fun both => by
    rw [both.1] at motion
    cases motion
  unfold travelSegmentClosed
  simp only [barred.swapTest]
  rw [if_neg notPending]
  by_cases empty : s.weigher.lineTotal = 0
  · rw [if_neg (fun all => all.2.2 empty), if_pos empty]
  rw [if_neg empty]
  cases diverter : s.travel.diverter with
  | normal => rw [if_pos ⟨motion, rfl, empty⟩]
  | reject => rw [if_neg (fun all => by cases all.2.1), ← diverter]

/-- A carriage that waits starts its motion once the line is empty (R70). -/
theorem travelSegmentClosed_of_pending (pending : s.travel.state = .pending) (empty : s.weigher.lineTotal = 0) :
    travelSegmentClosed s = startMotion (swapTest s) := by
  refine if_pos ⟨(swapTest_travel_state s).trans pending, ?_⟩
  rw [(swapTest_frame s).2.2.2.2.1]
  exact empty

/-- Any other carriage at rest takes the swap test, and no more. -/
theorem travelSegmentClosed_at_rest (waits : s.travel.state ≠ .pending ∨ s.weigher.lineTotal ≠ 0)
    (rest : s.travel.state.inMotion = false) : travelSegmentClosed s = swapTest s := by
  unfold travelSegmentClosed
  dsimp only
  rw [if_neg, if_neg]
  · rw [swapTest_travel_state, rest]
    exact fun all => nomatch all.1
  · rw [swapTest_travel_state, (swapTest_frame s).2.2.2.2.1]
    exact fun both => waits.elim (· both.1) (· both.2)

end

/-! ### A close with the governor IDLE -/

section
variable {s : State} (line : LineOk s)

theorem segmentClosedNotice_of_idle (idle : s.governor.state = .idle) (entering : Nat) (w : Weighing) (leaving : Nat)
    (dest : Destination) : segmentClosedNotice entering w leaving dest s = s := by
  simp only [segmentClosedNotice, idle]

/-- What the weigher raises in a close with the governor IDLE (R10, R17). -/
def closeEvents (s : State) : List Event :=
  (if FaultsNow s then [Event.scaleFault] else []) ++
    (if (leavingEntry s).mass ≠ 0 ∧ destination s = .spill ∧ s.weigher.spillRun = false then
      [Event.spill (spillDetail s)] else [])

include line in
theorem movedLine_of_idle (idle : s.governor.state = .idle) : movedLine s = { s with
    weigher := (movedLine s).weigher, accounts := (movedLine s).accounts
    events := (closeEvents s).foldl (fun x e => x.raise e) s.events } := by
  obtain ⟨leaving, -, dest⟩ := weighSegment_leaving line
  have lawful : (leavingEntry (weighSegment s).state).Lawful := leaving ▸ leavingEntry_lawful line
  have weighed := weighSegment_idle s idle
  have plan : (weighSegment s).state.plan = s.plan := by rw [weighed]
  have fresh : (weighSegment s).state.events = if FaultsNow s then s.events.raise .scaleFault else s.events := by
    rw [weighed]
  have run : (weighSegment s).state.weigher.spillRun = s.weigher.spillRun := by rw [weighSegment_weigher]; rfl
  have dest' : (leavingEntry s).mass ≠ 0 ∧ destination (weighSegment s).state = .spill ∧ s.weigher.spillRun = false ↔
      (leavingEntry s).mass ≠ 0 ∧ destination s = .spill ∧ s.weigher.spillRun = false :=
    and_congr_right fun mass => by rw [dest mass]
  have events : (movedLine s).events = (closeEvents s).foldl (fun x e => x.raise e) s.events := by
    have restarted : (movedLine s).events = (moveLine (closingMass s) (weighingOf s) (weighSegment s).state).events := rfl
    rw [restarted, moveLine_events lawful, leaving, run, fresh, closeEvents, List.foldl_append, foldl_raise_ite,
      foldl_raise_ite, spillDetail, plan]
    exact if_congr dest' rfl rfl
  rw [← events]
  have rest : (movedLine s).phase = s.phase ∧ (movedLine s).pins = s.pins ∧ (movedLine s).store = s.store ∧
      (movedLine s).converter = s.converter ∧ (movedLine s).dust = s.dust ∧ (movedLine s).travel = s.travel ∧
      (movedLine s).plan = s.plan ∧ (movedLine s).governor = s.governor ∧ (movedLine s).ports = s.ports ∧
      (movedLine s).answer = s.answer ∧ (movedLine s).pending = s.pending := by
    simp only [movedLine, restartSegment_frame, moveLine_frame, weighSegment_frame, true_and]
    rw [weighed]
    exact ⟨rfl, rfl, rfl, trivial⟩
  obtain ⟨e1, e2, e3, e4, e5, e6, e7, e8, e9, e10, e11⟩ := rest
  rw [← e1, ← e2, ← e3, ← e4, ← e5, ← e6, ← e7, ← e8, ← e9, ← e10, ← e11]

/-- A pending swap whose conditions hold together once the line holds `total` (R63). -/
abbrev SwapsAt (s : State) (total : Nat) : Prop :=
  s.travel.swapPending = true ∧ s.travel.state.inMotion = false ∧ stepActive s = false ∧ total = 0

/-- The carriage and the events after the swap test of a close (R63). -/
abbrev swappedAt (s : State) (total : Nat) (E : Events) : State :=
  let other := otherPage s.travel.activePage
  let swapped := { s.travel with swapPending := false, activePage := other }
  { s with
    travel := if SwapsAt s total then { swapped with spoutOver := spoutOverNow swapped s.store.settings.pourMargin }
      else s.travel
    events := if SwapsAt s total then E.raise (.pageSwapped other) else E }

section
variable (s : State) (W : Weigher) (A : Accounts) (E : Events)

/-- The state that the controller finds: the moved line's books and events. -/
abbrev closedBooks : State := { s with weigher := W, accounts := A, events := E }

theorem swapTest_closedBooks : ∃ B : Accounts,
    swapTest (closedBooks s W A E) = withBooks (swappedAt s W.lineTotal E) W B ∧
    (SwapsAt s W.lineTotal →
      B.moment = momentOf (momentOn (s.travel.pages.get (otherPage s.travel.activePage)) A.credited)) ∧
    (¬ SwapsAt s W.lineTotal → B = A) := by
  obtain ⟨pending, ready, e⟩ | ⟨stays, e⟩ := swapTest_cases (closedBooks s W A E)
  · have swaps : SwapsAt s W.lineTotal := ⟨pending, (swapReady_iff _).1 ready⟩
    refine ⟨(takeSwap (closedBooks s W A E)).accounts, ?_, fun _ => rfl, fun no => absurd swaps no⟩
    rw [e, takeSwap_eq]
    simp only [swappedAt, if_pos swaps]
    rfl
  · have no : ¬ SwapsAt s W.lineTotal := fun swaps => stays ⟨swaps.1, (swapReady_iff _).2 swaps.2⟩
    refine ⟨A, ?_, fun swaps => absurd swaps no, fun _ => rfl⟩
    rw [e]
    simp only [swappedAt, if_neg no]

/-- A carriage whose line is empty has no swap left to take, or a step is ACTIVE (R63). -/
theorem swappedAt_held (rest : s.travel.state.inMotion = false) (empty : W.lineTotal = 0) :
    SwapHeld (swappedAt s W.lineTotal E) := by
  by_cases swaps : SwapsAt s W.lineTotal
  · exact .inl (by rw [swappedAt, if_pos swaps])
  · cases active : stepActive s with
    | true => exact .inr active
    | false =>
      refine .inl ?_
      rw [swappedAt, if_neg swaps]
      exact Bool.eq_false_iff.2 fun pending => swaps ⟨pending, rest, active, empty⟩

/-- What the controller makes of a close that leaves the governor IDLE: a pending swap first, then a waiting motion (R63, R70,
R83). -/
theorem travelSegmentClosed_closedBooks : let t := travelSegmentClosed (closedBooks s W A E)
    (SwapsAt s W.lineTotal → t.accounts.moment =
      momentOf (momentOn (s.travel.pages.get (otherPage s.travel.activePage)) A.credited)) ∧
    (¬ SwapsAt s W.lineTotal → t.accounts.moment = A.moment) ∧
    (s.travel.state ≠ .pending ∨ W.lineTotal ≠ 0 → s.travel.state.inMotion = false →
      t.travel = (swappedAt s W.lineTotal E).travel ∧ t.events = (swappedAt s W.lineTotal E).events) ∧
    (s.travel.state.inMotion = true → t.events = (swappedAt s W.lineTotal E).events) ∧
    (s.travel.state = .pending → W.lineTotal = 0 →
      t.travel = (startMotion (swappedAt s W.lineTotal E)).travel ∧
      t.events = (startMotion (swappedAt s W.lineTotal E)).events) := by
  obtain ⟨B, tested, swapped, stays⟩ := swapTest_closedBooks s W A E
  intro t
  have unmoved (motion : s.travel.state.inMotion = true) : ¬ SwapsAt s W.lineTotal := fun swaps => by
    rw [swaps.2.1] at motion
    cases motion
  have inMotion (motion : s.travel.state.inMotion = true) : t = _ :=
    travelSegmentClosed_of_motion (s := closedBooks s W A E) motion
  have atRest (waits : s.travel.state ≠ .pending ∨ W.lineTotal ≠ 0) (rest : s.travel.state.inMotion = false) :
      t = withBooks (swappedAt s W.lineTotal E) W B :=
    (travelSegmentClosed_at_rest (s := closedBooks s W A E) waits rest).trans tested
  have starts (pending : s.travel.state = .pending) (empty : W.lineTotal = 0) :
      t = withBooks (startMotion (swappedAt s W.lineTotal E)) W B := by
    have held := swappedAt_held s W E (by rw [pending]; rfl) empty
    rw [← startMotion_withBooks W B held, ← tested]
    exact travelSegmentClosed_of_pending (s := closedBooks s W A E) pending empty
  have books : t.accounts = B := by
    by_cases motion : s.travel.state.inMotion = true
    · rw [inMotion motion, stays (unmoved motion)]
    by_cases waits : s.travel.state ≠ .pending ∨ W.lineTotal ≠ 0
    · rw [atRest waits (Bool.eq_false_iff.2 motion)]
    · rw [not_or, not_not, not_not] at waits
      rw [starts waits.1 waits.2]
  rw [books]
  refine ⟨swapped, fun no => by rw [stays no], fun waits rest => ?_, fun motion => ?_, fun pending empty => ?_⟩
  · rw [atRest waits rest]
    exact ⟨rfl, rfl⟩
  · rw [inMotion motion]
    simp only [if_neg (unmoved motion)]
  · rw [starts pending empty]
    exact ⟨rfl, rfl⟩

end

end

/-! ### Every close -/

theorem weighingOf_estimated_iff (s : State) : weighingOf s = .estimated ↔ Bridged s := by
  unfold weighingOf
  by_cases live : Live s
  · rw [if_pos live]
    exact iff_of_false nofun fun bridged => by omega
  · rw [if_neg live]
    by_cases bridged : Bridged s
    · rw [if_pos bridged]
      exact iff_of_true rfl bridged
    · rw [if_neg bridged]
      exact iff_of_false nofun bridged

/-- The state after the governor's notice of a close. -/
def noticedClose (s : State) : State :=
  segmentClosedNotice (closingMass s) (weighingOf s) (leavingEntry s).mass (destination (weighSegment s).state) (movedLine s)

section
variable {s : State} (line : LineOk s)

/-- The notices of a close leave the weigher, the accounts' ledgers and the holds as the moved line has them. -/
theorem noticedClose_books : let t := travelSegmentClosed (noticedClose s)
    t.weigher = (movedLine s).weigher ∧ (∀ b, t.accounts.ledger b = (movedLine s).accounts.ledger b) ∧
    t.accounts.credited = (movedLine s).accounts.credited ∧ t.accounts.bills = s.accounts.bills ∧ t.store = s.store ∧
    t.dust = s.dust ∧ t.converter = s.converter ∧ t.ports = s.ports ∧ t.pins = s.pins ∧ t.answer = s.answer := by
  have bills : (movedLine s).accounts.bills = s.accounts.bills := by simp [movedLine]
  refine ⟨by simp [noticedClose], fun b => ?_, by simp [noticedClose], by simp [noticedClose, bills],
    by simp [noticedClose, movedLine], by simp [noticedClose, movedLine], by simp [noticedClose, movedLine],
    by simp [noticedClose, movedLine], by simp [noticedClose, movedLine], by simp [noticedClose, movedLine]⟩
  exact BooksStand.ledger (by simp [BooksStand, noticedClose]) b

include line in
/-- With no swap pending, a close leaves the moment as the discharge has it. -/
theorem closeSegment_moment (free : s.travel.swapPending = false) :
    (travelSegmentClosed (noticedClose s)).accounts.moment =
      momentAfter s.accounts.moment s.travel.activeMap (leavingEntry s).mass (destination s) := by
  have moved := movedLine_moment line (weighSegment_barred (.inl free))
  have barred : Barred (movedLine s) := by
    refine .inl ?_
    rw [movedLine_travel (.inl free)]
    exact free
  obtain ⟨travel, accounts⟩ := segmentClosedNotice_barred barred (closingMass s) (weighingOf s) (leavingEntry s).mass
    (destination (weighSegment s).state)
  have still : (noticedClose s).travel.swapPending = false := by
    rw [noticedClose, travel, movedLine_travel (.inl free)]
    exact free
  have same : (travelSegmentClosed (noticedClose s)).accounts = (noticedClose s).accounts := by
    unfold travelSegmentClosed
    rw [swapTest_of_not_pending still]
    dsimp only
    split
    · exact startMotion_accounts (.inl still)
    · split <;> rfl
  rw [same, noticedClose, accounts, moved]

/-- A carriage in motion at a close (R83). -/
theorem closeSegment_motion (motion : s.travel.state.inMotion = true) :
    (travelSegmentClosed (noticedClose s)).travel =
      (if (movedLine s).weigher.lineTotal = 0 then s.travel else { s.travel with diverter := .reject }) ∧
    (travelSegmentClosed (noticedClose s)).events = (noticedClose s).events := by
  have moved := movedLine_travel (.inr (.inl motion))
  have barred : Barred (movedLine s) := by
    refine .inr (.inl ?_)
    rw [moved]
    exact motion
  obtain ⟨travel, -⟩ := segmentClosedNotice_barred barred (closingMass s) (weighingOf s) (leavingEntry s).mass
    (destination (weighSegment s).state)
  have same : (noticedClose s).travel = s.travel := travel.trans moved
  have total : (noticedClose s).weigher = (movedLine s).weigher := by simp [noticedClose]
  rw [travelSegmentClosed_of_motion (by rw [same]; exact motion), same, total]
  exact ⟨rfl, rfl⟩

end

/-- Settles O45: the weighing, the moved line and the discharge; with the governor IDLE, then the swap test and the waiting
motion. -/
theorem segmentCloseMovesTheLine : Obligations.SegmentCloseMovesTheLine := by
  intro s hr law w live bridged mean load mass acc leaving goes moved
  have run : exec .tachPulse s = .next (countPulse s) := exec_arrival_of_running .tachPulse hr
  refine ⟨fun below => run.trans (congrArg Host.Outcome.next (if_neg (Nat.not_le.2 below))), fun atK => ?_⟩
  let s1 : State := { s with weigher := { w with pulseCount := w.pulseCount + 1 } }
  have line : LineOk s1 := ((weigherLaw_iff s).1 law).1
  have closed : countPulse s = travelSegmentClosed (noticedClose s1) :=
    (if_pos atK).trans (closeSegment_eq line)
  rw [closed] at run
  obtain ⟨weigher, ledger, credited, bills, store, dust, converter, ports, pins, answer⟩ := noticedClose_books (s := s1)
  refine ⟨_, run, ?_, fun b => ?_, fun h => ?_, fun free => ?_, bills, store, dust, converter, ports, pins, answer,
    fun motion => ?_, fun idle => ?_⟩
  · rw [weigher, movedLine_weigher line]
    rfl
  · have estimated := weighingOf_estimated_iff s1
    rw [ledger, movedLine_ledger line]
    simp only [Ledger.discharged, Ledger.billed, estimated]
    rfl
  · rw [credited, movedLine_credited line]
    rfl
  · exact closeSegment_moment line free
  · rw [weigher]
    exact (closeSegment_motion (s := s1) motion).1
  · intro total swaps other swapped u
    have moved_ := movedLine_of_idle line idle
    have empties : (movedLine s1).weigher.lineTotal = total := by rw [movedLine_weigher line]; rfl
    have moment : (movedLine s1).accounts.moment = moved := movedLine_moment line
      ⟨by rw [weighSegment_idle s1 idle], weighSegment_idle_moment s1 idle⟩
    have notice : noticedClose s1 = movedLine s1 :=
      segmentClosedNotice_of_idle (by rw [moved_]; exact idle) _ _ _ _
    rw [notice] at credited ⊢
    obtain ⟨-, -, -, -, -, -, plan, governor, -⟩ := travelSegmentClosed_frame (movedLine s1)
    refine ⟨plan.trans (by rw [moved_]), governor.trans (by rw [moved_]), ?_⟩
    rw [credited, ← moment]
    have same : movedLine s1 = closedBooks s (movedLine s1).weigher (movedLine s1).accounts
      ((closeEvents s1).foldl (fun x e => x.raise e) s.events) := moved_
    have after := travelSegmentClosed_closedBooks s (movedLine s1).weigher (movedLine s1).accounts
      ((closeEvents s1).foldl (fun x e => x.raise e) s.events)
    rw [← same, empties] at after
    have events : u = swappedAt s total ((closeEvents s1).foldl (fun x e => x.raise e) s.events) := by
      simp only [u, swappedAt, List.foldl_append, closeEvents, foldl_raise_ite]
      rfl
    rw [events]
    exact after

end Sys2Proof.Machine
end

section
/-! The segment close at the governor (sections 1.4, 6.2 to 6.4): what the notice of a close makes of the ACTIVE step. -/

namespace Sys2Proof.Machine

open Sys2Proof

/-! ### The bookings of a close (R117, R119) -/

/-- The bookings of a close: the placed mass of the ACTIVE step, the tail count and clean. -/
def booked (m : State) (placed tail : Nat) (clean : Bool) : State := { m with
  governor := { m.governor with tail := tail, clean := clean }
  plan := { m.plan with
    steps := m.plan.steps.map (fun y => if y.state = .active then { y with placed := placed } else y) } }

/-- The placed mass after a close (R117). -/
abbrev placedAfter (x : Step) (dest : Destination) (leaving : Nat) : Nat :=
  if dest = .hold x.hold then massAdd x.placed leaving else x.placed

theorem toActiveHold_iff {m : State} {x : Step} (active : activeStep m.plan = some x) (dest : Destination) :
    toActiveHold dest m = decide (dest = .hold x.hold) := by
  simp only [toActiveHold, active]
  rfl

/-- A step written as it stands. -/
theorem map_active_same {x : Step} {steps : List Step} (alone : ∀ y ∈ steps, y.state = .active → y = x)
    (f : Step → Step) (same : f x = x) : steps.map (fun y => if y.state = .active then f y else y) = steps := by
  refine (List.map_congr_left fun y hy => ?_).trans (List.map_id steps)
  split
  next h => rw [alone y hy h, same]; rfl
  next => rfl

section
variable {m : State} {x : Step} (active : activeStep m.plan = some x)
  (alone : ∀ y ∈ m.plan.steps, y.state = .active → y = x)
include active

include alone in
theorem bookSegment_eq (entering : Nat) (w : Weighing) (leaving : Nat) (dest : Destination) :
    bookSegment entering w leaving dest m = booked m (placedAfter x dest leaving) (nextTail m.governor.tail entering)
      (m.governor.clean && staysClean entering w leaving (decide (dest = .hold x.hold))) := by
  rw [bookSegment, toActiveHold_iff active dest, booked, placedAfter]
  by_cases there : dest = .hold x.hold
  · rw [if_pos (by simpa using there), if_pos there]
    have steps : m.plan.steps.map (fun y => if y.isActive then { y with placed := massAdd y.placed leaving } else y) =
        m.plan.steps.map (fun y => if y.state = .active then { y with placed := massAdd x.placed leaving } else y) := by
      refine List.map_congr_left fun y hy => ?_
      by_cases h : y.state = .active
      · simp [Step.isActive_iff, alone y hy h]
      · simp [h, Step.isActive_iff]
    rw [Plan.updateActive, steps]
  · rw [if_neg (by simpa using there), if_neg there, map_active_same alone _ rfl]

variable (placed tail : Nat) (clean : Bool)

theorem activeStep_booked : activeStep (booked m placed tail clean).plan = some { x with placed := placed } := by
  have kept := activeStep_updateActive m.plan (fun y => { y with placed := placed }) x active (fun _ h => h)
  simp only [Plan.updateActive, Step.isActive_iff] at kept
  exact kept

theorem ceilingLeft_booked : ceilingLeft (booked m placed tail clean) = ceilingLeft m := by
  have maximum : activeMaximum (booked m placed tail clean) = activeMaximum m := by
    rw [activeMaximum_of_active (activeStep_booked active placed tail clean), activeMaximum_of_active active]
  rw [ceilingLeft, maximum]
  rfl

/-- What the committed mass is tested against (R117). -/
theorem reachedCutoff_booked : reachedCutoff (booked m placed tail clean) = true ↔
    m.governor.effective.getD 0 ≤ placed + m.weigher.lineTotal + m.governor.preact := by
  have reached := reachedCutoff_iff (activeStep_booked active placed tail clean)
  exact reached

theorem reachedDribble_booked : reachedDribble (booked m placed tail clean) = true ↔ m.governor.effective.getD 0 ≤
    placed + m.weigher.lineTotal + m.governor.preact + m.store.settings.dribbleBand * 100000 := by
  have reached := reachedDribble_iff (activeStep_booked active placed tail clean)
  exact reached

/-! ### The tests of a close (R117, R119) -/

/-- The committed mass has reached the effective target less the preact: the cutoff on target. -/
theorem feedTests_cutoff (feeding : m.governor.state.feeding = true)
    (reached : m.governor.effective.getD 0 ≤ placed + m.weigher.lineTotal + m.governor.preact) :
    feedTests (booked m placed tail clean) = { booked m placed tail clean with
      governor := { m.governor with
        state := .cutoff, feedPermit := false, level := 0, dutyStaged := 0, tail := 0, clean := clean
        pauseSet := PauseSet.empty, ceiling := ceilingLeft m }
      plan := { m.plan with
        revision := (m.plan.revision + 1) % 65536
        steps := m.plan.steps.map (fun y => if y.state = .active then
          { y with placed := placed, cutoffReason := some .target } else y) }
      events := m.events.raise (.planChanged ((m.plan.revision + 1) % 65536)) } := by
  rw [feedTests, if_pos ((reachedCutoff_booked active placed tail clean).2 reached),
    cutoff_of_feeding (s := booked m placed tail clean) .target feeding,
    recordedCutoff_eq (by decide), ceilingLeft_booked active,
    Governor.cutOff_of_feeding (g := (booked m placed tail clean).governor) feeding]
  simp only [booked, map_active_twice (fun y => { y with placed := placed }) (fun y => { y with cutoffReason := some .target })
    (fun _ h => h)]

/-- The committed mass is within the dribble band of the cutoff. -/
theorem feedTests_dribble (state : m.governor.state = .ramping ∨ m.governor.state = .running)
    (below : ¬ m.governor.effective.getD 0 ≤ placed + m.weigher.lineTotal + m.governor.preact)
    (near : m.governor.effective.getD 0 ≤
      placed + m.weigher.lineTotal + m.governor.preact + m.store.settings.dribbleBand * 100000) :
    feedTests (booked m placed tail clean) = { booked m placed tail clean with
      governor := Governor.under { m.governor with state := .dribble, tail := tail, clean := clean }
        (min (feedCeiling m x.maxLevel) m.store.settings.dribbleLevel) } := by
  have other : (booked m placed tail clean).governor.state ≠ .dribble := by
    obtain h | h := state <;> exact fun e => by rw [show m.governor.state = .dribble from e] at h; cases h
  have dribbling : activeStep { booked m placed tail clean with
      governor := { (booked m placed tail clean).governor with state := .dribble } }.plan = some { x with placed := placed } :=
    activeStep_booked active placed tail clean
  rw [feedTests, if_neg (mt (reachedCutoff_booked active placed tail clean).1 below),
    if_pos ⟨other, (reachedDribble_booked active placed tail clean).2 near⟩, enterDribble, recomputeCeiling_under,
    ceilingNow_of_dribble _ rfl, activeMaximum_of_active dribbling]
  rfl

/-- Neither is reached, or the pour dribbles already. -/
theorem feedTests_none
    (below : ¬ m.governor.effective.getD 0 ≤ placed + m.weigher.lineTotal + m.governor.preact)
    (no : m.governor.state = .dribble ∨ ¬ m.governor.effective.getD 0 ≤
      placed + m.weigher.lineTotal + m.governor.preact + m.store.settings.dribbleBand * 100000) :
    feedTests (booked m placed tail clean) = booked m placed tail clean := by
  rw [feedTests, if_neg (mt (reachedCutoff_booked active placed tail clean).1 below), if_neg]
  exact fun both => no.elim both.1 (· ((reachedDribble_booked active placed tail clean).1 both.2))

end

/-! ### The completion (R106, R120) -/

/-- The record of a step that ends for a reason. -/
def Step.endFor (y : Step) (placed : Nat) (reason : Option CutoffReason) (effective : Option Nat) : Step :=
  { y with
    placed := placed, cutoffReason := none
    state := (completionState reason).1
    holdReason := (completionState reason).2
    effective := if (completionState reason).1 = .held then effective else none }

theorem completionState_not_active (reason : Option CutoffReason) : (completionState reason).1 ≠ .active := by
  cases reason with
  | none => decide
  | some r => cases r <;> decide

section
variable {b : State} {y : Step} (active : activeStep b.plan = some y)
include active

theorem complete_governor_plan : (complete b).governor = { b.governor with
      state := .idle, effective := none, preact := (adaptPreact b).governor.preact } ∧
    (complete b).plan = { b.plan with
      revision := (b.plan.revision + 1) % 65536
      steps := b.plan.steps.map (fun x => if x.state = .active then x.complete else x) } := by
  rw [complete_eq active]
  simp [completionEvent_frame]

/-- The completion as the swap test sees it: no step is ACTIVE any more, and the carriage and the line stand. -/
theorem complete_swapTest : ∃ X : State, complete b = swapTest X ∧ stepActive X = false ∧ X.travel = b.travel ∧
    X.weigher = b.weigher ∧ X.store = b.store := by
  refine ⟨_, complete_eq active, ?_, by simp, by simp, by simp⟩
  rw [stepActive, activeStep, Option.isSome_eq_false_iff, Option.isNone_iff_eq_none, List.find?_eq_none]
  intro z hz
  simp only [completionEvent_frame] at hz
  obtain ⟨x, -, rfl⟩ := List.mem_map.1 hz
  rw [Step.isActive_iff]
  split
  · exact completionState_not_active _
  · assumption

end

/-- A completed step lets a pending swap be taken, with the carriage at rest and the line empty (R63, R96). -/
theorem travelSegmentClosed_completed {X : State} (free : stepActive X = false) (empty : X.weigher.lineTotal = 0)
    (rest : X.travel.state = .parked ∨ X.travel.state = .stopped) :
    let t := travelSegmentClosed (swapTest X)
    let other := otherPage X.travel.activePage
    let swapped := { X.travel with swapPending := false, activePage := other }
    if X.travel.swapPending = true then
      t.travel = { swapped with spoutOver := spoutOverNow swapped X.store.settings.pourMargin } ∧
      t.accounts.moment = momentOf (momentOn (X.travel.pages.get other) t.accounts.credited)
    else t.travel = X.travel := by
  have halted : X.travel.state.inMotion = false ∧ X.travel.state ≠ .pending := by
    obtain h | h := rest <;> rw [h] <;> decide
  have closed : travelSegmentClosed (swapTest X) = swapTest (swapTest X) :=
    travelSegmentClosed_at_rest (.inl (by rw [swapTest_travel_state]; exact halted.2))
      (by rw [swapTest_travel_state]; exact halted.1)
  intro t other swapped
  split
  next pending =>
    have taken : swapTest X = takeSwap X :=
      if_pos (by rw [pending, (swapReady_iff X).2 ⟨halted.1, free, empty⟩]; rfl)
    have settled : t = takeSwap X := by
      rw [show t = swapTest (swapTest X) from closed, taken]
      exact swapTest_of_not_pending rfl
    rw [settled, takeSwap_eq]
    exact ⟨rfl, rfl⟩
  next none =>
    have still := swapTest_of_not_pending (Bool.eq_false_iff.2 none)
    rw [show t = swapTest (swapTest X) from closed, still, still]

/-! ### The notice of a close, by the governor's state (R117, R119, R120) -/

section
variable {m : State} {x : Step} (active : activeStep m.plan = some x)
  (alone : ∀ y ∈ m.plan.steps, y.state = .active → y = x)
include active

include alone in
theorem complete_booked (placed tail : Nat) (clean : Bool) : (complete (booked m placed tail clean)).governor =
      { m.governor with
        state := .idle, effective := none, tail := tail, clean := clean
        preact := if x.cutoffReason = some .target ∧ clean = true then
            (min (max 0 ((m.governor.preact : Int) + ((placed : Int) - m.governor.effective.getD 0).tdiv 4))
              (m.store.settings.preactMax * 100000 : Nat)).toNat
          else m.governor.preact } ∧
    (complete (booked m placed tail clean)).plan = { m.plan with
      revision := (m.plan.revision + 1) % 65536
      steps := m.plan.steps.map (fun y => if y.state = .active then
        y.endFor placed x.cutoffReason x.effective else y) } := by
  have step := activeStep_booked active placed tail clean
  obtain ⟨governor, plan⟩ := complete_governor_plan step
  have preact : (adaptPreact (booked m placed tail clean)).governor.preact =
      if x.cutoffReason = some .target ∧ clean = true then
        (min (max 0 ((m.governor.preact : Int) + ((placed : Int) - m.governor.effective.getD 0).tdiv 4))
          (m.store.settings.preactMax * 100000 : Nat)).toNat
      else m.governor.preact := by
    by_cases target : x.cutoffReason = some .target
    · refine (adaptPreact_preact_of_target step target).trans ?_
      simp only [target, true_and]
      rfl
    · rw [if_neg fun both => target both.1]
      exact adaptPreact_preact_of_other step fun both => target both.1
  rw [governor, plan, preact]
  refine ⟨rfl, ?_⟩
  simp only [booked, map_active_twice (fun y => { y with placed := placed }) Step.complete (fun _ h => h)]
  congr 1
  refine List.map_congr_left fun y hy => ?_
  split
  next h => rw [alone y hy h]; rfl
  next => rfl

variable (entering : Nat) (w : Weighing) (leaving : Nat) (dest : Destination)

omit active in
theorem segmentClosedNotice_of_feeding (feeding : m.governor.state.feeding = true) :
    segmentClosedNotice entering w leaving dest m = feedTests (bookSegment entering w leaving dest m) := by
  cases h : m.governor.state <;> simp_all [segmentClosedNotice, GovernorState.feeding]

omit active in
theorem segmentClosedNotice_of_paused (paused : m.governor.state = .paused) :
    segmentClosedNotice entering w leaving dest m = bookSegment entering w leaving dest m := by
  simp only [segmentClosedNotice, paused]

omit active in
theorem segmentClosedNotice_of_cutoff (cut : m.governor.state = .cutoff) :
    segmentClosedNotice entering w leaving dest m = if runOutTest (bookSegment entering w leaving dest m) then
      complete (bookSegment entering w leaving dest m) else bookSegment entering w leaving dest m := by
  simp only [segmentClosedNotice, cut]

end

/-! ### The segment as the governor hears of it -/

theorem staysClean_eq (s : State) (entering leaving : Nat) (atHold : Bool) :
    staysClean entering (weighingOf s) leaving atHold =
      ((leaving == 0 || atHold) && (entering == 0 || !decide (Bridged s))) := by
  have how : (weighingOf s == .estimated) = decide (Bridged s) := by
    rw [Bool.eq_iff_iff, beq_iff_eq, decide_eq_true_iff]
    exact weighingOf_estimated_iff s
  rw [staysClean, how]
  cases h : leaving == 0 <;> cases h' : entering == 0 <;> simp [bne, h, h']

section
variable {s : State}

theorem movedLine_parts (s : State) : (movedLine s).governor = (weighSegment s).state.governor ∧
    (movedLine s).plan = (weighSegment s).state.plan ∧ (movedLine s).travel = (weighSegment s).state.travel ∧
    (movedLine s).store = s.store ∧ (movedLine s).dust = s.dust := by
  simp [movedLine]

/-- But for an entry into SCALE FAULT, weighing leaves the governor, the plan and the carriage (R9 to R11). -/
theorem weighSegment_of_no_fault (quiet : ¬ FaultsNow s) : (weighSegment s).state.governor = s.governor ∧
    (weighSegment s).state.plan = s.plan ∧ (weighSegment s).state.travel = s.travel := by
  obtain live | bridged | faults | ⟨dead, faulted⟩ := weighing_cases s
  · rw [weighSegment_of_live live]
    exact ⟨rfl, rfl, rfl⟩
  · rw [weighSegment_of_bridged bridged]
    exact ⟨rfl, rfl, rfl⟩
  · exact absurd faults quiet
  · rw [weighSegment_of_unweighed dead faulted]
    simp

theorem closingMass_of_fault {s : State} (faults : FaultsNow s) : closingMass s = 0 := by
  rw [closingMass, if_neg faults.2.1, if_neg faults.2.2]
  omega

/-- The scale-fault notice's state (R10). -/
def faulted (s : State) : State := raise .scaleFault { s with weigher := { s.weigher with scale := .scaleFault } }

theorem weighSegment_governor_of_fault (faults : FaultsNow s) :
    (weighSegment s).state.governor = (scaleFaultNotice (faulted s)).governor ∧
    (weighSegment s).state.plan = (scaleFaultNotice (faulted s)).plan ∧
    (weighSegment s).state.travel = (scaleFaultNotice (faulted s)).travel := by
  rw [weighSegment_of_fault faults]
  simp [enterScaleFault, faulted]

end

/-! ### The scale-fault notice (R129) -/

section
variable {r : State} {x : Step} (active : activeStep r.plan = some x)
include active

/-- From a feeding state or from PAUSED, with the run-out test not holding yet, the step is cut off for SCALE. -/
theorem scaleFaultNotice_cuts (state : r.governor.state.feeding = true ∨ r.governor.state = .paused)
    (goesOn : ¬ (r.governor.state = .paused ∧ RunOut r)) :
    (scaleFaultNotice r).governor =
      Governor.cutOff { r.governor with effective := some (effectiveTarget r x) } (ceilingLeft r) ∧
    (scaleFaultNotice r).plan = { r.plan with
      revision := (r.plan.revision + 1) % 65536
      steps := r.plan.steps.map (fun y => if y.state = .active then
        { y with effective := some (effectiveTarget r x), cutoffReason := some .scale } else y) } ∧
    (scaleFaultNotice r).travel = r.travel ∧
    activeStep (scaleFaultNotice r).plan =
      some { x with effective := some (effectiveTarget r x), cutoffReason := some .scale } := by
  have cuts : scaleFaultNotice r = recordedCutoff .scale (retargeted r x) := by
    rw [← cutoff_of_running_on .scale (s := retargeted r x) goesOn, ← recomputeEffective_eq active]
    cases h : r.governor.state <;> simp_all [scaleFaultNotice, GovernorState.feeding]
  have maximum : activeMaximum (retargeted r x) = activeMaximum r := by
    rw [activeMaximum_of_active (activeStep_retargeted active), activeMaximum_of_active active]
  have ceiling : ceilingLeft (retargeted r x) = ceilingLeft r := by
    rw [ceilingLeft, maximum]
    rfl
  have step := activeStep_recorded (r := .scale) (activeStep_retargeted active) (by decide)
  rw [cuts]
  refine ⟨?_, ?_, ?_, step⟩ <;> rw [recordedCutoff_eq (by decide)]
  · rw [ceiling]
    rfl
  · simp only [retargeted, map_active_twice (fun y => { y with effective := some (effectiveTarget r x) })
      (fun y => { y with cutoffReason := some .scale }) (fun _ h => h)]
  · rfl

/-- From PAUSED with the run-out test holding, the step completes at the notice, and is HELD for SCALE. -/
theorem scaleFaultNotice_completes (paused : r.governor.state = .paused) (done : RunOut r) :
    (scaleFaultNotice r).governor = { r.governor with
      state := .idle, feedPermit := false, level := 0, dutyStaged := 0, effective := none, pauseSet := PauseSet.empty } ∧
    (scaleFaultNotice r).plan = { r.plan with
      revision := ((r.plan.revision + 1) % 65536 + 1) % 65536
      steps := r.plan.steps.map (fun y => if y.state = .active then
        { y with
          state := .held, holdReason := some .scale, cutoffReason := none
          effective := some (effectiveTarget r x) } else y) } := by
  have cuts : scaleFaultNotice r = cutoff .scale (retargeted r x) := by
    rw [← recomputeEffective_eq active]
    simp only [scaleFaultNotice, paused]
  rw [cuts, cutoff_held (s := retargeted r x) rfl paused done (activeStep_retargeted active)]
  simp only [swapTest_frame, retargeted, map_active_twice (fun y => { y with effective := some (effectiveTarget r x) })
      (fun y => { y with state := .held, holdReason := some .scale, cutoffReason := none }) (fun _ h => h)]
  exact ⟨trivial, trivial⟩

/-- In CUTOFF, the effective target is computed anew, and clean is lost. -/
theorem scaleFaultNotice_of_cutoff (cut : r.governor.state = .cutoff) : scaleFaultNotice r =
    { retargeted r x with governor := { r.governor with effective := some (effectiveTarget r x), clean := false } } := by
  unfold scaleFaultNotice
  rw [cut]
  dsimp only
  rw [recomputeEffective_eq active]
  rfl

end

/-- A change that keeps the one ACTIVE step ACTIVE leaves it alone in its state. -/
theorem alone_map {x : Step} {steps : List Step} (alone : ∀ y ∈ steps, y.state = .active → y = x) (f : Step → Step) :
    ∀ y ∈ steps.map (fun y => if y.state = .active then f y else y), y.state = .active → y = f x := by
  intro z hz active
  obtain ⟨y, hy, rfl⟩ := List.mem_map.1 hz
  split
  next h => rw [alone y hy h]
  next h => rw [if_neg h] at active; exact absurd active h

/-! ### The close as the governor has it -/

section
variable {s m : State} {x : Step} (parts : m = movedLine s) (line : LineOk s) (active : activeStep m.plan = some x)
  (alone : ∀ y ∈ m.plan.steps, y.state = .active → y = x) (dest : destination (weighSegment s).state = destination s)
include active alone dest

/-- The bookings of the close of `s`, for the ACTIVE step `x` that the governor has when it hears of it. -/
abbrev closeBooked (s m : State) (x : Step) : State :=
  booked m (placedAfter x (destination s) (leavingEntry s).mass) (nextTail m.governor.tail (closingMass s))
    (m.governor.clean && ((leavingEntry s).mass == 0 || decide (destination s = .hold x.hold)) &&
      (closingMass s == 0 || !decide (Bridged s)))

theorem bookSegment_close : bookSegment (closingMass s) (weighingOf s) (leavingEntry s).mass
    (destination (weighSegment s).state) m = closeBooked s m x := by
  rw [bookSegment_eq active alone, dest, staysClean_eq, ← Bool.and_assoc]

include parts

theorem noticedClose_of_feeding (feeding : m.governor.state.feeding = true) :
    noticedClose s = feedTests (closeBooked s m x) := by
  rw [noticedClose, ← parts, segmentClosedNotice_of_feeding _ _ _ _ feeding, bookSegment_close active alone dest]

theorem noticedClose_of_paused (paused : m.governor.state = .paused) : noticedClose s = closeBooked s m x := by
  rw [noticedClose, ← parts, segmentClosedNotice_of_paused _ _ _ _ paused, bookSegment_close active alone dest]

theorem noticedClose_runs_on (cut : m.governor.state = .cutoff) (on : ¬ RunOut (closeBooked s m x)) :
    noticedClose s = closeBooked s m x := by
  rw [noticedClose, ← parts, segmentClosedNotice_of_cutoff _ _ _ _ cut, bookSegment_close active alone dest,
    if_neg (mt (runOutTest_iff _).1 on)]

theorem noticedClose_completes (cut : m.governor.state = .cutoff) (done : RunOut (closeBooked s m x)) :
    noticedClose s = complete (closeBooked s m x) := by
  rw [noticedClose, ← parts, segmentClosedNotice_of_cutoff _ _ _ _ cut, bookSegment_close active alone dest,
    if_pos ((runOutTest_iff _).2 done)]

/-- The swap that a completion at the close lets be taken (R63, R96). -/
theorem noticedClose_swaps (cut : m.governor.state = .cutoff) (done : RunOut (closeBooked s m x))
    (rest : m.travel.state = .parked ∨ m.travel.state = .stopped) :
    let t := travelSegmentClosed (noticedClose s)
    let other := otherPage m.travel.activePage
    let swapped := { m.travel with swapPending := false, activePage := other }
    if m.travel.swapPending = true then
      t.travel = { swapped with spoutOver := spoutOverNow swapped m.store.settings.pourMargin } ∧
      t.accounts.moment = momentOf (momentOn (m.travel.pages.get other) t.accounts.credited)
    else t.travel = m.travel := by
  obtain ⟨X, completed, free, travel, weigher, store⟩ := complete_swapTest (activeStep_booked active
    (placedAfter x (destination s) (leavingEntry s).mass) (nextTail m.governor.tail (closingMass s))
    (m.governor.clean && ((leavingEntry s).mass == 0 || decide (destination s = .hold x.hold)) &&
      (closingMass s == 0 || !decide (Bridged s))))
  have after := travelSegmentClosed_completed free (by rw [weigher]; exact done.1) (by rw [travel]; exact rest)
  rw [travel, store] at after
  rw [noticedClose_completes parts active alone dest cut done, completed]
  exact after

end

/-- The close of a segment of mass 0 with the governor in CUTOFF. -/
theorem noticedClose_in_cutoff {s m : State} {x : Step} (parts : m = movedLine s) (active : activeStep m.plan = some x)
    (alone : ∀ y ∈ m.plan.steps, y.state = .active → y = x) (dest : destination (weighSegment s).state = destination s)
    (cut : m.governor.state = .cutoff) (nothing : closingMass s = 0) :
    let placed := placedAfter x (destination s) (leavingEntry s).mass
    let tail := min (m.governor.tail + 1) 255
    let clean := m.governor.clean && ((leavingEntry s).mass == 0 || decide (destination s = .hold x.hold)) &&
      (closingMass s == 0 || !decide (Bridged s))
    let n := noticedClose s
    let runsOut := m.weigher.lineTotal = 0 ∧ m.store.settings.tailSegments ≤ tail
    (¬ runsOut →
      n.governor = { m.governor with tail := tail, clean := clean } ∧
      n.plan = { m.plan with
        steps := m.plan.steps.map (fun y => if y.state = .active then { y with placed := placed } else y) }) ∧
    (runsOut → RunOut (closeBooked s m x) ∧
      n.governor = { m.governor with
        state := .idle, effective := none, tail := tail, clean := clean
        preact := if x.cutoffReason = some .target ∧ clean = true then
            (min (max 0 ((m.governor.preact : Int) + ((placed : Int) - m.governor.effective.getD 0).tdiv 4))
              (m.store.settings.preactMax * 100000 : Nat)).toNat
          else m.governor.preact } ∧
      n.plan = { m.plan with
        revision := (m.plan.revision + 1) % 65536
        steps := m.plan.steps.map (fun y => if y.state = .active then
          y.endFor placed x.cutoffReason x.effective else y) }) := by
  intro placed tail clean n runsOut
  have next : nextTail m.governor.tail (closingMass s) = tail := if_pos nothing
  have ran : RunOut (closeBooked s m x) ↔ runsOut := by
    rw [closeBooked, next]
    exact Iff.rfl
  refine ⟨fun on => ?_, fun done => ⟨ran.2 done, ?_⟩⟩
  · rw [show n = _ from noticedClose_runs_on parts active alone dest cut (mt ran.1 on), closeBooked, next]
    exact ⟨rfl, rfl⟩
  · rw [show n = _ from noticedClose_completes parts active alone dest cut (ran.2 done), closeBooked, next]
    exact complete_booked active alone placed tail clean

theorem ceilingLeft_congr {s m : State} (governor : m.governor = s.governor) (plan : m.plan = s.plan) (dust : m.dust = s.dust)
    (store : m.store = s.store) : ceilingLeft m = ceilingLeft s := by
  unfold ceilingLeft feedCeiling activeMaximum
  rw [governor, plan, dust, store]

/-- The steps after a completion, as the claims write them (R106). -/
theorem endFor_eq (y : Step) (placed : Nat) (reason : Option CutoffReason) (eff : Option Nat) : y.endFor placed reason eff =
    { y with
      placed := placed, cutoffReason := none
      state := match reason with
        | some .target => .done
        | some .deck => .cancelled
        | _ => .held
      holdReason := match reason with
        | some .operator => some .operator
        | some .position => some .position
        | some .trim => some .trim
        | some .scale => some .scale
        | _ => none
      effective := if reason = some .target ∨ reason = some .deck then none else eff } := by
  cases reason with
  | none => rfl
  | some r => cases r <;> rfl

/-- Settles O46. -/
theorem segmentCloseDrivesTheGovernor : Obligations.SegmentCloseDrivesTheGovernor := by
  intro s st hr law planLaw atK active w live bridged faults load mass leaving total atHold placed tail clean sum target band
    runsOut ended other swapped swaps
  have run : exec .tachPulse s = .next (countPulse s) := exec_arrival_of_running .tachPulse hr
  let s1 : State := { s with weigher := { w with pulseCount := w.pulseCount + 1 } }
  have line : LineOk s1 := ((weigherLaw_iff s).1 law).1
  have closed : countPulse s = travelSegmentClosed (noticedClose s1) := (if_pos atK).trans (closeSegment_eq line)
  rw [closed] at run
  have alone : ∀ y ∈ s.plan.steps, y.state = .active → y = st := fun y hy h =>
    Option.some.inj ((activeStep_of_lawful planLaw hy h).symm.trans active)
  obtain ⟨-, -, -, -, -, -, tPlan, tGovernor, -⟩ := travelSegmentClosed_frame (noticedClose s1)
  obtain ⟨governor, plan, travel, store, dust⟩ := movedLine_parts s1
  have empties : (movedLine s1).weigher.lineTotal = total := by rw [movedLine_weigher line]; rfl
  refine ⟨_, run, fun quiet => ?_, fun faulty => ?_⟩
  · obtain ⟨weighedGovernor, weighedPlan, weighedTravel⟩ := weighSegment_of_no_fault (s := s1) quiet
    have dest : destination (weighSegment s1).state = destination s1 := by
      unfold destination
      rw [weighedTravel]
    obtain ⟨m, parts⟩ : ∃ m, m = movedLine s1 := ⟨_, rfl⟩
    rw [← parts] at governor plan travel store dust empties
    replace governor : m.governor = s.governor := governor.trans weighedGovernor
    replace plan : m.plan = s.plan := plan.trans weighedPlan
    replace travel : m.travel = s.travel := travel.trans weighedTravel
    have mActive : activeStep m.plan = some st := plan ▸ active
    have mAlone : ∀ y ∈ m.plan.steps, y.state = .active → y = st := plan ▸ alone
    have left : ceilingLeft m = ceilingLeft s := ceilingLeft_congr governor plan dust store
    have committed : placedAfter st (destination s1) (leavingEntry s1).mass + m.weigher.lineTotal + m.governor.preact =
        sum := by
      rw [empties, governor]
      rfl
    have books : (closeBooked s1 m st).governor = { s.governor with tail := tail, clean := clean } ∧
        (closeBooked s1 m st).plan = { s.plan with
          steps := s.plan.steps.map (fun x => if x.state = .active then { x with placed := placed } else x) } := by
      rw [closeBooked, booked, governor, plan]
      exact ⟨rfl, rfl⟩
    have ran : RunOut (closeBooked s1 m st) ↔ runsOut tail := by
      rw [RunOut, books.1]
      show m.weigher.lineTotal = 0 ∧ m.store.settings.tailSegments ≤ tail ↔ _
      rw [empties, store]
    have dribbles : m.store.settings.dribbleBand * 100000 = band := by rw [store]
    have aims : m.governor.effective.getD 0 = target := by rw [governor]
    have onlyBooked (h : noticedClose s1 = closeBooked s1 m st) :
        (noticedClose s1).governor = { s.governor with tail := tail, clean := clean } ∧
        (noticedClose s1).plan = { s.plan with
          steps := s.plan.steps.map (fun x => if x.state = .active then { x with placed := placed } else x) } := by
      rw [h]
      exact books
    have notReached (below : sum < target) : ¬ m.governor.effective.getD 0 ≤
        placedAfter st (destination s1) (leavingEntry s1).mass + m.weigher.lineTotal + m.governor.preact := by
      rw [committed, aims]
      exact Nat.not_le.2 below
    have fed (feeding : s.governor.state.feeding = true) : noticedClose s1 = feedTests (closeBooked s1 m st) :=
      noticedClose_of_feeding parts mActive mAlone dest (governor ▸ feeding)
    have pausedOn (paused : s.governor.state = .paused) : noticedClose s1 = closeBooked s1 m st :=
      noticedClose_of_paused parts mActive mAlone dest (governor ▸ paused)
    have cutOn (cut : s.governor.state = .cutoff) (on : ¬ runsOut tail) : noticedClose s1 = closeBooked s1 m st :=
      noticedClose_runs_on parts mActive mAlone dest (governor ▸ cut) (mt ran.1 on)
    have feedsOn (feeding : s.governor.state.feeding = true) (below : sum < target)
        (no : s.governor.state = .dribble ∨ sum + band < target) : noticedClose s1 = closeBooked s1 m st := by
      rw [fed feeding, closeBooked, feedTests_none mActive _ _ _ (notReached below)]
      rw [committed, aims, dribbles, governor]
      exact no.imp_right Nat.not_le.2
    have dribblesAt (state : s.governor.state = .ramping ∨ s.governor.state = .running) (below : sum < target)
        (near : target ≤ sum + band) : noticedClose s1 = { closeBooked s1 m st with
          governor := Governor.under { m.governor with state := .dribble, tail := tail, clean := clean }
            (min (feedCeiling m st.maxLevel) m.store.settings.dribbleLevel) } := by
      rw [fed (by obtain h | h := state <;> rw [h] <;> rfl),
        feedTests_dribble mActive _ _ _ (governor ▸ state) (notReached below) (by rw [committed, aims, dribbles]; exact near),
        governor]
      rfl
    rw [tGovernor, tPlan]
    refine ⟨fun feeding reached => ?_, fun state below near => ?_, fun feeding below no => ?_, fun paused => ?_,
      fun cut on => ?_, fun stays => ?_, fun cut done => ?_⟩
    · rw [fed feeding, feedTests_cutoff mActive _ _ _ (governor ▸ feeding) (by rw [committed, aims]; exact reached), left,
        governor, plan]
      exact ⟨rfl, rfl⟩
    · have revision : (closeBooked s1 m st).plan.revision = s.plan.revision := by rw [books.2]
      have ceiling : feedCeiling m st.maxLevel = feedCeiling s st.maxLevel :=
        feedCeiling_congr s m _ (by rw [governor]) dust store
      rw [dribblesAt state below near, governor, ceiling, store]
      exact ⟨(under_dribble { s.governor with state := .dribble, tail := tail, clean := clean } _).2 rfl,
        rfl, rfl, rfl, rfl, rfl, revision⟩
    · exact (onlyBooked (feedsOn feeding below no)).1
    · exact (onlyBooked (pausedOn paused)).1
    · exact (onlyBooked (cutOn cut on)).1
    · obtain ⟨feeding, below⟩ | paused | ⟨cut, on⟩ := stays
      · by_cases no : s.governor.state = .dribble ∨ sum + band < target
        · exact (onlyBooked (feedsOn feeding below no)).2
        · rw [not_or, Nat.not_lt] at no
          have state : s.governor.state = .ramping ∨ s.governor.state = .running := by
            revert feeding no
            cases s.governor.state <;> simp [GovernorState.feeding]
          rw [dribblesAt state below no.2]
          exact books.2
      · exact (onlyBooked (pausedOn paused)).2
      · exact (onlyBooked (cutOn cut on)).2
    · have completes := noticedClose_completes parts mActive mAlone dest (governor ▸ cut) (ran.2 done)
      obtain ⟨endedGovernor, endedPlan⟩ := complete_booked mActive mAlone
        (placedAfter st (destination s1) (leavingEntry s1).mass) (nextTail m.governor.tail (closingMass s1))
        (m.governor.clean && ((leavingEntry s1).mass == 0 || decide (destination s1 = .hold st.hold)) &&
          (closingMass s1 == 0 || !decide (Bridged s1)))
      refine ⟨?_, ?_, fun rest => ?_⟩
      · rw [completes, endedGovernor, governor, store]
        rfl
      · rw [completes, endedPlan, plan]
        simp only [endFor_eq]
        rfl
      · have taken := noticedClose_swaps parts mActive mAlone dest (governor ▸ cut) (ran.2 done) (travel ▸ rest)
        rw [travel, store] at taken
        exact taken
  · have nothing : closingMass s1 = 0 := closingMass_of_fault faulty
    obtain ⟨weighedGovernor, weighedPlan, weighedTravel⟩ := weighSegment_governor_of_fault (s := s1) faulty
    have heardActive : activeStep (faulted s1).plan = some st := active
    intro eff g done faultTail revision
    obtain ⟨m, parts⟩ : ∃ m, m = movedLine s1 := ⟨_, rfl⟩
    rw [← parts] at governor plan travel store dust empties
    rw [tGovernor, tPlan]
    have heard (travelStays : (scaleFaultNotice (faulted s1)).travel = s.travel) :
        destination (weighSegment s1).state = destination s1 ∧ m.travel = s.travel := by
      unfold destination
      rw [weighedTravel, travelStays]
      exact ⟨rfl, travel.trans (weighedTravel.trans travelStays)⟩
    have ran (n : Nat) : (m.weigher.lineTotal = 0 ∧ m.store.settings.tailSegments ≤ n) ↔ runsOut n := by
      rw [empties, store]
    have cuts (state : s.governor.state.feeding = true ∨ s.governor.state = .paused) (goesOn : ¬ done) :
        (¬ runsOut faultTail →
          (noticedClose s1).governor = { g with state := .cutoff, effective := some eff, tail := faultTail, clean := clean } ∧
          (noticedClose s1).plan = { s.plan with
            revision := revision
            steps := s.plan.steps.map (fun x => if x.state = .active then
              { x with placed := placed, effective := some eff, cutoffReason := some .scale } else x) }) ∧
        (runsOut faultTail →
          (noticedClose s1).governor = { g with state := .idle, effective := none, tail := faultTail, clean := clean } ∧
          (noticedClose s1).plan = { s.plan with
            revision := (revision + 1) % 65536, steps := ended (some .scale) (some eff) } ∧
          swaps (travelSegmentClosed (noticedClose s1))) := by
      obtain ⟨cutGovernor, cutPlan, cutTravel, cutActive⟩ :=
        scaleFaultNotice_cuts heardActive state (fun both => goesOn both)
      obtain ⟨dest, stays⟩ := heard cutTravel
      have mGovernor : m.governor = { g with
          state := .cutoff, effective := some eff
          tail := if s.governor.state.feeding = true then 0 else s.governor.tail } :=
        governor.trans (weighedGovernor.trans cutGovernor)
      have mPlan : m.plan = { s.plan with
          revision := revision
          steps := s.plan.steps.map (fun y => if y.state = .active then
            { y with effective := some eff, cutoffReason := some .scale } else y) } :=
        plan.trans (weighedPlan.trans cutPlan)
      have mAlone := alone_map alone (fun y => { y with effective := some eff, cutoffReason := some .scale })
      obtain ⟨runsOn, completes⟩ := noticedClose_in_cutoff parts ((plan.trans weighedPlan).symm ▸ cutActive)
        (mPlan.symm ▸ mAlone) dest (by rw [mGovernor]) nothing
      rw [mGovernor, ran] at runsOn completes
      refine ⟨fun on => ?_, fun out => ?_⟩
      · obtain ⟨ranGovernor, ranPlan⟩ := runsOn on
        rw [ranGovernor, ranPlan, mPlan]
        refine ⟨rfl, ?_⟩
        simp only [map_active_twice (fun y => { y with effective := some eff, cutoffReason := some .scale })
          (fun y => { y with placed := placedAfter st (destination s1) (leavingEntry s1).mass }) (fun _ h => h)]
        rfl
      · obtain ⟨ranOut, endedGovernor, endedPlan⟩ := completes out
        refine ⟨endedGovernor, ?_, fun rest => ?_⟩
        · rw [endedPlan, mPlan]
          refine (congrArg (fun steps => { s.plan with revision := (revision + 1) % 65536, steps := steps })
            (map_active_twice (fun y => { y with effective := some eff, cutoffReason := some .scale })
              (fun y => y.endFor placed (some .scale) (some eff)) (fun _ h => h) s.plan.steps)).trans ?_
          simp only [endFor_eq]
          rfl
        · have taken := noticedClose_swaps parts ((plan.trans weighedPlan).symm ▸ cutActive)
            (mPlan.symm ▸ mAlone) dest (by rw [mGovernor]) ranOut (stays ▸ rest)
          rw [stays, store] at taken
          exact taken
    have inCutoff (cut : s.governor.state = .cutoff) :
        (¬ runsOut faultTail →
          (noticedClose s1).governor = { s.governor with effective := some eff, tail := faultTail, clean := false } ∧
          (noticedClose s1).plan = { s.plan with
            steps := s.plan.steps.map (fun x => if x.state = .active then
              { x with placed := placed, effective := some eff } else x) }) ∧
        (runsOut faultTail →
          (noticedClose s1).governor =
            { s.governor with state := .idle, effective := none, tail := faultTail, clean := false } ∧
          (noticedClose s1).plan = { s.plan with revision := revision, steps := ended st.cutoffReason (some eff) } ∧
          swaps (travelSegmentClosed (noticedClose s1))) := by
      have notice := scaleFaultNotice_of_cutoff heardActive cut
      obtain ⟨dest, stays⟩ := heard (by rw [notice]; rfl)
      have mGovernor : m.governor = { s.governor with effective := some eff, clean := false } :=
        governor.trans (weighedGovernor.trans (by rw [notice]; rfl))
      have mPlan : m.plan = { s.plan with
          steps := s.plan.steps.map (fun y => if y.state = .active then { y with effective := some eff } else y) } :=
        plan.trans (weighedPlan.trans (by rw [notice]; rfl))
      have mActive : activeStep m.plan = some { st with effective := some eff } :=
        mPlan.symm ▸ activeStep_retargeted heardActive
      have mAlone := alone_map alone (fun y => { y with effective := some eff })
      have sameTail : min (s.governor.tail + 1) 255 = faultTail := by simp [faultTail, cut, GovernorState.feeding]
      have mCut : m.governor.state = .cutoff := by rw [mGovernor]; exact cut
      obtain ⟨runsOn, completes⟩ := noticedClose_in_cutoff parts mActive (mPlan.symm ▸ mAlone) dest mCut nothing
      rw [mGovernor, ran, sameTail] at runsOn completes
      refine ⟨fun on => ?_, fun out => ?_⟩
      · obtain ⟨ranGovernor, ranPlan⟩ := runsOn on
        rw [ranGovernor, ranPlan, mPlan]
        refine ⟨rfl, ?_⟩
        exact congrArg (fun steps => { s.plan with steps := steps })
          (map_active_twice (fun y => { y with effective := some eff }) (fun y => { y with placed := placed })
            (fun _ h => h) s.plan.steps)
      · obtain ⟨ranOut, endedGovernor, endedPlan⟩ := completes out
        refine ⟨?_, ?_, fun rest => ?_⟩
        · rw [endedGovernor, if_neg (fun both => nomatch both.2)]
          rfl
        · rw [endedPlan, mPlan]
          refine (congrArg (fun steps => { s.plan with revision := revision, steps := steps })
            (map_active_twice (fun y => { y with effective := some eff })
              (fun y => y.endFor placed st.cutoffReason (some eff)) (fun _ h => h) s.plan.steps)).trans ?_
          simp only [endFor_eq]
          rfl
        · have taken := noticedClose_swaps parts mActive (mPlan.symm ▸ mAlone) dest mCut ranOut (stays ▸ rest)
          rw [stays, store] at taken
          exact taken
    refine ⟨fun state goesOn on => (cuts state goesOn).1 on, fun state goesOn out => (cuts state goesOn).2 out,
      fun completes => ?_, fun cut => ?_, fun cut => ?_⟩
    · obtain ⟨endedGovernor, endedPlan⟩ := scaleFaultNotice_completes heardActive completes.1 completes.2
      have mGovernor := governor.trans (weighedGovernor.trans endedGovernor)
      have unheard : noticedClose s1 = m := by
        rw [noticedClose, ← parts]
        exact segmentClosedNotice_of_idle (by rw [mGovernor]) _ _ _ _
      have left : ceilingLeft s = s.governor.ceiling := by simp [ceilingLeft, completes.1]
      rw [unheard, mGovernor, plan, weighedPlan, endedPlan]
      exact ⟨congrArg (fun c => { g with state := .idle, effective := none, ceiling := c }) left.symm, rfl⟩
    · exact (inCutoff cut).1
    · exact (inCutoff cut).2

end Sys2Proof.Machine
end

section
/-! The station ports (chapter 08): the framer, the take of a request in its order of judgement, and the reply. -/

namespace Sys2Proof.Machine

open Sys2Proof

/-! ### The ports -/

theorem Ports.set_get (x : Ports) (st : Station) : x.set (x.get st) st = x := by
  cases st <;> rfl

theorem setPort_get (st : Station) (s : State) : setPort st (s.ports.get st) s = s := by
  rw [setPort, Ports.set_get]

/-! ### The header (R158) -/

/-- The check byte as a number. -/
theorem headerCheck_toNat (bs : List Byte) : (headerCheck bs).toNat = (255 - (bs.map BitVec.toNat).sum % 256) % 256 := by
  rw [headerCheck, BitVec.toNat_ofNat]

section
variable (b0 b1 b2 b3 b4 : Byte)

theorem headerLength_header : headerLength [b0, b1, b2, b3, b4] = b2.toNat + 256 * b3.toNat := by
  simp [headerLength, fromLE]

theorem headerGood_header : headerGood [b0, b1, b2, b3, b4] = true ↔
    b4.toNat = (255 - (b0.toNat + b1.toNat + b2.toNat + b3.toNat) % 256) % 256 ∧ b2.toNat + 256 * b3.toNat ≤ 512 := by
  have check : headerCheck [b0, b1, b2, b3] = b4 ↔
      b4.toNat = (255 - (b0.toNat + b1.toNat + b2.toNat + b3.toNat) % 256) % 256 := by
    rw [← BitVec.toNat_inj, headerCheck_toNat, eq_comm]
    simp [Nat.add_assoc]
  rw [headerGood, Bool.and_eq_true, headerLength_header, decide_eq_true_iff, beq_iff_eq]
  exact and_congr_left fun _ => check

end

/-! ### The framer (R157, R158) -/

section
variable {s : State} {st : Station}

theorem takeCharacter_of_waitGap (waits : (s.ports.get st).framer = .waitGap) (b : Byte) : takeCharacter st s b = s := by
  simp only [takeCharacter, waits]

theorem takeCharacter_of_ready (ready : (s.ports.get st).framer = .ready) (b : Byte) :
    takeCharacter st s b = setPort st { s.ports.get st with framer := .header, frame := [b] } s := by
  simp only [takeCharacter, ready]

theorem takeCharacter_of_header (header : (s.ports.get st).framer = .header) (b : Byte) :
    takeCharacter st s b = if ((s.ports.get st).frame ++ [b]).length = 5 then judgeHeader st ((s.ports.get st).frame ++ [b]) s
      else setPort st { s.ports.get st with frame := (s.ports.get st).frame ++ [b] } s := by
  simp only [takeCharacter, header]

end

/-- An idle gap makes the framer READY, and drops what it has of a frame (R157). -/
theorem Port.gap_eq (p : Port) :
    p.gap = { p with framer := .ready, frame := if p.framer = .ready then p.frame else [] } := by
  obtain ⟨framer, frame, queue, discarded, sending, reply, holdoff⟩ := p
  cases framer <;> rfl

/-! ### The take of a request (R161, R162) -/

section
variable {s : State} {st : Station} {unlock : Bool}

/-- A port that sends, or has nothing queued, takes nothing. -/
theorem takeHead_of_nothing (nothing : (s.ports.get st).sending = true ∨ (s.ports.get st).queue = []) :
    takeHead st unlock s = s := by
  unfold takeHead
  obtain h | h := nothing
  · rw [h]
  · rw [h]
    cases (s.ports.get st).sending <;> rfl

theorem takeHead_of_queued {e : QueueEntry} {rest : List QueueEntry} (idle : (s.ports.get st).sending = false)
    (queued : (s.ports.get st).queue = e :: rest) : takeHead st unlock s =
      sendReply st e (judgeEntry st e (setCalUnlock unlock s)).2 (judgeEntry st e (setCalUnlock unlock s)).1 := by
  unfold takeHead
  rw [idle, queued]

end

section
variable (st : Station) {e : QueueEntry} (s : State)

theorem judgeEntry_of_bad_footer (bad : e.footerGood = false) : judgeEntry st e s = (s, answerOnly .frameError) :=
  if_pos bad

section
variable (good : e.footerGood = true)
include good

theorem judgeEntry_of_unknown (unknown : requestOf e.code.toNat = none) :
    judgeEntry st e s = (s, answerOnly .unknownRequest) := by
  rw [judgeEntry, if_neg (by rw [good]; decide), unknown]

variable {r : Request} (known : requestOf e.code.toNat = some r)
include known

theorem judgeEntry_of_known : judgeEntry st e s =
    if r.cls.allowed st = false then (raise (.rights st e.code) s, answerOnly .notPermitted)
    else if r = .writeCalibration ∧ s.pins.calUnlock = false then (s, answerOnly .locked)
    else if r.lengthOk e.body.length = false then (s, answerOnly .badLength)
    else handOver r st e.body s := by
  rw [judgeEntry, if_neg (by rw [good]; decide), known]

/-- A request judged at the port and found in order is handed to its owner. -/
theorem judgeEntry_of_ok (allowed : r.cls.allowed st = true) (unlocked : r = .writeCalibration → s.pins.calUnlock = true)
    (lengthOk : r.lengthOk e.body.length = true) : judgeEntry st e s = handOver r st e.body s := by
  rw [judgeEntry_of_known st s good known, if_neg (by rw [allowed]; decide),
    if_neg (fun both => by rw [unlocked both.1] at both; exact nomatch both.2), if_neg (by rw [lengthOk]; decide)]

end

end

/-- Settles O48. -/
theorem portsJudgeAndAnswer : Obligations.PortsJudgeAndAnswer := by
  refine ⟨fun s st hr => ?_, fun s st unlock hr => ?_⟩
  · have character (b : Byte) : exec (.characterReceived st b) s = .next (takeCharacter st s b) :=
      exec_arrival_of_running (.characterReceived st b) hr
    intro port dropped
    have notFifth {b : Byte} (short : port.frame.length < 4) : (port.frame ++ [b]).length ≠ 5 := by
      rw [List.length_append, List.length_singleton]
      omega
    refine ⟨fun b waits => ?_, fun b ready => ?_, fun b header short => ?_, fun b0 b1 b2 b3 b4 header four => ?_,
      ?_, ?_, ?_⟩
    · rw [character, takeCharacter_of_waitGap waits]
    · rw [character, takeCharacter_of_ready ready]
      rfl
    · rw [character, takeCharacter_of_header header, if_neg (notFifth short)]
      rfl
    · have five : (s.ports.get st).frame ++ [b4] = [b0, b1, b2, b3, b4] := by
        rw [show (s.ports.get st).frame = _ from four]
        rfl
      have judged : takeCharacter st s b4 = judgeHeader st [b0, b1, b2, b3, b4] s := by
        rw [takeCharacter_of_header header, five]
        rfl
      intro check length
      refine ⟨fun bad => ?_, fun right positive fits => ?_⟩
      · rw [character, judged, judgeHeader, if_neg]
        · rfl
        · rw [headerGood_header]
          exact fun both => bad.elim (· both.1) (fun long => absurd both.2 (Nat.not_le.2 long))
      · rw [character, judged, judgeHeader, if_pos ((headerGood_header b0 b1 b2 b3 b4).2 ⟨right, fits⟩), if_neg]
        · rfl
        · rw [headerLength_header]
          exact Nat.one_le_iff_ne_zero.1 positive
    · exact exec_arrival_of_running (.stopBitMissing st) hr
    · have run : exec (.idleGap st) s = .next (setPort st (s.ports.get st).gap s) :=
        exec_arrival_of_running (.idleGap st) hr
      rw [run, Port.gap_eq]
      rfl
    · exact exec_arrival_of_running (.lineBreak st) hr
  · intro port s0
    have take : exec (.takeRequest st unlock) s = .next (takeHead st unlock s) :=
      exec_arrival_of_running (.takeRequest st unlock) hr
    have sent : exec (.replySent st) s = .next (setPort st port.replyDone s) :=
      exec_arrival_of_running (.replySent st) hr
    refine ⟨fun nothing => ?_, fun idle => ?_, fun e rest sending queued => ?_, fun e rest idle queued => ?_⟩
    · rw [take, takeHead_of_nothing nothing]
    · rw [sent, Port.replyDone, if_neg (by rw [idle]; decide), setPort_get]
    · rw [sent, Port.replyDone, if_pos sending, queued]
      rfl
    · refine ⟨_, (judgeEntry st e s0).2, take, ?_⟩
      rw [takeHead_of_queued idle queued]
      have ports : (judgeEntry st e s0).1.ports = s.ports := (judgeEntry_frame st e s0).2.2.1
      have parts {u : State} {a : Answer} (h : judgeEntry st e s0 = (u, a)) :
          (judgeEntry st e s0).2 = a ∧ sendReply st e (judgeEntry st e s0).2 (judgeEntry st e s0).1 =
            { u with ports := (sendReply st e (judgeEntry st e s0).2 (judgeEntry st e s0).1).ports } := by
        rw [h]
        exact ⟨rfl, rfl⟩
      refine ⟨?_, fun bad => parts (judgeEntry_of_bad_footer st s0 bad),
        fun good unknown => parts (judgeEntry_of_unknown st s0 good unknown), fun r good known => ?_⟩
      · simp only [sendReply, setPort, replyBody, portStatus]
        rw [show (judgeEntry st e (setCalUnlock unlock s)).1.ports = s.ports from ports]
        rfl
      · have judged := judgeEntry_of_known st s0 good known
        have notLocked (unlocked : r = .writeCalibration → unlock = true) :
            ¬ (r = .writeCalibration ∧ s0.pins.calUnlock = false) := fun both => by
          have locked : unlock = false := both.2
          rw [unlocked both.1] at locked
          exact nomatch locked
        refine ⟨fun denied => parts (judged.trans (if_pos denied)), fun allowed cal locked => ?_,
          fun allowed unlocked wrong => ?_, fun allowed unlocked right => ?_⟩
        · rw [if_neg (by rw [allowed]; decide), if_pos ⟨cal, locked⟩] at judged
          exact parts judged
        · rw [if_neg (by rw [allowed]; decide), if_neg (notLocked unlocked), if_pos wrong] at judged
          exact parts judged
        · exact (parts (judgeEntry_of_ok st s0 good known allowed unlocked right)).symm

end Sys2Proof.Machine
end

section
/-! A frame received whole (sections 8.1 to 8.3): the framer over the characters of a frame as its layout gives them. -/

namespace Sys2Proof.Machine

open Sys2Proof

/-! ### The layout -/

/-- The header of a frame with its check byte (R158). -/
def wholeHeader (code tag : Byte) (body : List Byte) : List Byte :=
  [code, tag] ++ le 2 body.length ++ [headerCheck ([code, tag] ++ le 2 body.length)]

section
variable (code tag : Byte) {body : List Byte} (fits : body.length ≤ 512)

theorem wholeHeader_length : (wholeHeader code tag body).length = 5 := by
  simp [wholeHeader]

include fits

/-- The length that the header announces, whatever of the frame follows it. -/
theorem headerLength_whole (rest : List Byte) : headerLength (wholeHeader code tag body ++ rest) = body.length := by
  have announced : ((wholeHeader code tag body ++ rest).drop 2).take 2 = le 2 body.length := by
    simp [wholeHeader, le]
  rw [headerLength, announced, fromLE_le, Nat.mod_eq_of_lt (by omega)]

theorem headerGood_whole : headerGood (wholeHeader code tag body) = true := by
  have length := headerLength_whole code tag fits []
  rw [List.append_nil] at length
  rw [headerGood, length, Bool.and_eq_true, decide_eq_true_iff]
  exact ⟨by simp [wholeHeader, le], fits⟩

theorem frameBody_whole (footer : List Byte) : frameBody (wholeHeader code tag body ++ body ++ footer) = body := by
  rw [frameBody, List.append_assoc, headerLength_whole code tag fits,
    List.drop_left' (wholeHeader_length code tag), List.take_left' rfl]

theorem footerGood_whole {footer : List Byte} (two : footer.length = if body = [] then 0 else 2) :
    footerGood (wholeHeader code tag body ++ body ++ footer) = decide (body = [] ∨ footer = le 2 (crc16 body).toNat) := by
  have last : ((wholeHeader code tag body ++ body ++ footer).drop (5 + body.length)).take 2 = footer := by
    rw [List.drop_left' (by rw [List.length_append, wholeHeader_length]), List.take_of_length_le]
    rw [two]
    split <;> omega
  rw [footerGood, frameBody_whole code tag fits, Bool.eq_iff_iff, Bool.or_eq_true, decide_eq_true_iff]
  rw [List.append_assoc, headerLength_whole code tag fits, ← List.append_assoc, last]
  simp

theorem frameEntry_whole {footer : List Byte} (two : footer.length = if body = [] then 0 else 2) :
    frameEntry (wholeHeader code tag body ++ body ++ footer) =
      { code := code, tag := tag, body := body, footerGood := decide (body = [] ∨ footer = le 2 (crc16 body).toNat) } := by
  rw [frameEntry, frameBody_whole code tag fits, footerGood_whole code tag fits two]
  rfl

end

/-! ### The framer within a frame -/

theorem setPort_setPort (st : Station) (v w : Port) (s : State) : setPort st v (setPort st w s) = setPort st v s := by
  cases st <;> rfl

/-- A port with a frame in progress. -/
abbrev Port.framing (p : Port) (framer : FramerState) (frame : List Byte) : Port :=
  { p with framer, frame }

section
variable (s : State) (st : Station) (p : Port) (frame : List Byte) (b : Byte)

theorem takeCharacter_in_header : takeCharacter st (setPort st (p.framing .header frame) s) b =
    if (frame ++ [b]).length = 5 then judgeHeader st (frame ++ [b]) (setPort st (p.framing .header frame) s)
    else setPort st (p.framing .header (frame ++ [b])) s := by
  simp only [takeCharacter, setPort_get_self, setPort_setPort]

theorem takeCharacter_in_body : takeCharacter st (setPort st (p.framing .body frame) s) b =
    if (frame ++ [b]).length = 5 + headerLength (frame ++ [b]) then setPort st (p.framing .footer (frame ++ [b])) s
    else setPort st (p.framing .body (frame ++ [b])) s := by
  simp only [takeCharacter, setPort_get_self, setPort_setPort]

theorem takeCharacter_in_footer : takeCharacter st (setPort st (p.framing .footer frame) s) b =
    if (frame ++ [b]).length = 7 + headerLength (frame ++ [b]) then
      completeFrame st (frame ++ [b]) (setPort st (p.framing .footer frame) s)
    else setPort st (p.framing .footer (frame ++ [b])) s := by
  simp only [takeCharacter, setPort_get_self, setPort_setPort]

end

section
variable (s : State) (st : Station) (p : Port) (code tag : Byte) {body : List Byte} (fits : body.length ≤ 512)

/-- The characters of a header, from a framer in READY on, up to the check byte. -/
theorem takeCharacters_header (ready : (s.ports.get st).framer = .ready) (a b c d e : Byte) :
    [a, b, c, d, e].foldl (takeCharacter st) s =
      judgeHeader st [a, b, c, d, e] (setPort st ((s.ports.get st).framing .header [a, b, c, d]) s) := by
  simp only [List.foldl_cons, List.foldl_nil, takeCharacter_of_ready ready]
  rw [takeCharacter_in_header s st _ [a] b, if_neg (by simp), takeCharacter_in_header, if_neg (by simp),
    takeCharacter_in_header, if_neg (by simp), takeCharacter_in_header, if_pos (by simp)]
  rfl

include fits

/-- The characters of a body that is not complete yet. -/
theorem takeCharacters_body (front before : List Byte) (more : before.length + front.length < body.length) :
    front.foldl (takeCharacter st) (setPort st (p.framing .body (wholeHeader code tag body ++ before)) s) =
      setPort st (p.framing .body (wholeHeader code tag body ++ (before ++ front))) s := by
  induction front generalizing before with
  | nil => rw [List.append_nil]; rfl
  | cons x xs ih =>
    have next : takeCharacter st (setPort st (p.framing .body (wholeHeader code tag body ++ before)) s) x =
        setPort st (p.framing .body (wholeHeader code tag body ++ (before ++ [x]))) s := by
      rw [takeCharacter_in_body, List.append_assoc, headerLength_whole code tag fits, if_neg]
      simp only [List.length_append, wholeHeader_length, List.length_cons, List.length_nil] at more ⊢
      omega
    rw [List.foldl_cons, next, ih (before ++ [x]) (by simp at more ⊢; omega), List.append_assoc before,
      List.singleton_append]

/-- The characters of a whole body bring the framer to the footer. -/
theorem takeCharacters_whole_body (filled : body ≠ []) :
    body.foldl (takeCharacter st) (setPort st (p.framing .body (wholeHeader code tag body)) s) =
      setPort st (p.framing .footer (wholeHeader code tag body ++ body)) s := by
  obtain ⟨front, last, split⟩ : ∃ front last, body = front ++ [last] :=
    ⟨body.dropLast, body.getLast filled, (List.dropLast_append_getLast filled).symm⟩
  have length : front.length + 1 = body.length := by rw [split, List.length_append, List.length_singleton]
  have begun := takeCharacters_body s st p code tag fits front [] (by simp; omega)
  rw [List.append_nil, List.nil_append] at begun
  have ended : takeCharacter st (setPort st (p.framing .body (wholeHeader code tag body ++ front)) s) last =
      setPort st (p.framing .footer (wholeHeader code tag body ++ body)) s := by
    rw [takeCharacter_in_body, List.append_assoc, ← split, headerLength_whole code tag fits, if_pos]
    rw [List.length_append, wholeHeader_length]
  calc body.foldl (takeCharacter st) _
      = (front ++ [last]).foldl (takeCharacter st) (setPort st (p.framing .body (wholeHeader code tag body)) s) := by
        rw [← split]
    _ = _ := by rw [List.foldl_append, begun]; exact ended

/-- The two characters of the footer complete the frame. -/
theorem takeCharacters_footer (f0 f1 : Byte) :
    [f0, f1].foldl (takeCharacter st) (setPort st (p.framing .footer (wholeHeader code tag body ++ body)) s) =
      completeFrame st (wholeHeader code tag body ++ body ++ [f0, f1])
        (setPort st (p.framing .footer (wholeHeader code tag body ++ body ++ [f0])) s) := by
  have announced (rest : List Byte) : headerLength (wholeHeader code tag body ++ body ++ rest) = body.length := by
    rw [List.append_assoc, headerLength_whole code tag fits]
  rw [List.foldl_cons, takeCharacter_in_footer, announced, if_neg, List.foldl_cons, takeCharacter_in_footer,
    List.append_assoc _ [f0], announced, if_pos]
  · rfl
  · simp only [List.length_append, wholeHeader_length, List.length_cons, List.length_nil]
    omega
  · simp only [List.length_append, wholeHeader_length, List.length_cons, List.length_nil]
    omega

end

/-! ### The frame complete (R160) -/

/-- The governor once a frame is complete: a good frame of the CAB port makes presence live (R160, R131). -/
def presentWith (st : Station) (good : Bool) (g : Governor) : Governor :=
  if st = .cab ∧ good = true then { g with presenceTimer := some 0, presenceLive := true } else g

/-- What a complete frame does at a port, whatever framer state and frame in progress stood there. -/
theorem completeFrame_framing (s : State) (st : Station) (p : Port) (framer : FramerState) (inProgress frame : List Byte) :
    completeFrame st frame (setPort st (p.framing framer inProgress) s) = { s with
      governor := presentWith st (footerGood frame) s.governor
      ports := s.ports.set ((p.framing .waitGap []).enqueue (frameEntry frame)) st } := by
  have ended (u : State) : setPort st (((setPort st (p.framing framer inProgress) u).ports.get st).dropFrame.enqueue
      (frameEntry frame)) (setPort st (p.framing framer inProgress) u) =
        setPort st ((p.framing .waitGap []).enqueue (frameEntry frame)) u := by
    rw [setPort_get_self, setPort_setPort]
    rfl
  have present : presenceNotice (setPort st (p.framing framer inProgress) s) =
      setPort st (p.framing framer inProgress) (presenceNotice s) := rfl
  unfold completeFrame presentWith
  split
  · rw [present]
    exact ended (presenceNotice s)
  · exact ended s

/-- A frame as its layout gives it, from a framer in READY on. -/
theorem takeCharacters_whole {s : State} {st : Station} (ready : (s.ports.get st).framer = .ready) (code tag : Byte)
    {body footer : List Byte} (fits : body.length ≤ 512) (two : footer.length = if body = [] then 0 else 2) :
    (wholeHeader code tag body ++ body ++ footer).foldl (takeCharacter st) s = { s with
      governor := presentWith st (decide (body = [] ∨ footer = le 2 (crc16 body).toNat)) s.governor
      ports := s.ports.set (((s.ports.get st).framing .waitGap []).enqueue
        { code := code, tag := tag, body := body, footerGood := decide (body = [] ∨ footer = le 2 (crc16 body).toNat) })
        st } := by
  have complete (framer : FramerState) (inProgress : List Byte) :=
    completeFrame_framing s st (s.ports.get st) framer inProgress (wholeHeader code tag body ++ body ++ footer)
  rw [footerGood_whole code tag fits two, frameEntry_whole code tag fits two] at complete
  obtain ⟨a, b, c, d, e, five⟩ : ∃ a b c d e, wholeHeader code tag body = [a, b, c, d, e] := ⟨_, _, _, _, _, rfl⟩
  have judged : (wholeHeader code tag body).foldl (takeCharacter st) s =
      if body = [] then
        completeFrame st (wholeHeader code tag body) (setPort st ((s.ports.get st).framing .header [a, b, c, d]) s)
      else setPort st ((s.ports.get st).framing .body (wholeHeader code tag body)) s := by
    have length := headerLength_whole code tag fits []
    rw [List.append_nil] at length
    rw [five, takeCharacters_header s st ready, ← five, judgeHeader, if_pos (headerGood_whole code tag fits), length]
    simp only [List.length_eq_zero_iff, setPort_get_self, setPort_setPort]
  rw [List.append_assoc, List.foldl_append, judged]
  by_cases empty : body = []
  · subst empty
    have nothing : footer = [] := List.length_eq_zero_iff.1 (two.trans (if_pos rfl))
    subst nothing
    rw [if_pos rfl]
    rw [List.append_nil, List.append_nil] at complete
    exact complete _ _
  · obtain ⟨f0, f1, rfl⟩ : ∃ f0 f1, footer = [f0, f1] := List.length_eq_two.1 (two.trans (if_neg empty))
    rw [if_neg empty, List.foldl_append, takeCharacters_whole_body s st _ code tag fits empty,
      takeCharacters_footer s st _ code tag fits]
    exact complete _ _

/-- Settles O47. -/
theorem framesAreReceivedWhole : Obligations.FramesAreReceivedWhole := by
  refine ⟨fun s st code tag body footer hr fits ready two => ?_, fun s st => ⟨?_, fun chars b t run => ?_⟩⟩
  · intro header good port presence
    have run : exec (.frameComplete st (header ++ [headerCheck header] ++ body ++ footer)) s =
        .next ((wholeHeader code tag body ++ body ++ footer).foldl (takeCharacter st) s) :=
      exec_arrival_of_running (.frameComplete st _) hr
    rw [run, takeCharacters_whole ready code tag fits two]
    refine ⟨fun room => ?_, fun full => ?_⟩
    · rw [Port.enqueue, if_neg (Nat.not_le.2 room)]
      have follows : decide (4 ≤ (s.ports.get st).queue.length + 1) = decide ((s.ports.get st).queue.length = 3) := by
        rw [decide_eq_decide]
        omega
      rw [← follows]
      rfl
    · rw [Port.enqueue, if_pos full]
      rfl
  · exact congrArg Host.Outcome.next (ite_self s)
  · by_cases hr : s.phase = .running
    · have taken (cs : List Byte) : exec (.frameComplete st cs) s = .next (cs.foldl (takeCharacter st) s) :=
        exec_arrival_of_running (.frameComplete st cs) hr
      obtain rfl : chars.foldl (takeCharacter st) s = t := Host.Outcome.next.inj ((taken chars).symm.trans run)
      have runs : (chars.foldl (takeCharacter st) s).phase = .running :=
        takeCharacters_keeps (law := fun u => u.phase = .running) (fun u c h => by simpa using h) chars hr
      have more : exec (.characterReceived st b) (chars.foldl (takeCharacter st) s) =
          .next (takeCharacter st (chars.foldl (takeCharacter st) s) b) :=
        exec_arrival_of_running (.characterReceived st b) runs
      rw [taken, List.foldl_append, more]
      rfl
    · have lost (f : State → State) : arrival f s = .next s := by
        rw [arrival, if_neg]
        cases h : s.phase <;> simp_all [State.isRunning]
      have stays : exec (.frameComplete st chars) s = .next s := lost fun u => chars.foldl (takeCharacter st) u
      obtain rfl : s = t := Host.Outcome.next.inj (stays.symm.trans run)
      exact (lost fun u => (chars ++ [b]).foldl (takeCharacter st) u).trans (lost fun u => takeCharacter st u b).symm

end Sys2Proof.Machine
end

section
/-! The records that the reads answer (section 8.8): their lengths, and their fields at the offsets of the layout. -/

namespace Sys2Proof.Machine

open Sys2Proof

/-! ### Fields of a record laid out in parts -/

/-- A field past the first part. -/
@[simp] theorem field_append_right (a rest : List Byte) (k n : Nat) (past : a.length ≤ k) :
    field (a ++ rest) k n = field rest (k - a.length) n := field_skip a rest k n past

/-- A field within the first part. -/
theorem field_append_left (a rest : List Byte) (k n : Nat) (within : k + n ≤ a.length) :
    field (a ++ rest) k n = field a k n := by
  rw [field, field, List.drop_append_of_le_length (by omega), List.take_append_of_le_length (by simp; omega)]

@[simp] theorem field_byte_append (b : Byte) (l : List Byte) : field (b :: l) 0 1 = b.toNat := field_byte b l

@[simp] theorem field_cons_append (b : Byte) (l : List Byte) (k n : Nat) : field (b :: l) (k + 1) n = field l k n := rfl

@[simp] theorem field_le_append (n v : Nat) (rest : List Byte) : field (le n v ++ rest) 0 n = v % 256 ^ n := field_le n v rest

@[simp] theorem field_le_last (n v : Nat) : field (le n v) 0 n = v % 256 ^ n := by
  rw [← List.append_nil (le n v), field_le]

@[simp] theorem leOpt_length (n : Nat) (v : Option Nat) : (leOpt n v).length = n := le_length n _

@[simp] theorem field_leOpt_append (n : Nat) (v : Option Nat) (rest : List Byte) :
    field (leOpt n v ++ rest) 0 n = v.getD 0 % 256 ^ n := field_le n _ rest

@[simp] theorem field_leOpt_last (n : Nat) (v : Option Nat) : field (leOpt n v) 0 n = v.getD 0 % 256 ^ n := field_le_last n _

@[simp] theorem field_leInt_append (n : Nat) (v : Int) (rest : List Byte) :
    (field (leInt n v ++ rest) 0 n : Int) = v % (256 ^ n : Nat) := by
  rw [leInt, field_le]
  have positive : (0 : Int) < (256 ^ n : Nat) := by positivity
  have below := Int.emod_lt_of_pos v positive
  have nonneg := Int.emod_nonneg v (Int.ne_of_gt positive)
  rw [Nat.mod_eq_of_lt (by omega), Int.toNat_of_nonneg nonneg]

/-- A field past a first part of a known length. -/
theorem field_after {a : List Byte} {m : Nat} (length : a.length = m) (rest : List Byte) (k n : Nat) :
    field (a ++ rest) (m + k) n = field rest k n := by
  rw [field_skip _ _ _ _ (by omega), length, Nat.add_sub_cancel_left]

/-- A list of parts of one size. -/
theorem length_flatMap_of_size {α : Type} {f : α → List Byte} {size : Nat} (h : ∀ x, (f x).length = size) (l : List α) :
    (l.flatMap f).length = size * l.length := by
  induction l with
  | nil => rfl
  | cons x xs ih => rw [List.flatMap_cons, List.length_append, h, ih, List.length_cons, Nat.mul_succ, Nat.add_comm]

/-- A field of the part at an index. -/
theorem field_flatMap {α : Type} {f : α → List Byte} {size : Nat} (h : ∀ x, (f x).length = size) {l : List α} {k : Nat}
    {x : α} (at_k : l[k]? = some x) {j n : Nat} (within : j + n ≤ size) (rest : List Byte) :
    field (l.flatMap f ++ rest) (size * k + j) n = field (f x) j n := by
  induction l generalizing k with
  | nil => exact nomatch at_k
  | cons y ys ih =>
    rw [List.flatMap_cons, List.append_assoc]
    cases k with
    | zero =>
      obtain rfl : y = x := Option.some.inj at_k
      rw [Nat.mul_zero, Nat.zero_add, field_append_left _ _ _ _ (by rw [h]; exact within)]
    | succ k =>
      rw [field_skip _ _ _ _ (by rw [h, Nat.mul_succ]; omega), h,
        show size * (k + 1) + j - size = size * k + j by rw [Nat.mul_succ]; omega]
      exact ih at_k

/-! ### The readouts of the status record -/

@[simp] theorem channelReadout_length (mask : BitVec 8) (c : ChannelNo) (ch : Channel) :
    (channelReadout mask c ch).length = 8 := by
  simp [channelReadout]

section
variable (s : State)

@[simp] theorem converterReadout_length : (converterReadout s).length = 36 := by
  simp [converterReadout]

@[simp] theorem dustReadout_length : (dustReadout s).length = 71 := by
  simp [dustReadout, allChannels]

@[simp] theorem travelReadout_length : (travelReadout s).length = 30 := by
  unfold travelReadout
  cases target : s.travel.target <;> simp [target]

@[simp] theorem governorReadout_length : (governorReadout s).length = 37 := by
  unfold governorReadout
  cases activeStep s.plan <;> simp

@[simp] theorem planReadout_length : (planReadout s).length = 12 := by
  unfold planReadout
  cases current : currentStep s.plan <;> simp [current]

@[simp] theorem accountReadout_length : (accountReadout s).length = 87 := by
  simp [accountReadout, allSlots]

@[simp] theorem scaleReadout_length : (scaleReadout s).length = 13 := by
  simp [scaleReadout]

theorem converterReadout_fields : let d := converterReadout s
    field d 0 1 = s.converter.state.number.toNat ∧ field d 1 1 = (yesNo s.pins.refOk).toNat ∧
    field d 4 1 = s.store.settings.mask.toNat ∧ field d 30 2 = s.converter.countW % 65536 := by
  simp [converterReadout]

theorem dustReadout_fields : let d := dustReadout s
    field d 0 1 = s.dust.stage.number.toNat ∧ field d 4 1 = s.dust.reference.number.toNat ∧
    field d 68 2 = (s.dust.channels.get 7).filtered % 65536 ∧
    field d 70 1 = (s.dust.channels.get 7).stage.number.toNat := by
  simp [dustReadout, allChannels, channelReadout]

theorem travelReadout_fields : let d := travelReadout s
    field d 0 1 = s.travel.state.number.toNat ∧ field d 3 1 = (yesNo s.travel.referenced).toNat ∧
    field d 8 1 = (holdByte s.travel.spoutOver).toNat ∧ field d 26 1 = s.travel.diverter.number.toNat ∧
    field d 27 1 = s.travel.activePage.val ∧ field d 28 1 = (yesNo s.travel.swapPending).toNat := by
  unfold travelReadout
  have page : s.travel.activePage.val % 256 = s.travel.activePage.val := Nat.mod_eq_of_lt (by omega)
  cases target : s.travel.target <;> simp [target, page]

theorem governorReadout_fields : let d := governorReadout s
    field d 0 1 = s.governor.state.number.toNat ∧ field d 20 1 = s.governor.requested % 256 ∧
    field d 21 1 = s.governor.ceiling % 256 ∧ field d 22 1 = s.governor.level % 256 ∧
    field d 23 4 = s.governor.preact % 4294967296 ∧ field d 34 1 = (yesNo s.governor.feedPermit).toNat ∧
    field d 36 1 = (yesNo s.governor.beltPermit).toNat := by
  unfold governorReadout
  cases activeStep s.plan <;> simp

theorem planReadout_fields : let d := planReadout s
    field d 0 1 = (yesNo s.plan.callOpen).toNat ∧ field d 1 4 = s.plan.callId % 4294967296 ∧
    field d 5 2 = s.plan.trimBand % 65536 ∧ field d 7 2 = s.plan.revision % 65536 := by
  simp [planReadout]

theorem accountReadout_fields : let d := accountReadout s
    field d 1 4 = (s.accounts.lots.get 0).number % 4294967296 ∧
    field d 61 4 = (s.accounts.lots.get 15).number % 4294967296 ∧ field d 73 1 = s.accounts.bills.length % 256 ∧
    field d 78 4 = s.accounts.billCounter.getD 0 % 4294967296 ∧ field d 82 4 = s.accounts.seconds % 4294967296 ∧
    field d 86 1 = (yesNo s.accounts.timeValid).toNat := by
  simp [accountReadout, allSlots]

theorem scaleReadout_fields : let d := scaleReadout s
    field d 0 1 = s.weigher.scale.number.toNat ∧ field d 1 4 = s.weigher.lineTotal % 4294967296 ∧
    field d 5 1 = (yesNo s.pins.estop).toNat ∧ field d 8 1 = (yesNo s.store.defaulted).toNat ∧
    field d 9 4 = s.store.calibrationCount % 4294967296 := by
  simp [scaleReadout]

theorem statusRecord_length : (statusRecord s).length = 286 := by
  simp [statusRecord]

/-- The seven readouts in a row. -/
theorem statusRecord_laid : statusRecord s = converterReadout s ++ (dustReadout s ++ (travelReadout s ++ (governorReadout s ++
    (planReadout s ++ (accountReadout s ++ (scaleReadout s ++ [])))))) := by
  simp [statusRecord]

/-- A field within a first part of a known length. -/
theorem field_within {p : List Byte} {m : Nat} (length : p.length = m) (rest : List Byte) {k n : Nat} (within : k + n ≤ m) :
    field (p ++ rest) k n = field p k n :=
  field_append_left p rest k n (by rw [length]; exact within)

section
variable {k n : Nat}

theorem statusRecord_converter (within : k + n ≤ 36) : field (statusRecord s) k n = field (converterReadout s) k n := by
  rw [statusRecord_laid, field_within (converterReadout_length s) _ within]

theorem statusRecord_dust (past : 36 ≤ k) (within : k + n ≤ 107) :
    field (statusRecord s) k n = field (dustReadout s) (k - 36) n := by
  obtain ⟨j, rfl⟩ := Nat.exists_eq_add_of_le past
  rw [Nat.add_sub_cancel_left, statusRecord_laid, field_after (converterReadout_length s),
    field_within (dustReadout_length s) _ (by omega)]

theorem statusRecord_travel (past : 107 ≤ k) (within : k + n ≤ 137) :
    field (statusRecord s) k n = field (travelReadout s) (k - 107) n := by
  obtain ⟨j, rfl⟩ := Nat.exists_eq_add_of_le past
  rw [Nat.add_sub_cancel_left, statusRecord_laid, show 107 + j = 36 + (71 + j) by omega, field_after
    (converterReadout_length s), field_after (dustReadout_length s),
    field_within (travelReadout_length s) _ (by omega)]

theorem statusRecord_governor (past : 137 ≤ k) (within : k + n ≤ 174) :
    field (statusRecord s) k n = field (governorReadout s) (k - 137) n := by
  obtain ⟨j, rfl⟩ := Nat.exists_eq_add_of_le past
  rw [Nat.add_sub_cancel_left, statusRecord_laid, show 137 + j = 36 + (71 + (30 + j)) by omega, field_after
    (converterReadout_length s), field_after (dustReadout_length s), field_after (travelReadout_length s),
    field_within (governorReadout_length s) _ (by omega)]

theorem statusRecord_plan (past : 174 ≤ k) (within : k + n ≤ 186) :
    field (statusRecord s) k n = field (planReadout s) (k - 174) n := by
  obtain ⟨j, rfl⟩ := Nat.exists_eq_add_of_le past
  rw [Nat.add_sub_cancel_left, statusRecord_laid, show 174 + j = 36 + (71 + (30 + (37 + j))) by omega, field_after
    (converterReadout_length s), field_after (dustReadout_length s), field_after (travelReadout_length s), field_after
    (governorReadout_length s),
    field_within (planReadout_length s) _ (by omega)]

theorem statusRecord_account (past : 186 ≤ k) (within : k + n ≤ 273) :
    field (statusRecord s) k n = field (accountReadout s) (k - 186) n := by
  obtain ⟨j, rfl⟩ := Nat.exists_eq_add_of_le past
  rw [Nat.add_sub_cancel_left, statusRecord_laid, show 186 + j = 36 + (71 + (30 + (37 + (12 + j)))) by omega, field_after
    (converterReadout_length s), field_after (dustReadout_length s), field_after (travelReadout_length s), field_after
    (governorReadout_length s), field_after (planReadout_length s),
    field_within (accountReadout_length s) _ (by omega)]

theorem statusRecord_scale (past : 273 ≤ k) (within : k + n ≤ 286) :
    field (statusRecord s) k n = field (scaleReadout s) (k - 273) n := by
  obtain ⟨j, rfl⟩ := Nat.exists_eq_add_of_le past
  rw [Nat.add_sub_cancel_left, statusRecord_laid, show 273 + j = 36 + (71 + (30 + (37 + (12 + (87 + j))))) by omega,
    field_after (converterReadout_length s), field_after (dustReadout_length s), field_after (travelReadout_length s),
    field_after (governorReadout_length s), field_after (planReadout_length s), field_after (accountReadout_length s),
    field_within (scaleReadout_length s) _ (by omega)]

end

/-- The fields at the heads of the readouts, at their places in the status record. -/
theorem statusRecord_fields : let d := statusRecord s
    field d 0 1 = s.converter.state.number.toNat ∧ field d 1 1 = (yesNo s.pins.refOk).toNat ∧
    field d 4 1 = s.store.settings.mask.toNat ∧ field d 30 2 = s.converter.countW % 65536 ∧
    field d 36 1 = s.dust.stage.number.toNat ∧ field d 40 1 = s.dust.reference.number.toNat ∧
    field d 104 2 = (s.dust.channels.get 7).filtered % 65536 ∧
    field d 106 1 = (s.dust.channels.get 7).stage.number.toNat ∧
    field d 107 1 = s.travel.state.number.toNat ∧ field d 110 1 = (yesNo s.travel.referenced).toNat ∧
    field d 115 1 = (holdByte s.travel.spoutOver).toNat ∧ field d 133 1 = s.travel.diverter.number.toNat ∧
    field d 134 1 = s.travel.activePage.val ∧ field d 135 1 = (yesNo s.travel.swapPending).toNat ∧
    field d 137 1 = s.governor.state.number.toNat ∧ field d 157 1 = s.governor.requested % 256 ∧
    field d 158 1 = s.governor.ceiling % 256 ∧ field d 159 1 = s.governor.level % 256 ∧
    field d 160 4 = s.governor.preact % 4294967296 ∧ field d 171 1 = (yesNo s.governor.feedPermit).toNat ∧
    field d 173 1 = (yesNo s.governor.beltPermit).toNat ∧
    field d 174 1 = (yesNo s.plan.callOpen).toNat ∧ field d 175 4 = s.plan.callId % 4294967296 ∧
    field d 179 2 = s.plan.trimBand % 65536 ∧ field d 181 2 = s.plan.revision % 65536 ∧
    field d 187 4 = (s.accounts.lots.get 0).number % 4294967296 ∧
    field d 247 4 = (s.accounts.lots.get 15).number % 4294967296 ∧ field d 259 1 = s.accounts.bills.length % 256 ∧
    field d 264 4 = s.accounts.billCounter.getD 0 % 4294967296 ∧ field d 268 4 = s.accounts.seconds % 4294967296 ∧
    field d 272 1 = (yesNo s.accounts.timeValid).toNat ∧
    field d 273 1 = s.weigher.scale.number.toNat ∧ field d 274 4 = s.weigher.lineTotal % 4294967296 ∧
    field d 278 1 = (yesNo s.pins.estop).toNat ∧ field d 281 1 = (yesNo s.store.defaulted).toNat ∧
    field d 282 4 = s.store.calibrationCount % 4294967296 := by
  intro d
  simp only [d, statusRecord_converter, statusRecord_dust, statusRecord_travel, statusRecord_governor, statusRecord_plan,
    statusRecord_account, statusRecord_scale, Nat.reduceLeDiff, Nat.reduceAdd, Nat.reduceSub]
  simpa [and_assoc] using And.intro (converterReadout_fields s) (And.intro (dustReadout_fields s)
    (And.intro (travelReadout_fields s) (And.intro (governorReadout_fields s) (And.intro (planReadout_fields s)
      (And.intro (accountReadout_fields s) (scaleReadout_fields s))))))

end

/-! ### The other records -/

theorem stepRecord_fields (x : Step) (rest : List Byte) : let d := stepRecord x ++ rest
    field d 0 2 = x.id % 65536 ∧ field d 2 1 = x.hold.val + 1 ∧ field d 3 1 = x.slot.val ∧
    field d 5 1 = x.state.number.toNat ∧ field d 9 8 = x.target % 2 ^ 64 ∧ field d 17 8 = x.placed % 2 ^ 64 ∧
    field d 25 8 = x.effective.getD 0 % 2 ^ 64 := by
  simp [stepRecord, holdByte, slotByte, holdNumber]
  omega

theorem hatchRecord_fields (h : Hold) (e : Option Hatch) : let d := hatchRecord h e
    field d 0 1 = h.val + 1 ∧ field d 1 1 = (yesNo e.isSome).toNat ∧
      ∀ x, e = some x →
        field d 2 4 = x.fore % 4294967296 ∧ field d 6 4 = x.aft % 4294967296 ∧
        (field d 10 2 : Int) = x.lever % 65536 ∧ field d 12 2 = x.limit % 65536 := by
  have number : (h.val + 1) % 256 = h.val + 1 := Nat.mod_eq_of_lt (by omega)
  cases e <;> simp [hatchRecord, holdByte, holdNumber, number]

theorem splitBytes_length (splits : List (Hold × Nat)) : (splitBytes splits).length = 9 * splits.length :=
  length_flatMap_of_size (fun _ => by simp) splits

/-- The splits at the end of a record. -/
theorem splitFields_after {before : List Byte} {start : Nat} (length : before.length = start) (splits : List (Hold × Nat)) :
    SplitFields (before ++ splitBytes splits) start splits := by
  intro k x hx
  have split (j n : Nat) (within : j + n ≤ 9) :
      field (before ++ splitBytes splits) (start + (9 * k + j)) n = field (holdByte (some x.1) :: le 8 x.2) j n := by
    have at_k := field_flatMap (f := fun p : Hold × Nat => holdByte (some p.1) :: le 8 p.2) (size := 9) (fun _ => by simp) hx
      within []
    rw [List.append_nil] at at_k
    rw [field_after length]
    exact at_k
  refine ⟨(split 0 1 (by decide)).trans ?_, (split 1 8 (by decide)).trans ?_⟩
  · rw [field_byte]
    simp [holdByte, holdNumber]
    omega
  · simp

/-- What stands before the splits in the fields that every account has. -/
theorem ledgerTail_eq (l : Ledger) (opened : Option Nat) (inLine : Nat) :
    ∃ head : List Byte, head.length = 63 ∧ ledgerTail l opened inLine = head ++ splitBytes l.splits :=
  ⟨_, by simp, rfl⟩

section
variable (l : Ledger) (opened : Option Nat) (inLine : Nat) {before : List Byte} (length : before.length = 37)
include length

theorem ledgerFields_after : LedgerFields (before ++ ledgerTail l opened inLine) l inLine := by
  have tail := field_after length (ledgerTail l opened inLine)
  obtain ⟨head, headLength, split⟩ := ledgerTail_eq l opened inLine
  refine ⟨?_, (tail 0 8).trans ?_, (tail 8 8).trans ?_, (tail 16 2).trans ?_, (tail 18 8).trans ?_, (tail 26 8).trans ?_,
    (tail 34 8).trans ?_, (tail 46 8).trans ?_, (congrArg Int.ofNat (tail 54 8)).trans ?_, (tail 62 1).trans ?_, ?_⟩
  · rw [split, List.length_append, List.length_append, length, headLength, splitBytes_length]
    omega
  case refine_11 =>
    rw [split, ← List.append_assoc]
    exact splitFields_after (by rw [List.length_append, length, headLength]) l.splits
  all_goals simp [ledgerTail, balance, splitSum]

theorem opened_after : field (before ++ ledgerTail l opened inLine) 79 4 = opened.getD 0 % 4294967296 := by
  refine (field_after length (ledgerTail l opened inLine) 42 4).trans ?_
  simp [ledgerTail]

end

theorem referenceBytes_length (r : List Byte) : (referenceBytes r).length = 24 := by
  simp [referenceBytes]

/-- A byte of a reference within its field. -/
theorem field_referenceBytes {r : List Byte} {k : Nat} (within : k < r.length) (fits : k < 24) :
    field (referenceBytes r) k 1 = (r.getD k 0).toNat := by
  have byte : (referenceBytes r)[k]? = some (r.getD k 0) := by
    rw [referenceBytes, List.getElem?_take_of_lt fits, List.getElem?_append_left within, List.getD_eq_getElem?_getD,
      List.getElem?_eq_getElem within]
    rfl
  obtain ⟨bound, value⟩ := List.getElem?_eq_some_iff.1 byte
  rw [field, List.drop_eq_getElem_cons bound, value]
  simp [fromLE]

theorem bitSet_three : ∀ a b c : Bool,
    (BitVec.ofNat 8 (bitSet [a, b, c])).toNat = (yesNo a).toNat + 2 * (yesNo b).toNat + 4 * (yesNo c).toNat := by
  decide

theorem bitSet_four : ∀ a b c d : Bool, (BitVec.ofNat 8 (bitSet [a, b, c, d])).toNat =
    (yesNo a).toNat + 2 * (yesNo b).toNat + 4 * (yesNo c).toNat + 8 * (yesNo d).toNat := by
  decide

theorem lotRecord_fields (i : Slot) (l : Lot) (inLine : Nat) (openLot : l.isOpen = true) : let d := lotRecord i l inLine
    field d 0 1 = 1 ∧
    field d 1 1 = (yesNo l.declared.isSome).toNat + 2 * (yesNo l.opened.isSome).toNat +
      4 * (yesNo l.ledger.overRange).toNat ∧
    field d 2 1 = i.val ∧ field d 3 4 = l.number % 4294967296 ∧ field d 7 1 = l.grade % 256 ∧
    field d 8 1 = l.reference.length % 256 ∧
    (∀ k, k < l.reference.length → k < 24 → field d (9 + k) 1 = (l.reference.getD k 0).toNat) ∧
    field d 33 4 = l.declared.getD 0 % 4294967296 ∧ field d 79 4 = l.opened.getD 0 % 4294967296 ∧
    LedgerFields d l.ledger inLine := by
  intro d
  let head : List Byte := [1, BitVec.ofNat 8 (bitSet [l.declared.isSome, l.opened.isSome, l.ledger.overRange]),
    slotByte (some i)] ++ le 4 l.number ++ [BitVec.ofNat 8 l.grade, BitVec.ofNat 8 l.reference.length]
  have laid : d = head ++ referenceBytes l.reference ++ leOpt 4 l.declared ++ ledgerTail l.ledger l.opened inLine :=
    if_pos openLot
  have nine : head.length = 9 := by simp [head]
  have length : (head ++ referenceBytes l.reference ++ leOpt 4 l.declared).length = 37 := by
    simp [nine, referenceBytes_length]
  have first (k n : Nat) (within : k + n ≤ 9) : field d k n = field head k n := by
    rw [laid, List.append_assoc, List.append_assoc, field_append_left _ _ _ _ (by rw [nine]; exact within)]
  have slot : i.val % 256 = i.val := Nat.mod_eq_of_lt (by omega)
  refine ⟨(first 0 1 (by decide)).trans ?_, (first 1 1 (by decide)).trans ?_, (first 2 1 (by decide)).trans ?_,
    (first 3 4 (by decide)).trans ?_, (first 7 1 (by decide)).trans ?_, (first 8 1 (by decide)).trans ?_,
    fun k within fits => ?_, ?_, ?_, ?_⟩
  · rfl
  · exact bitSet_three _ _ _
  · simp [head, slotByte, slot]
  · simp [head]
  · simp [head]
  · simp [head]
  · rw [laid, List.append_assoc, List.append_assoc, field_after nine,
      field_append_left _ _ _ _ (by rw [referenceBytes_length]; omega), field_referenceBytes within fits]
  · rw [laid, List.append_assoc]
    refine (field_after (m := 33) (by simp [nine, referenceBytes_length]) _ 0 4).trans ?_
    simp
  · rw [laid, opened_after _ _ _ length]
  · rw [laid]
    exact ledgerFields_after _ _ _ length

theorem unassignedRecord_fields (l : Ledger) (inLine : Nat) : let d := unassignedRecord l inLine
    field d 1 1 = 4 * (yesNo l.overRange).toNat ∧ field d 2 1 = 255 ∧ LedgerFields d l inLine := by
  refine ⟨?_, ?_, ledgerFields_after l none inLine (by simp [referenceBytes_length])⟩
  · have flags : field (unassignedRecord l inLine) 1 1 = (BitVec.ofNat 8 (bitSet [false, false, l.overRange])).toNat := by
      simp [unassignedRecord]
    rw [flags, bitSet_three]
    simp [yesNo]
  · simp [unassignedRecord, slotByte]

/-- What stands before the reference in a bill. -/
def billHead (b : Bill) : List Byte := le 4 b.number ++ [slotByte (some b.slot), BitVec.ofNat 8
    (bitSet [b.declared.isSome, b.opened.isSome, b.closed.isSome, b.ledger.overRange])] ++
  le 4 b.lotNumber ++ [BitVec.ofNat 8 b.grade, BitVec.ofNat 8 b.reference.length]

/-- What stands between the reference and the splits of a bill. -/
def billMasses (b : Bill) : List Byte := leOpt 4 b.declared ++ le 8 b.ledger.weighed ++ le 8 b.ledger.estimated ++
  le 2 b.ledger.unweighed ++ le 8 b.ledger.rejected ++ le 8 b.ledger.spilled ++ le 8 b.ledger.unplaced ++ le 8 b.net ++
  le 8 b.tonnage ++ leOpt 4 b.opened ++ leOpt 4 b.closed ++ le 4 b.calibrationCount ++ le 4 b.callId ++
  [BitVec.ofNat 8 b.ledger.splits.length]

section
variable (b : Bill)

theorem billRecord_laid : billRecord b =
    billHead b ++ (referenceBytes b.reference ++ (billMasses b ++ splitBytes b.ledger.splits)) := by
  unfold billRecord billHead billMasses
  simp only [List.append_assoc]

theorem billHead_length : (billHead b).length = 12 := by
  simp [billHead]

theorem billMasses_length : (billMasses b).length = 79 := by
  simp [billMasses]

theorem billRecord_head {k n : Nat} (within : k + n ≤ 12) : field (billRecord b) k n = field (billHead b) k n := by
  rw [billRecord_laid, field_append_left _ _ _ _ (by rw [billHead_length]; exact within)]

theorem billRecord_masses {k n : Nat} (past : 36 ≤ k) (within : k + n ≤ 115) :
    field (billRecord b) k n = field (billMasses b) (k - 36) n := by
  obtain ⟨j, rfl⟩ := Nat.exists_eq_add_of_le past
  rw [billRecord_laid, show 36 + j = 12 + (24 + j) by omega, field_after (billHead_length b),
    field_after (referenceBytes_length b.reference), field_append_left _ _ _ _ (by rw [billMasses_length]; omega)]
  congr 1
  omega

theorem billRecord_reference {k : Nat} (within : k < b.reference.length) (fits : k < 24) :
    field (billRecord b) (12 + k) 1 = (b.reference.getD k 0).toNat := by
  rw [billRecord_laid, field_after (billHead_length b),
    field_append_left _ _ _ _ (by rw [referenceBytes_length]; omega), field_referenceBytes within fits]

theorem billRecord_splits : SplitFields (billRecord b) 115 b.ledger.splits := by
  rw [billRecord_laid, ← List.append_assoc, ← List.append_assoc]
  exact splitFields_after (by simp [billHead_length, referenceBytes_length, billMasses_length]) b.ledger.splits

theorem billRecord_length : (billRecord b).length = 115 + 9 * b.ledger.splits.length := by
  simp [billRecord_laid, billHead_length, referenceBytes_length, billMasses_length, splitBytes_length]
  omega

theorem billHead_fields : let d := billHead b
    field d 0 4 = b.number % 4294967296 ∧ field d 4 1 = b.slot.val ∧
    field d 5 1 = (yesNo b.declared.isSome).toNat + 2 * (yesNo b.opened.isSome).toNat +
      4 * (yesNo b.closed.isSome).toNat + 8 * (yesNo b.ledger.overRange).toNat ∧
    field d 6 4 = b.lotNumber % 4294967296 ∧ field d 10 1 = b.grade % 256 ∧
    field d 11 1 = b.reference.length % 256 := by
  have slot : b.slot.val % 256 = b.slot.val := Nat.mod_eq_of_lt (by omega)
  rw [← bitSet_four]
  simp [billHead, slotByte, slot]

theorem billMasses_fields : let d := billMasses b
    field d 0 4 = b.declared.getD 0 % 4294967296 ∧
    field d 4 8 = b.ledger.weighed % 2 ^ 64 ∧ field d 12 8 = b.ledger.estimated % 2 ^ 64 ∧
    field d 20 2 = b.ledger.unweighed % 65536 ∧ field d 22 8 = b.ledger.rejected % 2 ^ 64 ∧
    field d 30 8 = b.ledger.spilled % 2 ^ 64 ∧ field d 38 8 = b.ledger.unplaced % 2 ^ 64 ∧
    field d 46 8 = b.net % 2 ^ 64 ∧ field d 54 8 = b.tonnage % 2 ^ 64 ∧
    field d 62 4 = b.opened.getD 0 % 4294967296 ∧ field d 66 4 = b.closed.getD 0 % 4294967296 ∧
    field d 70 4 = b.calibrationCount % 4294967296 ∧ field d 74 4 = b.callId % 4294967296 ∧
    field d 78 1 = b.ledger.splits.length % 256 := by
  simp [billMasses]

theorem billRecord_fields : let d := billRecord b
    d.length = 115 + 9 * b.ledger.splits.length ∧
    field d 0 4 = b.number % 4294967296 ∧ field d 4 1 = b.slot.val ∧
    field d 5 1 = (yesNo b.declared.isSome).toNat + 2 * (yesNo b.opened.isSome).toNat +
      4 * (yesNo b.closed.isSome).toNat + 8 * (yesNo b.ledger.overRange).toNat ∧
    field d 6 4 = b.lotNumber % 4294967296 ∧ field d 10 1 = b.grade % 256 ∧
    field d 11 1 = b.reference.length % 256 ∧
    (∀ k, k < b.reference.length → k < 24 → field d (12 + k) 1 = (b.reference.getD k 0).toNat) ∧
    field d 36 4 = b.declared.getD 0 % 4294967296 ∧
    field d 40 8 = b.ledger.weighed % 2 ^ 64 ∧ field d 48 8 = b.ledger.estimated % 2 ^ 64 ∧
    field d 56 2 = b.ledger.unweighed % 65536 ∧ field d 58 8 = b.ledger.rejected % 2 ^ 64 ∧
    field d 66 8 = b.ledger.spilled % 2 ^ 64 ∧ field d 74 8 = b.ledger.unplaced % 2 ^ 64 ∧
    field d 82 8 = b.net % 2 ^ 64 ∧ field d 90 8 = b.tonnage % 2 ^ 64 ∧
    field d 98 4 = b.opened.getD 0 % 4294967296 ∧ field d 102 4 = b.closed.getD 0 % 4294967296 ∧
    field d 106 4 = b.calibrationCount % 4294967296 ∧ field d 110 4 = b.callId % 4294967296 ∧
    field d 114 1 = b.ledger.splits.length % 256 ∧ SplitFields d 115 b.ledger.splits := by
  intro d
  obtain ⟨number, slot, present, lot, grade, reference⟩ := billHead_fields b
  have first {k n : Nat} (within : k + n ≤ 12) : field d k n = field (billHead b) k n := billRecord_head b within
  have later {k n : Nat} (past : 36 ≤ k) (within : k + n ≤ 115) : field d k n = field (billMasses b) (k - 36) n :=
    billRecord_masses b past within
  refine ⟨billRecord_length b, (first (by decide)).trans number, (first (by decide)).trans slot,
    (first (by decide)).trans present, (first (by decide)).trans lot, (first (by decide)).trans grade,
    (first (by decide)).trans reference, fun k => billRecord_reference b, ?_⟩
  simp only [later, Nat.reduceLeDiff, Nat.reduceAdd, Nat.reduceSub]
  simpa [and_assoc] using And.intro (billMasses_fields b) (billRecord_splits b)
end

/-! ### Read Holds and Read Transit -/

theorem holdRecord_length (s : State) (h : Hold) : (holdRecord s h).length = 22 := by
  unfold holdRecord
  cases s.travel.activeMap.get h <;> simp

theorem holdRecord_fields (s : State) (h : Hold) : let d := holdRecord s h
    field d 0 1 = h.val + 1 ∧ field d 1 1 = (yesNo (s.travel.activeMap.get h).isSome).toNat ∧
    field d 2 8 = s.accounts.credited.get h % 2 ^ 64 ∧
    ∀ e, s.travel.activeMap.get h = some e →
      field d 12 2 = e.limit % 65536 ∧
      field d 14 8 = (e.limit * 1000000 - s.accounts.credited.get h) % 2 ^ 64 := by
  have number : (h.val + 1) % 256 = h.val + 1 := Nat.mod_eq_of_lt (by omega)
  cases entry : s.travel.activeMap.get h <;>
    simp [holdRecord, entry, holdByte, holdNumber, number, yesNo, holdRoom, gramsPerTonne]

theorem allHolds_getElem (h : Hold) : allHolds[h.val]? = some h := by
  revert h
  decide

theorem holdsRecord_fields (s : State) : let d := holdsRecord s
    d.length = 187 ∧
    (∀ h : Hold, field d (22 * h.val) 1 = h.val + 1 ∧
      field d (22 * h.val + 1) 1 = (yesNo (s.travel.activeMap.get h).isSome).toNat ∧
      field d (22 * h.val + 2) 8 = s.accounts.credited.get h % 2 ^ 64 ∧
      ∀ e, s.travel.activeMap.get h = some e →
        field d (22 * h.val + 12) 2 = e.limit % 65536 ∧
        field d (22 * h.val + 14) 8 = (e.limit * 1000000 - s.accounts.credited.get h) % 2 ^ 64) ∧
    field d 184 1 = s.travel.activePage.val ∧ field d 185 2 = s.plan.trimBand % 65536 := by
  intro d
  have holds : (allHolds.flatMap (holdRecord s)).length = 176 := length_flatMap_of_size (holdRecord_length s) allHolds
  have page : s.travel.activePage.val % 256 = s.travel.activePage.val := Nat.mod_eq_of_lt (by omega)
  refine ⟨by simp [d, holdsRecord, holds], fun h => ?_, by simp [d, holdsRecord, holds, page],
    by simp [d, holdsRecord, holds]⟩
  have laid : d = allHolds.flatMap (holdRecord s) ++
      (leInt 8 s.accounts.moment ++ [BitVec.ofNat 8 s.travel.activePage.val] ++ le 2 s.plan.trimBand) := by
    simp only [d, holdsRecord, List.append_assoc]
  have of (j n : Nat) (within : j + n ≤ 22) : field d (22 * h.val + j) n = field (holdRecord s h) j n := by
    rw [laid]
    exact field_flatMap (holdRecord_length s) (allHolds_getElem h) within _
  obtain ⟨number, present, credited, limits⟩ := holdRecord_fields s h
  refine ⟨(of 0 1 (by decide)).trans number, (of 1 1 (by decide)).trans present, (of 2 8 (by decide)).trans credited,
    fun e entry => ?_⟩
  obtain ⟨limit, room⟩ := limits e entry
  exact ⟨(of 12 2 (by decide)).trans limit, (of 14 8 (by decide)).trans room⟩

/-- The accounts with mass in the line. -/
theorem lineByAccount_length (line : List Entry) :
    (lineByAccount line).length = (allAccounts.filter (fun a => massInLine line a != 0)).length := by
  rw [lineByAccount, List.filter_map, List.length_map]
  rfl

theorem transitRecord_fields (s : State) : let d := transitRecord s
    d.length = 39 + 5 * (allAccounts.filter (fun a => massInLine s.weigher.line a != 0)).length ∧
    field d 0 2 = s.store.settings.lineLength % 65536 ∧ field d 2 2 = s.store.settings.segmentLength % 65536 ∧
    field d 6 2 = s.store.settings.zero % 65536 ∧ field d 8 2 = s.store.settings.span % 65536 ∧
    field d 11 4 = s.store.calibrationCount % 4294967296 ∧ field d 15 1 = s.weigher.scale.number.toNat ∧
    field d 17 1 = s.weigher.input.number.toNat ∧ field d 18 1 = s.weigher.pulseCount % 256 ∧
    field d 19 4 = s.weigher.segmentCount % 4294967296 ∧ field d 23 4 = s.weigher.lastMean % 4294967296 ∧
    field d 27 4 = s.weigher.lineTotal % 4294967296 ∧ field d 33 1 = (slotByte s.weigher.weighingLot).toNat ∧
    field d 38 1 = (allAccounts.filter (fun a => massInLine s.weigher.line a != 0)).length := by
  have pairs : ((lineByAccount s.weigher.line).flatMap (fun p => slotByte p.1.slot? :: le 4 p.2)).length =
      5 * (lineByAccount s.weigher.line).length := length_flatMap_of_size (fun _ => by simp) _
  rw [← lineByAccount_length]
  have few : (lineByAccount s.weigher.line).length % 256 = (lineByAccount s.weigher.line).length := by
    refine Nat.mod_eq_of_lt ?_
    rw [lineByAccount_length]
    exact Nat.lt_of_le_of_lt (List.length_filter_le _ _) (by decide)
  unfold transitRecord
  cases weighs : s.weigher.weighingLot <;> simp [weighs, pairs, few] <;> omega

/-! ### The reads -/

/-- Settles O9. -/
theorem recordReads : Obligations.RecordReads := by
  refine ⟨fun st s hr => ?_, fun st s hr => ⟨fun id x found => ?_, fun id missing => ?_, ?_, ?_, fun h e => ?_,
    fun i l inLine openLot => lotRecord_fields i l inLine openLot, fun i l inLine free => ?_, unassignedRecord_fields,
    billRecord_fields⟩⟩
  · exact ⟨statusRecord s, exec_read (.readStatus st) hr rfl, statusRecord_length s, statusRecord_fields s⟩
  · have reads : ownReadStep id.toNat s =
        (s, answerOk (stepRecord x ++ ([BitVec.ofNat 8 (stepPosition s.plan id.toNat)] ++ le 2 s.plan.revision))) := by
      simp only [ownReadStep, found, List.append_assoc]
    obtain ⟨number, hold, slot, state, target, placed, effective⟩ := stepRecord_fields x
      ([BitVec.ofNat 8 (stepPosition s.plan id.toNat)] ++ le 2 s.plan.revision)
    refine ⟨_, exec_read (.readStep st id) hr reads, by simp [stepRecord_length], number, hold, slot, state, target, placed,
      effective, ?_⟩
    rw [field_skip _ _ _ _ (by rw [stepRecord_length]; decide), stepRecord_length]
    simp
  · have reads : ownReadStep id.toNat s = (s, answerOnly .notFound) := by simp only [ownReadStep, missing]
    exact exec_read (.readStep st id) hr reads
  · obtain ⟨length, fields⟩ := holdsRecord_fields s
    exact ⟨holdsRecord s, exec_read (.readHolds st) hr rfl, length, fields⟩
  · obtain ⟨length, fields⟩ := transitRecord_fields s
    exact ⟨transitRecord s, exec_read (.readTransit st) hr rfl, length, fields⟩
  · exact ⟨hatchRecord_length h e, hatchRecord_fields h e⟩
  · exact if_neg (by rw [free]; decide)

end Sys2Proof.Machine
end

section
/-! A request on its station's line: laid out as section 8.8 gives it, queued and taken, it is the request command itself. -/

namespace Sys2Proof.Machine

open Sys2Proof

/-! ### The fields of a request body -/

theorem field_word (x : BitVec 16) (rest : List Byte) : field (le 2 x.toNat ++ rest) 0 2 = x.toNat := by
  exact (field_le _ _ rest).trans (Nat.mod_eq_of_lt x.isLt)

theorem field_word_last (x : BitVec 16) : field (le 2 x.toNat) 0 2 = x.toNat := by
  exact (field_le_last _ _).trans (Nat.mod_eq_of_lt x.isLt)

theorem field_long (x : BitVec 32) (rest : List Byte) : field (le 4 x.toNat ++ rest) 0 4 = x.toNat := by
  exact (field_le _ _ rest).trans (Nat.mod_eq_of_lt x.isLt)

theorem field_long_last (x : BitVec 32) : field (le 4 x.toNat) 0 4 = x.toNat := by
  exact (field_le_last _ _).trans (Nat.mod_eq_of_lt x.isLt)

theorem signed16_toNat (x : BitVec 16) : signed16 x.toNat = x.toInt := by
  rw [signed16, BitVec.toInt_eq_toNat_cond]
  split <;> split <;> omega

/-! ### What a line carries -/

/-- The line of a command carries a request that its station may send, with a body of a length that the request allows, and
its owner judges what the body holds as it judges the command. -/
def Carried (st : Station) (f : State → State × Answer) (code : Byte) (body : List Byte) : Prop :=
  ∃ r, requestOf code.toNat = some r ∧ r ≠ .writeCalibration ∧ r.lengthOk body.length = true ∧
    r.cls.allowed st = true ∧ ∀ s, handOver r st body s = f s

theorem carried_of_request {c : Instr} {st : Station} {f : State → State × Answer} (hc : IsRequest c st f) {code : Byte}
    {body : List Byte} (line : lineBytes c = some (code, body)) (formed : c.wellFormed = true)
    (notPresence : ∀ x, c ≠ .presence x) (notCalibration : ∀ z sp b k, c ≠ .writeCalibration z sp b k) :
    Carried st f code body := by
  cases hc with
  | presence x => exact absurd rfl (notPresence x)
  | writeCalibration z sp b k => exact absurd rfl (notCalibration _ _ _ _)
  | openCall callId band =>
    cases band <;> cases line <;> refine ⟨_, rfl, nofun, rfl, rfl, fun s => ?_⟩
    · simp only [handOver, field_long_last, le_length, Nat.reduceEqDiff, if_false, Option.map_none]
    · simp only [handOver, field_long, field_word_last, field_append_right, List.length_append, le_length, Nat.reduceAdd,
        if_true, Nat.le_refl, Nat.sub_self, Option.map_some]
  | openLot number grade refLength reference declared =>
    have length : reference.length = 24 := of_decide_eq_true formed
    cases line
    refine ⟨_, rfl, nofun, ?_, rfl, fun s => ?_⟩
    · simp [Request.lengthOk, length]
    · have named : ((le 4 number.toNat ++ [grade, refLength] ++ reference ++ le 4 declared.toNat).drop 6).take 24 =
          reference := by
        rw [List.append_assoc, List.drop_left' (by simp), List.take_left' length]
      simp only [handOver, named]
      simp only [field_long, field_long_last, field_append_right, field_byte, List.append_assoc, List.cons_append,
        field_cons, List.nil_append, le_length, length, Nat.reduceLeDiff, Nat.reduceSub, Nat.le_refl, Nat.sub_self]
  | _ =>
    cases line
    refine ⟨_, rfl, nofun, rfl, rfl, fun s => ?_⟩
    simp only [handOver, field_word, field_word_last, field_long, field_long_last, field_append_right, field_byte,
      field_cons, signed16_toNat, le_length, List.cons_append, List.nil_append, List.append_assoc, Nat.reduceLeDiff,
      Nat.reduceSub, Nat.le_refl, Nat.sub_self]

/-- A request taken off its line is judged as the command is, Write Calibration with the key as the command has it. -/
theorem judgeEntry_of_line {c : Instr} {st : Station} {f : State → State × Answer} (hc : IsRequest c st f) {code tag : Byte}
    {body : List Byte} (line : lineBytes c = some (code, body)) (formed : c.wellFormed = true)
    (notPresence : ∀ x, c ≠ .presence x)
    {s : State} (key : ∀ z sp b k, c = .writeCalibration z sp b k → k = s.pins.calUnlock) :
    judgeEntry st { code := code, tag := tag, body := body, footerGood := true } s = f s := by
  by_cases calibration : ∃ z sp b k, c = .writeCalibration z sp b k
  · obtain ⟨z, sp, b, k, rfl⟩ := calibration
    obtain rfl := key z sp b k rfl
    cases hc
    cases line
    have stands : setCalUnlock s.pins.calUnlock s = s := rfl
    rw [judgeEntry_of_known (r := .writeCalibration) .office s rfl rfl, calibrationRequest, stands]
    have judged : handOver .writeCalibration .office (le 2 z.toNat ++ le 2 sp.toNat ++ [b]) s =
        ownWriteCalibration z.toNat sp.toNat b.toNat s := by
      simp only [handOver, field_word, field_append_right, field_byte, le_length, List.append_assoc, Nat.reduceLeDiff,
        Nat.reduceSub, Nat.le_refl, Nat.sub_self]
    cases unlocked : s.pins.calUnlock with
    | false => rfl
    | true => exact judged
  · obtain ⟨r, known, other, length, allowed, judged⟩ := carried_of_request hc line formed notPresence
      (fun z sp b k h => calibration ⟨z, sp, b, k, h⟩)
    rw [judgeEntry_of_ok st s rfl known allowed (fun h => absurd h other) length, judged]

/-- Settles O49. -/
theorem takenRequestsDoWhatTheirCommandsDo : Obligations.TakenRequestsDoWhatTheirCommandsDo := by
  intro c st code tag body rest s unlock hr formed sender line notPresence key level idle queued
  obtain ⟨f, hc⟩ := request_of_sender sender
  have stands : setCalUnlock unlock s = s := by rw [← level]; rfl
  have judged : judgeEntry st { code := code, tag := tag, body := body, footerGood := true } s = f s :=
    judgeEntry_of_line hc line formed notPresence fun z sp b k h => (key z sp b k h).trans level.symm
  have taken : exec (.takeRequest st unlock) s = .next (takeHead st unlock s) :=
    exec_arrival_of_running (.takeRequest st unlock) hr
  rw [takeHead_of_queued idle queued, stands, judged] at taken
  obtain ⟨-, -, ports, answer, -⟩ := judgeEntry_frame st { code := code, tag := tag, body := body, footerGood := true } s
  rw [judged] at ports answer
  refine ⟨_, _, (f s).2, taken, exec_request_of_running hc hr, rfl, ?_, ?_, ?_, ?_⟩
  · rw [← answer]
    rfl
  · rw [sendReply, setPort_get_self]
  · rw [sendReply, setPort_get_self, ports]
  · rw [sendReply, setPort_get_self, replyBody, ports]
    rfl

end Sys2Proof.Machine
end

section
/-! Cold-start recovery (chapter 10): what it checks, books, holds and raises, whole and abandoned. -/

namespace Sys2Proof.Machine

open Sys2Proof

/-! ### What the steps of recovery make (R108, R134, R175, R176) -/

/-- The settings record as the check leaves it (R175). -/
def checkedSettings (s : State) : Settings :=
  if s.store.checkWord = checkWord s.store.settings then s.store.settings else Settings.default

/-- The store as the check leaves it (R175). -/
def checkedStore (s : State) : Store := { s.store with
  settings := checkedSettings s
  checkWord := checkWord (checkedSettings s)
  defaulted := if s.store.checkWord = checkWord s.store.settings then s.store.defaulted else true }

/-- The weigher as the check leaves it: a defaulted N rebuilds the line (R20, R24). -/
def checkedWeigher (s : State) : Weigher := { s.weigher with
  line := if s.store.checkWord = checkWord s.store.settings then s.weigher.line
    else List.replicate 160 { mass := 0, tag := none }
  lineTotal := if s.store.checkWord = checkWord s.store.settings then s.weigher.lineTotal else 0 }

theorem checkSettings_eq (s : State) : checkSettings s = { s with
    store := checkedStore s
    weigher := checkedWeigher s
    events := if (checkedStore s).defaulted then s.events.raise .settingsDefaulted else s.events } := by
  by_cases good : s.store.checkWord = checkWord s.store.settings
  · have store : checkedStore s = s.store := by
      rw [checkedStore, checkedSettings, if_pos good, if_pos good, ← good]
    have weigher : checkedWeigher s = s.weigher := by
      rw [checkedWeigher, if_pos good, if_pos good]
    rw [checkSettings_of_good good, store, weigher]
    split <;> rfl
  · rw [checkSettings_of_bad good]
    simp only [checkedStore, checkedWeigher, checkedSettings, if_neg good, if_true]
    rfl

/-- The plan with the ACTIVE step HELD(POWER) (R108). -/
def heldPlan (p : Plan) : Plan := { p with
  revision := if (activeStep p).isSome then (p.revision + 1) % 65536 else p.revision
  steps := p.steps.map (fun x => if x.state = .active then
    { x with state := .held, holdReason := some .power, cutoffReason := none } else x) }

/-- What the hold for a power loss raises (R94, R106). -/
def heldEvents (p : Plan) : List Event :=
  match activeStep p with
  | some st => [.planChanged (heldPlan p).revision, .stepHeld st.id .power]
  | none => []

theorem heldPlan_of_none {p : Plan} (h : activeStep p = none) : heldPlan p = p := by
  have rest : p.steps.map (fun x => if x.state = .active then
      { x with state := .held, holdReason := some .power, cutoffReason := none } else x) = p.steps := by
    refine (List.map_congr_left fun x hx => ?_).trans (List.map_id p.steps)
    exact if_neg fun active => by
      have found := List.find?_eq_none.1 h x hx
      exact found ((Step.isActive_iff x).2 active)
  rw [heldPlan, h, rest]
  rfl

/-- No step is ACTIVE after the hold. -/
theorem activeStep_heldPlan (p : Plan) : activeStep (heldPlan p) = none := by
  rw [activeStep, List.find?_eq_none]
  intro y hy
  obtain ⟨x, -, rfl⟩ := List.mem_map.1 hy
  rw [Step.isActive_iff]
  split
  · exact nofun
  · assumption

theorem heldPlan_heldPlan (p : Plan) : heldPlan (heldPlan p) = heldPlan p := heldPlan_of_none (activeStep_heldPlan p)

/-- The hold for a power loss, with no swap pending (R108). -/
theorem holdForPower_eq {s : State} (noSwap : s.travel.swapPending = false) : holdForPower s = { s with
    plan := heldPlan s.plan
    events := (heldEvents s.plan).foldl (fun x e => x.raise e) s.events } := by
  unfold holdForPower
  cases active : activeStep s.plan with
  | none =>
    dsimp only
    rw [heldPlan_of_none active, heldEvents, active]
    rfl
  | some st =>
    dsimp only
    rw [swapTest_of_not_pending (by exact noSwap), heldEvents, active, heldPlan, active]
    simp only [Plan.updateActive, Step.isActive_iff, Step.heldForPower]
    rfl

/-- The lots once the first `n` accounts are booked (R176). -/
@[irreducible] def bookedLots (n : Nat) (lots : Vector Lot 16) : Vector Lot 16 := (allSlots.take n).foldl bookSlot lots

/-- The accounts once the first `n` are booked (R176). -/
def bookedAccounts (n : Nat) (a : Accounts) : Accounts := { a with
  lots := bookedLots n a.lots
  unassigned := if 16 < n then a.unassigned.book else a.unassigned }

theorem bookFirst_eq (n : Nat) (s : State) : bookFirst n s = { s with accounts := bookedAccounts n s.accounts } := by
  rw [bookFirst, bookedAccounts, bookedLots]

theorem bookedLots_get (n : Nat) (lots : Vector Lot 16) (i : Slot) : (bookedLots n lots).get i =
    if i.val < n then (lots.get i).book else lots.get i := by
  have booked := bookFirst_lot n { State.reset with accounts := { State.reset.accounts with lots := lots } } i
  rw [bookFirst_eq] at booked
  exact booked

theorem bookedAccounts_zero (a : Accounts) : bookedAccounts 0 a = a := by
  rw [bookedAccounts, bookedLots]
  rfl

/-- The completion of recovery: the levels read, and the clocks started (R176). -/
theorem completeRecovery_eq (s : State) : completeRecovery s = { s with
    phase := .running
    converter := if s.pins.refOk then { s.converter.restart with state := .running }
      else { s.converter.notify .referenceFault with state := .halted }
    weigher := { s.weigher with input := if s.pins.refOk then .waiting else .noReference }
    travel := { s.travel with state := if s.pins.estop then .stopped else s.travel.state }
    governor := { s.governor with
      estopLatch := s.governor.estopLatch || s.pins.estop
      beltPermit := s.dust.stage != .trip && !s.pins.estop
      period := some 0 }
    accounts := { s.accounts with second := some 0 }
    events := if s.pins.estop then s.events.raise (.estop false) else s.events } := by
  unfold completeRecovery startConverter
  cases refOk : s.pins.refOk <;> cases estop : s.pins.estop <;>
    simp [readEstop, estop, setBeltPermit, startClocks, raise]

/-! ### Recovery as far as a point -/

/-- How many of the seventeen accounts are booked at a point. -/
def accountsBooked : RecoveryPoint → Nat
  | .begun => 0
  | .checked => 0
  | .booked last => last.val + 1
  | _ => 17

/-- Whether the ACTIVE step is held at a point. -/
abbrev HoldsStep (p : RecoveryPoint) : Prop := p = .held ∨ p = .clamped ∨ p = .raised

/-- Whether the preact is clamped at a point. -/
abbrev ClampsPreact (p : RecoveryPoint) : Prop := p = .clamped ∨ p = .raised

/-- The preact as recovery clamps it (R134). -/
def clampedPreact (s : State) : Nat := min s.governor.preact ((checkedSettings s).preactMax * 100000)

/-- What recovery has made of the state at a point, but for the events (R175, R176). -/
theorem recoveredTo_eq {s : State} (noSwap : s.travel.swapPending = false) (p : RecoveryPoint) : recoveredTo p s = { s with
    store := if p = .begun then s.store else checkedStore s
    weigher := if p = .begun then s.weigher else checkedWeigher s
    plan := if HoldsStep p then heldPlan s.plan else s.plan
    governor := { s.governor with preact := if ClampsPreact p then clampedPreact s else s.governor.preact }
    accounts := bookedAccounts (accountsBooked p) s.accounts
    events := (recoveredTo p s).events } := by
  have held : holdForPower (bookLoss (checkSettings s)) = { s with
      store := checkedStore s
      weigher := checkedWeigher s
      plan := heldPlan s.plan
      accounts := bookedAccounts 17 s.accounts
      events := (holdForPower (bookLoss (checkSettings s))).events } := by
    rw [holdForPower_eq (by simpa using noSwap), bookLoss, bookFirst_eq, checkSettings_eq]
  cases p with
  | begun =>
    rw [accountsBooked, bookedAccounts_zero]
    rfl
  | checked =>
    rw [accountsBooked, bookedAccounts_zero, recoveredTo, checkSettings_eq]
    rfl
  | booked last =>
    rw [recoveredTo, bookFirst_eq, checkSettings_eq]
    rfl
  | held =>
    rw [recoveredTo]
    exact held
  | clamped =>
    rw [recoveredTo, held]
    rfl
  | raised =>
    rw [recoveredTo, held]
    rfl

/-- The events of recovery, up to its COLD_START (R175, R176). -/
theorem recoveredTo_raised_events {s : State} (noSwap : s.travel.swapPending = false) : (recoveredTo .raised s).events =
    ((if (checkedStore s).defaulted then [Event.settingsDefaulted] else []) ++ heldEvents s.plan ++
      [Event.coldStart (bookedTotal s.accounts)]).foldl (fun x e => x.raise e) s.events := by
  rw [recoveredTo, holdForPower_eq (by simpa using noSwap), bookLoss, bookFirst_eq, checkSettings_eq]
  simp only [List.foldl_append, foldl_raise_ite]
  rfl

/-! ### Recovery, whole (R176) -/

/-- The state after recovery. -/
theorem recover_eq {s : State} (noSwap : s.travel.swapPending = false) : recover s = { s with
    phase := .running
    pins := { s.pins with resetN := false }
    store := checkedStore s
    converter := if s.pins.refOk then { s.converter.restart with state := .running }
      else { s.converter.notify .referenceFault with state := .halted }
    weigher := { checkedWeigher s with input := if s.pins.refOk then .waiting else .noReference }
    travel := { s.travel with state := if s.pins.estop then .stopped else s.travel.state }
    plan := heldPlan s.plan
    governor := { s.governor with
      preact := clampedPreact s
      estopLatch := s.governor.estopLatch || s.pins.estop
      beltPermit := s.dust.stage != .trip && !s.pins.estop
      period := some 0 }
    accounts := { bookedAccounts 17 s.accounts with second := some 0 }
    events := ((if (checkedStore s).defaulted then [Event.settingsDefaulted] else []) ++ heldEvents s.plan ++
      [Event.coldStart (bookedTotal s.accounts)] ++ (if s.pins.estop then [Event.estop false] else [])).foldl
        (fun x e => x.raise e) s.events } := by
  have s0NoSwap : ({ s with pins := { s.pins with resetN := false } } : State).travel.swapPending = false := noSwap
  rw [recover, completeRecovery_eq, recoveredTo_eq s0NoSwap, recoveredTo_raised_events s0NoSwap,
    List.foldl_append (l' := if s.pins.estop then [Event.estop false] else []), foldl_raise_ite]
  rfl

/-- The booked total as a sum over the slots in order. -/
theorem bookedTotal_eq (a : Accounts) :
    bookedTotal a = ((List.finRange 16).map (fun i => (a.lots.get i).excess)).sum + a.unassigned.excess := by
  rw [bookedTotal, show allSlots = List.finRange 16 by decide]

/-! ### Recovery abandoned (R174) -/

/-- RESET_N's assertion leaves nothing of the volatile state. -/
theorem resetAsserts_congr {s t : State} (pins : t.pins = s.pins) (store : t.store = s.store)
    (free : t.converter.freeCount = s.converter.freeCount) (lot : t.weigher.weighingLot = s.weigher.weighingLot)
    (travel : t.travel = s.travel) (plan : t.plan = s.plan) (preact : t.governor.preact = s.governor.preact)
    (accounts : t.accounts = s.accounts) (pending : t.pending = s.pending) : resetAsserts t = resetAsserts s := by
  simp only [resetAsserts, coldStart, pins, store, free, lot, travel, plan, preact, accounts, pending]

/-- What an abandoned recovery leaves: what it had written, and the rest as RESET_N leaves it (R174, R176). -/
def leftAt (p : RecoveryPoint) (s : State) : State := { s with
  store := if p = .begun then s.store else checkedStore s
  plan := if HoldsStep p then heldPlan s.plan else s.plan
  governor := { s.governor with preact := if ClampsPreact p then clampedPreact s else s.governor.preact }
  accounts := bookedAccounts (accountsBooked p) s.accounts }

theorem abandonRecovery_eq {s : State} (noSwap : s.travel.swapPending = false) (p : RecoveryPoint) :
    abandonRecovery p s = resetAsserts (leftAt p s) := by
  rw [abandonRecovery, recoveredTo_eq noSwap]
  refine resetAsserts_congr rfl rfl rfl ?_ rfl rfl rfl rfl rfl
  dsimp only
  split <;> rfl

/-! ### Recovery begun again -/

theorem checkedStore_again {s t : State} (store : t.store = s.store ∨ t.store = checkedStore s) :
    checkedStore t = checkedStore s := by
  obtain same | checked := store
  · simp only [checkedStore, checkedSettings, same]
  · have settings : checkedSettings t = checkedSettings s := by
      rw [checkedSettings, checked]
      exact if_pos rfl
    rw [checkedStore, settings, checked]
    simp [checkedStore]

/-- A booked account has nothing left to book. -/
theorem excess_book {l : Ledger} (within : l.booked ≤ l.weighed) (fits : l.weighed < 2 ^ 64) :
    l.book.excess = 0 ∧ l.book.book = l.book := by
  have unplaced : l.book.unplaced = l.unplaced + l.excess := by
    refine massAdd_of_fits _ _ ?_
    simp only [Ledger.excess, Ledger.booked] at within ⊢
    omega
  have nothing : l.book.excess = 0 := by
    simp only [Ledger.excess, Ledger.booked, unplaced] at within ⊢
    simp only [Ledger.book, splitSum] at within ⊢
    omega
  refine ⟨nothing, ?_⟩
  rw [Ledger.book, nothing, massAdd_of_fits]
  · rfl
  · rw [unplaced]
    simp only [Ledger.excess, Ledger.booked] at within ⊢
    omega

section
variable {a : Accounts} (fits : ∀ acc, (a.ledger acc).booked ≤ (a.ledger acc).weighed ∧ (a.ledger acc).weighed < 2 ^ 64)
include fits

theorem lot_book_book (i : Slot) : (a.lots.get i).book.excess = 0 ∧ (a.lots.get i).book.book = (a.lots.get i).book := by
  obtain ⟨within, below⟩ := fits (.lot i)
  obtain ⟨nothing, again⟩ := excess_book (l := (a.lots.get i).ledger) within below
  by_cases isOpen : (a.lots.get i).isOpen = true
  · have booked : (a.lots.get i).book = { a.lots.get i with ledger := (a.lots.get i).ledger.book } := if_pos isOpen
    rw [booked]
    refine ⟨(if_pos isOpen).trans nothing, (if_pos isOpen).trans ?_⟩
    rw [again]
  · have free : (a.lots.get i).book = a.lots.get i := if_neg isOpen
    rw [free, free]
    exact ⟨if_neg isOpen, rfl⟩

variable (n : Nat)

/-- The booking begun again ends as one that was not abandoned. -/
theorem bookedLots_again : bookedLots 17 (bookedLots n a.lots) = bookedLots 17 a.lots := by
  refine Vector.ext fun k hk => ?_
  have at_k (v : Vector Lot 16) : v[k] = v.get ⟨k, hk⟩ := rfl
  rw [at_k, at_k, bookedLots_get, bookedLots_get, bookedLots_get, if_pos (show k < 17 by omega), if_pos (show k < 17 by omega)]
  split
  · exact (lot_book_book fits ⟨k, hk⟩).2
  · rfl

theorem bookedAccounts_again :
    (bookedAccounts 17 (bookedAccounts n a)).unassigned = (bookedAccounts 17 a).unassigned := by
  obtain ⟨within, below⟩ := fits .unassigned
  have again := (excess_book (l := a.unassigned) within below).2
  have every (u : Ledger) : (if 16 < 17 then u.book else u) = u.book := rfl
  simp only [bookedAccounts, every]
  split
  · exact again
  · rfl

/-- What is left to book after the first `n` accounts. -/
theorem bookedTotal_left : bookedTotal (bookedAccounts n a) =
    ((List.finRange 16).map (fun i => if i.val < n then 0 else (a.lots.get i).excess)).sum +
      (if 16 < n then 0 else a.unassigned.excess) := by
  obtain ⟨within, below⟩ := fits .unassigned
  have nothing := (excess_book (l := a.unassigned) within below).1
  rw [bookedTotal_eq]
  congr 2
  · refine List.map_congr_left fun i _ => ?_
    simp only [bookedAccounts]
    rw [bookedLots_get]
    split
    · exact (lot_book_book fits i).1
    · rfl
  · simp only [bookedAccounts]
    split
    · exact nothing
    · rfl

end

/-! ### The COLD_START entry (R169, R176) -/

theorem Events.get_raise (x : Events) (e : Event) (st : Station) :
    (x.raise e).get st = if e.goesTo st then (x.get st).enter e else x.get st := by
  cases st <;> rfl

/-- An event of a kind that a set does not hold is entered with count 1. -/
theorem mem_enterEvent_new {e : Event} {entries : List PendingEvent} (absent : ∀ p ∈ entries, p.event.kind ≠ e.kind) :
    { event := e, count := 1 } ∈ enterEvent e entries := by
  induction entries with
  | nil => exact List.mem_singleton.2 rfl
  | cons p ps ih =>
    rw [enterEvent, if_neg (fun same => absent p List.mem_cons_self same.symm)]
    split
    · exact List.mem_cons_self
    · exact List.mem_cons_of_mem p (ih fun q hq => absent q (List.mem_cons_of_mem p hq))

/-- An event of another kind leaves an entry. -/
theorem mem_enterEvent_other {e : Event} {entries : List PendingEvent} {p : PendingEvent} (there : p ∈ entries)
    (other : e.kind ≠ p.event.kind) : p ∈ enterEvent e entries := by
  induction entries with
  | nil => exact nomatch there
  | cons q qs ih =>
    rw [enterEvent]
    obtain rfl | later := List.mem_cons.1 there
    · rw [if_neg other]
      split <;> simp
    · split
      · exact List.mem_cons_of_mem _ later
      · split
        · exact List.mem_cons_of_mem _ there
        · exact List.mem_cons_of_mem _ (ih later)

section
variable {st : Station} {e : Event}

theorem absent_of_raised {events : List Event} (other : ∀ f ∈ events, f.kind ≠ e.kind) {x : Events}
    (absent : ∀ p ∈ (x.get st).entries, p.event.kind ≠ e.kind) :
    ∀ p ∈ ((events.foldl (fun x f => x.raise f) x).get st).entries, p.event.kind ≠ e.kind := by
  induction events generalizing x with
  | nil => exact absent
  | cons f fs ih =>
    refine ih (fun g hg => other g (List.mem_cons_of_mem f hg)) fun p hp => ?_
    rw [Events.get_raise] at hp
    split at hp
    · obtain kind | before := mem_enterEvent_kind hp
      · rw [kind]
        exact other f List.mem_cons_self
      · exact absent p before
    · exact absent p hp

theorem present_of_raised {events : List Event} (other : ∀ f ∈ events, f.kind ≠ e.kind) {x : Events} {n : Nat}
    (present : { event := e, count := n } ∈ (x.get st).entries) :
    { event := e, count := n } ∈ ((events.foldl (fun x f => x.raise f) x).get st).entries := by
  induction events generalizing x with
  | nil => exact present
  | cons f fs ih =>
    refine ih (fun g hg => other g (List.mem_cons_of_mem f hg)) ?_
    rw [Events.get_raise]
    split
    · exact mem_enterEvent_other present (other f List.mem_cons_self)
    · exact present

/-- The one event of its kind raised, into sets that hold none of it, stands in each subscriber's set with count 1. -/
theorem mem_of_raised_once {before after : List Event} (others : ∀ f ∈ before ++ after, f.kind ≠ e.kind)
    (subscribes : e.goesTo st = true) {x : Events} (absent : ∀ p ∈ (x.get st).entries, p.event.kind ≠ e.kind) :
    { event := e, count := 1 } ∈ (((before ++ [e] ++ after).foldl (fun x f => x.raise f) x).get st).entries := by
  rw [List.foldl_append, List.foldl_append]
  refine present_of_raised (fun f hf => others f (List.mem_append_right before hf)) ?_
  have entered := Events.get_raise (before.foldl (fun x f => x.raise f) x) e st
  rw [if_pos subscribes] at entered
  rw [List.foldl_cons, List.foldl_nil, entered]
  exact mem_enterEvent_new (absent_of_raised (fun f hf => others f (List.mem_append_left after hf)) absent)

end

theorem coldStart_raised_once (x : Events) (cold : ∀ st, x.get st = EventSet.cold) (defaulted estop : Bool) (p : Plan)
    (total : Nat) (st : Station) : { event := .coldStart total, count := 1 } ∈
      ((((if defaulted then [Event.settingsDefaulted] else []) ++ heldEvents p ++ [Event.coldStart total] ++
        (if estop then [Event.estop false] else [])).foldl (fun x e => x.raise e) x).get st).entries := by
  refine mem_of_raised_once (fun f hf => ?_) (by cases st <;> rfl) (fun q hq => ?_)
  · obtain (checked | held) | read := (List.mem_append.1 hf).imp_left List.mem_append.1
    · cases defaulted with
      | false => exact nomatch checked
      | true =>
        obtain rfl := List.mem_singleton.1 checked
        exact nofun
    · unfold heldEvents at held
      cases active : activeStep p with
      | none =>
        rw [active] at held
        exact nomatch held
      | some step =>
        rw [active] at held
        obtain rfl | held := List.mem_cons.1 held
        · exact nofun
        · obtain rfl := List.mem_singleton.1 held
          exact nofun
    · cases estop with
      | false => exact nomatch read
      | true =>
        obtain rfl := List.mem_singleton.1 read
        exact nofun
  · rw [cold st] at hq
    exact nomatch hq

/-- A recovery begun again ends with the nonvolatile items of one that was not abandoned, and its COLD_START carries what it
books itself (R174, R176). -/
theorem recover_leftAt {s : State} (noSwap : s.travel.swapPending = false) (p : RecoveryPoint)
    (fits : ∀ acc, (s.accounts.ledger acc).booked ≤ (s.accounts.ledger acc).weighed ∧
      (s.accounts.ledger acc).weighed < 2 ^ 64) :
    let u := recover (resetAsserts (leftAt p s))
    let v := recover s
    u.phase = .running ∧ u.store = v.store ∧ u.plan = v.plan ∧ u.accounts.lots = v.accounts.lots ∧
    u.accounts.unassigned = v.accounts.unassigned ∧ u.governor.preact = v.governor.preact ∧
    ∀ st, { event := .coldStart (bookedTotal (bookedAccounts (accountsBooked p) s.accounts)), count := 1 } ∈
      (u.events.get st).entries := by
  have store : checkedStore (resetAsserts (leftAt p s)) = checkedStore s := by
    refine checkedStore_again ?_
    by_cases begun : p = .begun
    · exact .inl (if_pos begun)
    · exact .inr (if_neg begun)
  have settings : checkedSettings (resetAsserts (leftAt p s)) = checkedSettings s := congrArg Store.settings store
  have plan : heldPlan (leftAt p s).plan = heldPlan s.plan := by
    by_cases holds : HoldsStep p
    · rw [show (leftAt p s).plan = heldPlan s.plan from if_pos holds, heldPlan_heldPlan]
    · rw [show (leftAt p s).plan = s.plan from if_neg holds]
  have preact : clampedPreact (resetAsserts (leftAt p s)) = clampedPreact s := by
    rw [clampedPreact, settings]
    by_cases clamps : ClampsPreact p
    · rw [show (resetAsserts (leftAt p s)).governor.preact = clampedPreact s from if_pos clamps, clampedPreact, min_assoc,
        min_self]
    · rw [show (resetAsserts (leftAt p s)).governor.preact = s.governor.preact from if_neg clamps]
      rfl
  intro u v
  rw [show u = _ from recover_eq (s := resetAsserts (leftAt p s)) rfl, show v = _ from recover_eq noSwap]
  exact ⟨rfl, store, plan, bookedLots_again fits _, bookedAccounts_again fits _, preact,
    coldStart_raised_once _ (fun st => by cases st <;> rfl) _ _ _ _⟩

/-- Settles O7. -/
theorem recoveryOutcome : Obligations.RecoveryOutcome := by
  refine ⟨fun s a hr => ?_, fun s cold noSwap => ?_⟩
  · exact congrArg Host.Outcome.next (if_pos ((isRunning_iff s).2 hr))
  · have notRunning : ¬ s.isRunning = true := by simp [State.isRunning, cold]
    have whole : exec (.coldStartRecovery none) s = .next (recover s) := congrArg Host.Outcome.next (if_neg notRunning)
    intro good settings defaulted store excess lotExcess total bookedLot bookedUnassigned revision plan preact
    have lots (i : Slot) : (s.accounts.lots.get i).book = bookedLot i := rfl
    refine ⟨⟨_, whole, ?_⟩, fun p => ?_⟩
    · rw [recover_eq noSwap]
      refine ⟨rfl, rfl, rfl, rfl, rfl, rfl, ?_, ?_, rfl, rfl, rfl, rfl, fun i => ?_, rfl, rfl, rfl, rfl, rfl, rfl, rfl,
        rfl, ?_⟩
      · dsimp only
        split <;> rfl
      · dsimp only
        split <;> simp [Converter.restart, Converter.notify]
      · exact (bookedLots_get 17 s.accounts.lots i).trans (if_pos (by omega))
      · have sum : bookedTotal s.accounts = total := bookedTotal_eq s.accounts
        dsimp only
        rw [sum]
        cases active : activeStep s.plan <;> simp only [heldEvents, active] <;> rfl
    · have abandoned : exec (.coldStartRecovery (some p)) s = .next (resetAsserts (leftAt p s)) := by
        rw [← abandonRecovery_eq noSwap]
        exact congrArg Host.Outcome.next (if_neg notRunning)
      intro n
      have count : n = accountsBooked p := by cases p <;> rfl
      have all : n = 17 ↔ 16 < accountsBooked p := by
        rw [count]
        cases p with
        | booked last => exact ⟨fun h => by omega, fun h => by simp only [accountsBooked] at h ⊢; omega⟩
        | _ => decide
      refine ⟨⟨bookedAccounts (accountsBooked p) s.accounts, abandoned, rfl, fun i => ?_, ?_⟩, fun fits => ?_⟩
      · rw [count]
        exact bookedLots_get _ _ i
      · exact if_congr all.symm rfl rfl
      · obtain ⟨running, stores, plans, lots, unassigned, preacts, entry⟩ := recover_leftAt noSwap p fits
        have again : exec (.coldStartRecovery none) (resetAsserts (leftAt p s)) = .next (recover (resetAsserts (leftAt p s))) :=
          congrArg Host.Outcome.next (if_neg nofun)
        refine ⟨_, _, _, abandoned, again, whole, running, stores, plans, lots, unassigned, preacts, ?_⟩
        rw [bookedTotal_left fits, ← count] at entry
        rw [← count] at all
        simp only [← all] at entry
        exact entry

end Sys2Proof.Machine
end
